-- ==== Sys2Proof/Word.lean ====
section
/-! DEFINITION. The octet of the part's links and records, and the numbering of products. -/

namespace Sys2Proof

/-- One octet of a frame or a record (chapter 11). -/
abbrev Byte := BitVec 8

/-- A run of octets, the octet sent first at the head of the list. -/
abbrev Octets := List Byte

/-- Products are numbered 0 to 7 (spec/00_scope.md, Numbering). -/
abbrev Product := Fin 8

end Sys2Proof
end

