-- ==== Sys2Proof/Config.lean ====
section
/-! DEFINITION. What the part fixes (capacities and widths the rules name), and the free values. -/

namespace Sys2Proof.Config

/-- Fleet Table slots, 0 to 4095 (chapter 1). -/
def slots : Nat := 4096
/-- Feeders, 0 to 63 (chapter 1). -/
def feeders : Nat := 64
/-- Windows of the ring after the current window (R47). -/
def ringAfter : Nat := 47
/-- Records the Offer Book holds at most (R82). -/
def bookSize : Nat := 512
/-- Live offers of one product and window at most (R82). -/
def ladderSize : Nat := 8
/-- Waiting requests at most (R182). -/
def requestQueueSize : Nat := 8
/-- Waiting notices at most (R182). -/
def noticeQueueSize : Nat := 32
/-- Frames the Fleet, Grid and Meter ingress buffers hold (R168). -/
def fleetBuffer : Nat := 64
def gridBuffer : Nat := 16
def meterBuffer : Nat := 4
/-- Entries of one DISPATCH_ORDER frame at most (R133). -/
def entriesPerFrame : Nat := 120
/-- Closed window records a product's history keeps (R145). -/
def historySize : Nat := 4
/-- The saturating bound of an error count (R171). -/
def errorCountMax : Nat := 4095
/-- The saturating bound of the 16-bit counts (R26, R104, R145). -/
def count16Max : Nat := 65535
/-- The largest device time (R41), and the largest value of the 48-bit local count (R40). -/
def time48Max : Nat := 281474976710655

/-- FREE VALUE (DESIGN CHOICE, log entry 1): what the 48-bit local count shows one millisecond after it holds its
largest value. R40 gives the count 48 bits and says only that it does not fill within 8,900 years.
Nothing can be proved of it; the argument is the model's own draw counter. -/
opaque localTimeAfterFull : Nat → BitVec 48

/-- FREE VALUE (DESIGN CHOICE, log entry 48): whether the Fleet Table takes a limit report before anything else reaches
the slot. R38 and R140 allow both orders and choose none. Nothing can be proved of it; the argument is the model's own
draw counter. -/
opaque limitReportAtOnce : Nat → Bool

end Sys2Proof.Config
end

