-- ==== Sys2Proof/Syntax.lean ====
section
/-! DEFINITION. The part's commands: one constructor for each row of spec/opcode_table.json, in the table's order.
A row that takes its content from a buffer, a queue or a timer of the part carries no operand of its own. -/

namespace Sys2Proof

/-- The three framed serial links (chapter 9). -/
inductive Port where
  | fleet | grid | meter
  deriving DecidableEq, Repr

/-- The operations and events of the part, one per row of spec/opcode_table.json.
`take` of the four table requests says how many record events the step performs (R184: each record is one
event of its own): `none` performs all that remain, `some k` the next `k` (DEDUCED, log entries 5 and 37). -/
inductive Instr where
  /-- COLD_RESET: the reset input is asserted (R21 and every chapter's reset rule). -/
  | coldReset
  /-- SIGNAL_LOSS: the lower layer reports signal loss on a link (R172). -/
  | signalLoss (port : Port)
  /-- SIGNAL_PRESENCE: the lower layer reports signal presence on a link (R173). -/
  | signalPresence (port : Port)
  /-- FRAME_RECEIVED: the lower layer delivers one frame, its octets with their count (R164). -/
  | frameReceived (port : Port) (octets : Octets)
  /-- LINK_TIMEOUT: local time reaches a port's link expiry (R172). -/
  | linkTimeout (port : Port)
  /-- SITE_REPORT: Telemetry Intake takes the head frame of the Fleet buffer (R23). -/
  | siteReport
  /-- SITE_AGEING: a site's report age reaches a bound (R5). -/
  | siteAgeing (slot : Nat)
  /-- SUSPECT_EXPIRY: local time reaches a site's suspect expiry (R7). -/
  | suspectExpiry (slot : Nat)
  /-- CLOCK_MARK: the Time Base takes a CLOCK_MARK at the head of the Grid buffer (R42 to R45). -/
  | clockMark
  /-- HOLD_END: the hold remainder reaches 0 (R46). -/
  | holdEnd
  /-- WINDOW_BOUNDARY: device time reaches the start of window `window` (R47). -/
  | windowBoundary (window : Nat)
  /-- GATE_CLOSURE: device time reaches the gate of (`product`, `window`) (R48). -/
  | gateClosure (product : Product) (window : Nat)
  /-- EFFECTIVE_TIME_ARRIVAL: device time reaches a registered effective time (R113). -/
  | effectiveTimeArrival (product : Product) (time : Nat)
  /-- OFFER_RESULT: the Offer Book takes an OFFER_RESULT at the head of the Grid buffer (R90). -/
  | offerResult
  /-- ACTIVATION_ORDER: the Activation Unit takes an order at the head of the Grid buffer (R111). -/
  | activationOrder
  /-- ACTIVATION_END: the Activation Unit takes an end at the head of the Grid buffer (R114). -/
  | activationEnd
  /-- FREQ_SAMPLE: the Activation Unit takes the head frame of the Meter buffer (R116). -/
  | freqSample
  /-- SAMPLE_TIMEOUT: the silence reaches the sample timeout (R118). -/
  | sampleTimeout
  /-- SAMPLE_LOSS: the silence reaches the sample timeout plus the hold time (R118). -/
  | sampleLoss
  /-- CENSUS_INTERVAL_EXPIRY: the census interval timer expires (R65). -/
  | censusIntervalExpiry
  /-- CENSUS_SLOT_READ: the running census reads its next slot (R67). -/
  | censusSlotRead
  /-- CENSUS_PUBLISH: the completed census publishes (R74). -/
  | censusPublish
  /-- ALLOCATION_PASS_END: the running pass ends (R131). -/
  | allocationPassEnd
  /-- RELEASE_BEGIN: a release begins (R132). -/
  | releaseBegin
  /-- FLEET_TRANSMIT_DONE: the Fleet transmitter has finished its frame (R180). -/
  | fleetTransmitDone
  /-- CONFIRMATION_TIMEOUT: local time reaches a slot's confirmation expiry (R138). -/
  | confirmationTimeout (slot : Nat)
  /-- PERFORMANCE_INTERVAL_END: the performance interval timer expires (R147). -/
  | performanceIntervalEnd
  /-- HEARTBEAT: the heartbeat timer expires (R159). -/
  | heartbeat
  /-- GRID_TRANSMIT_DONE: the Grid transmitter has finished its frame (R178). -/
  | gridTransmitDone
  /-- REQUEST_ENQUEUE: a REQUEST at the head of the Grid buffer goes to the request queue (R183). -/
  | requestEnqueue
  /-- The requests: the Management Unit executes the request at the head of its queue (R184). -/
  | setWindow
  | writeRecords (take : Option Nat)
  | writeContinue (take : Option Nat)
  | readRecords (take : Option Nat)
  | readContinue (take : Option Nat)
  | setReturnLimit
  | barSite
  | clearSite
  | removeSite
  | writeProduct
  | stageProduct
  | cancelStage
  | applyNow
  | createOffer
  | updateOffer
  | submitOffer
  | withdrawOffer
  | retireOffers
  | readOfferReserved
  | updateOfferConditional
  | requestCensus
  | readStatus
  | readLinkErrors
  | setParameters
  | restart
  /-- REQUEST_OUT_OF_FORMAT: the request at the head names no request (R183). -/
  | requestOutOfFormat
  deriving DecidableEq, Repr

end Sys2Proof
end

