-- ==== Sys2Proof/Decode.lean ====
section
/-! DEFINITION. The command a table word spells. No row of spec/opcode_table.json gives bits (every row's
"fields" is empty), so no word spells a command. -/

namespace Sys2Proof

/-- spec/opcode_table.json gives no row a bit pattern: every word spells none of its rows (log entry 36). -/
def decodeTableWord (_nbits _w : Nat) : Option Instr := none

end Sys2Proof
end

