-- ==== Sys2Proof/Machine/Tables.lean ====
section
/-! DEFINITION. The two containers State is made of: eight values, one for each product, and a table of the
entries of a numbered store (slots, feeders, windows) that differ from what an unlisted index reads as. -/

namespace Sys2Proof.Machine

/-- One value for each product 0 to 7. -/
structure PerProduct (α : Type) where
  p0 : α
  p1 : α
  p2 : α
  p3 : α
  p4 : α
  p5 : α
  p6 : α
  p7 : α
  deriving DecidableEq, Repr

/-- The eight products in ascending number. -/
def allProducts : List Product := [0, 1, 2, 3, 4, 5, 6, 7]

/-- The value of product `p`. -/
def PerProduct.get {α : Type} (x : PerProduct α) (p : Product) : α :=
  match p with
  | 0 => x.p0
  | 1 => x.p1
  | 2 => x.p2
  | 3 => x.p3
  | 4 => x.p4
  | 5 => x.p5
  | 6 => x.p6
  | 7 => x.p7

/-- The eight values of a function of the product. -/
def PerProduct.ofFn {α : Type} (f : Product → α) : PerProduct α :=
  ⟨f 0, f 1, f 2, f 3, f 4, f 5, f 6, f 7⟩

/-- The same value for every product. -/
def PerProduct.all {α : Type} (a : α) : PerProduct α := ⟨a, a, a, a, a, a, a, a⟩

/-- `x` with product `p`'s value replaced. -/
def PerProduct.set {α : Type} (x : PerProduct α) (p : Product) (a : α) : PerProduct α :=
  match p with
  | 0 => { x with p0 := a }
  | 1 => { x with p1 := a }
  | 2 => { x with p2 := a }
  | 3 => { x with p3 := a }
  | 4 => { x with p4 := a }
  | 5 => { x with p5 := a }
  | 6 => { x with p6 := a }
  | 7 => { x with p7 := a }

/-- The eight values in ascending product number. -/
def PerProduct.toList {α : Type} (x : PerProduct α) : List α :=
  [x.p0, x.p1, x.p2, x.p3, x.p4, x.p5, x.p6, x.p7]

/-- The sum of the eight values. -/
def PerProduct.sum (x : PerProduct Nat) : Nat :=
  x.p0 + x.p1 + x.p2 + x.p3 + x.p4 + x.p5 + x.p6 + x.p7

/-- A table keyed by number, in one canonical form: keys strictly rising. -/
abbrev Table (α : Type) := List (Nat × α)

/-- The entry at key `k`, if the table lists one. -/
def Table.find {α : Type} (t : Table α) (k : Nat) : Option α :=
  match t with
  | [] => none
  | (j, a) :: rest => if j = k then some a else if k < j then none else Table.find rest k

/-- `t` with the entry at key `k` set to `a`, keys still rising. -/
def Table.put {α : Type} (t : Table α) (k : Nat) (a : α) : Table α :=
  match t with
  | [] => [(k, a)]
  | (j, b) :: rest =>
    if j = k then (k, a) :: rest
    else if k < j then (k, a) :: (j, b) :: rest
    else (j, b) :: Table.put rest k a

/-- `t` without an entry at key `k`. -/
def Table.drop {α : Type} (t : Table α) (k : Nat) : Table α :=
  match t with
  | [] => []
  | (j, b) :: rest =>
    if j = k then rest else if k < j then (j, b) :: rest else (j, b) :: Table.drop rest k

/-- The value at key `k`, an unlisted key reading as `d`. -/
def Table.readOr {α : Type} (t : Table α) (d : α) (k : Nat) : α := (Table.find t k).getD d

/-- `t` with the value at key `k` set to `a`; a value equal to what an unlisted key reads as is not listed. -/
def Table.writeOr {α : Type} [DecidableEq α] (t : Table α) (d : α) (k : Nat) (a : α) : Table α :=
  if a = d then Table.drop t k else Table.put t k a

/-- Keys strictly rising, all at or above `low`. -/
def Table.risingFrom {α : Type} (t : Table α) (low : Nat) : Bool :=
  match t with
  | [] => true
  | (j, _) :: rest => decide (low ≤ j) && Table.risingFrom rest (j + 1)

/-- The canonical form of a table: keys strictly rising. -/
def Table.wf {α : Type} (t : Table α) : Bool := Table.risingFrom t 0

/-- The canonical form of a table whose unlisted keys read as `d`: no entry equal to `d` besides. -/
def Table.wfOr {α : Type} [DecidableEq α] (t : Table α) (d : α) : Bool :=
  Table.wf t && t.all (fun e => decide (e.2 ≠ d))

/-- The sum of `f` over a list. -/
def sumOf {α : Type} (l : List α) (f : α → Nat) : Nat :=
  match l with
  | [] => 0
  | a :: rest => f a + sumOf rest f

/-- Insertion into a list ordered by `before` (an element goes after the ones it does not precede). -/
def insertOrdered {α : Type} (before : α → α → Bool) (a : α) (l : List α) : List α :=
  match l with
  | [] => [a]
  | b :: rest => if before a b then a :: b :: rest else b :: insertOrdered before a rest

/-- A list put in order by insertion; elements neither of which precedes the other keep their order. -/
def ordered {α : Type} (before : α → α → Bool) (l : List α) : List α :=
  l.foldl (fun acc a => insertOrdered before a acc) []

/-- The list cut into runs of `n`, the last one shorter (`fuel` bounds the number of runs). -/
def chunks {α : Type} (fuel n : Nat) (l : List α) : List (List α) :=
  match fuel with
  | 0 => []
  | f + 1 => if l.isEmpty then [] else l.take n :: chunks f n (l.drop n)

end Sys2Proof.Machine
end

