-- ==== Sys2Proof/Machine/State.lean ====
section
/-! DEFINITION. The state of the G240, block by block as spec/00_scope.md gives each block what it owns, the
outcomes' reasons, and the state after a cold reset. -/

namespace Sys2Proof.Machine

/-! ## Faults and refusals -/

/-- The part names no fault that stops it: every operation and event of the table leaves a next state, so no
meaning raises a fault. Raised by nobody, hence safe (DEDUCED, log entry 28). -/
inductive Fault where
  deriving DecidableEq, Repr

/-- Why a command has no meaning. -/
inductive Refusal where
  /-- Raised only by an arm of `exec` whose command has no meaning yet (there is none). Safe. -/
  | notModelled (mnemonic : String)
  deriving DecidableEq, Repr

/-! ## Sites and feeders (chapter 1) -/

/-- R1: the site states. A VACANT slot is one the table of sites does not list. -/
inductive SiteState where
  | vacant | listed | active | ageing | stale | suspect | barred
  deriving DecidableEq, Repr

/-- R3: the condition a report carries. -/
inductive Condition where
  | normal | limited | fault
  deriving DecidableEq, Repr

/-- R8, R14: why a site is BARRED. -/
inductive BarReason where
  | host | tag
  deriving DecidableEq, Repr

/-- R2: the fields a site load writes. -/
structure StaticFields where
  siteNumber : Nat
  feeder : Nat
  participation : BitVec 8
  tag : BitVec 128
  dischargeRating : Nat
  chargeRating : Nat
  eFloor : Nat
  eCeil : Nat
  deriving DecidableEq, Repr

/-- R3: the fields of the last accepted report. -/
structure ReportFields where
  pNow : Int
  eStored : Nat
  eUsable : Nat
  dischargeAvail : Nat
  chargeAvail : Nat
  condition : Condition
  sequence : Nat
  receiptTime : Nat
  appliedRelease : Nat
  appliedOffset : Int
  clamped : Bool
  deriving DecidableEq, Repr

/-- R1: the record of an occupied slot. -/
structure Site where
  state : SiteState
  static : StaticFields
  report : Option ReportFields
  barReason : Option BarReason
  suspectExpiry : Option Nat
  tagRun : Nat
  deriving DecidableEq, Repr

/-- R17: a feeder record. -/
structure Feeder where
  capUp : Nat
  capDown : Nat
  enabled : Bool
  siteCount : Nat
  deriving DecidableEq, Repr

/-- R21: every feeder after a cold reset; what an unlisted feeder number reads as. -/
def Feeder.reset : Feeder := { capUp := 0, capDown := 0, enabled := true, siteCount := 0 }

/-- The Fleet Table with its Site Map and Feeder Table. `sites` lists the occupied slots by slot number;
`siteMap` lists the entries of R10 by site number. -/
structure Fleet where
  sites : Table Site
  siteMap : Table Nat
  feeders : Table Feeder
  deriving DecidableEq, Repr

/-! ## Time (chapter 3) -/

/-- R41: device time with its state and hold remainder. -/
inductive Clock where
  | notSet
  | running (device : Nat)
  | holding (device remainder : Nat)
  deriving DecidableEq, Repr

/-- The Time Base. -/
structure TimeBase where
  /-- R40: local elapsed time, ms. -/
  localTime : Nat
  /-- R41. -/
  clock : Clock
  /-- R48: the gate mark of each product, absent while device time is NOT_SET. -/
  gateMarks : PerProduct (Option Nat)
  /-- R47 "after having stood below it": the window whose boundary was last raised or set (DEDUCED, log entry 7). -/
  boundaryMark : Option Nat
  /-- R113: the effective time registered for each product's pending order. -/
  effective : PerProduct (Option Nat)
  deriving DecidableEq, Repr

/-! ## Products (chapter 3) -/

inductive Direction where
  | up | down
  deriving DecidableEq, Repr

inductive Mode where
  | signalled | frequency
  deriving DecidableEq, Repr

/-- R155: the eight conditions, as a set. -/
structure CondSet where
  shortfall : Bool
  futureShortfall : Bool
  freqLoss : Bool
  fleetLinkDown : Bool
  meterLinkDown : Bool
  timeNotSet : Bool
  noCensus : Bool
  deliveryAlarm : Bool
  deriving DecidableEq, Repr

/-- R51: one product record. -/
structure Bank where
  enabled : Bool
  code : Nat
  direction : Direction
  mode : Mode
  priority : Nat
  endurance : Nat
  minBid : Nat
  increment : Nat
  maxBid : Nat
  margin : Nat
  gateLead : Nat
  deadband : Nat
  fullDeviation : Nat
  stepThreshold : Nat
  tolerance : Nat
  deficientThreshold : Nat
  mask : CondSet
  deriving DecidableEq, Repr

/-- A product's context: both banks and the staged mark (section 3.5). -/
structure ProductContext where
  active : Bank
  pendingBank : Bank
  staged : Bool
  deriving DecidableEq, Repr

/-- The conditions of R52's unavailability mask and of R160's condition notice mask. -/
def CondSet.defaultMask : CondSet :=
  { shortfall := true, futureShortfall := false, freqLoss := true, fleetLinkDown := true, meterLinkDown := true,
    timeNotSet := true, noCensus := true, deliveryAlarm := false }

/-- R52: the default record of product `p`. -/
def Bank.reset (p : Product) : Bank :=
  { enabled := false, code := p.val + 1, direction := .up, mode := .signalled, priority := p.val, endurance := 900,
    minBid := 1000, increment := 1000, maxBid := 1000000, margin := 0, gateLead := 0, deadband := 200,
    fullDeviation := 500, stepThreshold := 100, tolerance := 100, deficientThreshold := 10,
    mask := CondSet.defaultMask }

/-! ## The census (chapter 4) -/

/-- R62: what a census sweeps. -/
inductive CensusKind where
  | full
  | select (feeder : Nat)
  deriving DecidableEq, Repr

/-- A feeder's two caps. -/
structure Caps where
  up : Nat
  down : Nat
  deriving DecidableEq, Repr

/-- R67: what a run keeps of a slot it counted. -/
structure SweepRecord where
  slot : Nat
  siteNumber : Nat
  feeder : Nat
  headroomUp : Nat
  headroomDown : Nat
  budgetUp : Nat
  budgetDown : Nat
  shares : PerProduct Nat
  deriving DecidableEq, Repr

/-- A run in flight (R66, R67, R72): `nextSlot` is the next slot the sweep reads, 4096 when it is complete; `sweep` holds
the sweep records made so far and `swept` the slots that the run has swept, counted or not. -/
structure CensusRun where
  kind : CensusKind
  banks : PerProduct Bank
  caps : Table Caps
  nextSlot : Nat
  sweep : List SweepRecord
  swept : List Nat
  deriving DecidableEq, Repr

/-- R74: a product's fields of the Snapshot. -/
structure SnapshotProduct where
  available : Nat
  offerable : Nat
  contributing : Nat
  clippedFeeders : Nat
  deriving DecidableEq, Repr

/-- R74: the Capacity Snapshot. -/
structure Snapshot where
  number : Nat
  kind : CensusKind
  localTime : Nat
  deviceTime : Option Nat
  products : PerProduct SnapshotProduct
  deriving DecidableEq, Repr

/-- R72: the Roster's record of one feeder. -/
structure FeederRecord where
  caps : Caps
  totals : PerProduct Nat
  clipped : PerProduct Bool
  deriving DecidableEq, Repr

/-- What an unlisted feeder of a Roster reads as. -/
def FeederRecord.zero : FeederRecord :=
  { caps := ⟨0, 0⟩, totals := PerProduct.all 0, clipped := PerProduct.all false }

/-- R74: one entry of the Roster. -/
structure RosterEntry where
  siteNumber : Nat
  feeder : Nat
  shares : PerProduct Nat
  census : Nat
  deriving DecidableEq, Repr

/-- R74: the Roster: feeder records by feeder, entries by slot. -/
structure Roster where
  feeders : Table FeederRecord
  entries : Table RosterEntry
  deriving DecidableEq, Repr

/-- R61: the Snapshot and the Roster are always both present or both absent. -/
structure Publication where
  snapshot : Snapshot
  roster : Roster
  deriving DecidableEq, Repr

/-- R61: the Census Engine. The census state is RUNNING while `run` is present. `timerBase` is the start of
the last full census, or the last reset or restart, from which R65 recomputes the expiry (DEDUCED, log entry 7). -/
structure Census where
  run : Option CensusRun
  fullPending : Bool
  selectPending : Option Nat
  banksSwitched : Bool
  counter : Nat
  published : Option Publication
  timerExpiry : Nat
  timerBase : Nat
  deriving DecidableEq, Repr

/-! ## The Offer Book (chapter 5) -/

inductive OfferMode where
  | fixed | follow
  deriving DecidableEq, Repr

/-- Section 5.2: the offer states. -/
inductive OfferState where
  | draft | queued | submitted | withdrawing | accepted | partialAccepted | inDelivery | rejected | withdrawn
  | expired | lapsed | closed
  deriving DecidableEq, Repr

/-- R80: an offer record. -/
structure Offer where
  id : Nat
  order : Nat
  product : Product
  window : Nat
  mode : OfferMode
  quantity : Nat
  price : Int
  state : OfferState
  accepted : Option Nat
  reason : Option Nat
  withdrawLate : Option Bool
  deriving DecidableEq, Repr

/-- The Offer Book with its Commitment Table and reservation. `offers` is in book order (R82). `ring` is the
first window of the ring the Commitment Table holds, absent before the first clock mark (R97); `commitments`
lists each product's commitments that are not 0 by window. -/
structure Book where
  offers : List Offer
  lastId : Nat
  created : Nat
  reservation : Option Nat
  ring : Option Nat
  commitments : PerProduct (Table Nat)
  deriving DecidableEq, Repr

/-! ## Activation (chapter 6) -/

inductive ActState where
  | idle | pending | active | holding | lost
  deriving DecidableEq, Repr

/-- R104: an order that waits for its effective time. -/
structure PendingOrder where
  id : Nat
  quantity : Nat
  time : Nat
  deriving DecidableEq, Repr

/-- R104: a product's activation record (the sample fields are common to all eight, in `Activation`). -/
structure ActRecord where
  state : ActState
  obligation : Nat
  target : Nat
  currentId : Option Nat
  order : Option PendingOrder
  deriving DecidableEq, Repr

/-- R122. -/
def ActRecord.reset : ActRecord := { state := .idle, obligation := 0, target := 0, currentId := none, order := none }

/-- R104: last sample number and last valid sample time, present together. -/
structure SampleFields where
  number : Nat
  time : Nat
  deriving DecidableEq, Repr

/-- The Activation Unit. -/
structure Activation where
  records : PerProduct ActRecord
  sample : Option SampleFields
  rejected : Nat
  deriving DecidableEq, Repr

/-! ## Allocation and dispatch (chapter 7) -/

/-- R124: a slot's dispatch record. -/
structure DispatchRecord where
  allocation : PerProduct Nat
  staged : Int
  sent : Int
  releaseSent : Option Nat
  lastRelease : Option Nat
  sentTime : Option Nat
  confirmed : Bool
  expiry : Option Nat
  run : Nat
  carry : Bool
  deriving DecidableEq, Repr

/-- R124: every dispatch record after a cold reset; what an unlisted slot reads as. -/
def DispatchRecord.reset : DispatchRecord :=
  { allocation := PerProduct.all 0, staged := 0, sent := 0, releaseSent := none, lastRelease := none,
    sentTime := none, confirmed := true, expiry := none, run := 0, carry := false }

/-- R130: a product's last-pass record. -/
structure LastPass where
  target : Nat
  allocatable : Nat
  granted : Nat
  shortfall : Bool
  census : Option Nat
  deriving DecidableEq, Repr

/-- R125. -/
def LastPass.reset : LastPass := { target := 0, allocatable := 0, granted := 0, shortfall := false, census := none }

/-- R127: what a pass latches of an active bank. -/
structure LatchedBank where
  enabled : Bool
  priority : Nat
  direction : Direction
  deriving DecidableEq, Repr

/-- R127: what a pass latches of an occupied slot. -/
structure LatchedSlot where
  eligible : Bool
  siteNumber : Nat
  deriving DecidableEq, Repr

/-- R127: what a pass latches at its start. The Roster comes with the Snapshot's census number. -/
structure PassLatch where
  targets : PerProduct Nat
  banks : PerProduct LatchedBank
  roster : Option Roster
  census : Option Nat
  slots : Table LatchedSlot
  deriving DecidableEq, Repr

/-- R133: one entry of a release. -/
structure ReleaseEntry where
  slot : Nat
  siteNumber : Nat
  offset : Int
  deriving DecidableEq, Repr

/-- R133: a release in emission: its number, the index of its next frame and the frames not yet handed over. -/
structure Emission where
  release : Nat
  nextIndex : Nat
  frames : List (List ReleaseEntry)
  deriving DecidableEq, Repr

/-- R125: the Allocation Engine. The pass state is RUNNING while `pass` is present, the release state
EMITTING while `emission` is. `reports` holds the slots of the limit reports that were made and that the Fleet Table has
not yet taken (R38, R140). -/
structure Allocation where
  records : Table DispatchRecord
  pass : Option PassLatch
  passPending : Bool
  lastPass : PerProduct LastPass
  releaseCounter : Nat
  emission : Option Emission
  requested : Bool
  catchUp : Bool
  lastStart : Option Nat
  reports : List Nat
  deriving DecidableEq, Repr

/-! ## The Delivery Monitor (chapter 8) -/

inductive Declaration where
  | available | unavailable
  deriving DecidableEq, Repr

/-- R145: a window record. -/
structure WindowRecord where
  window : Option Nat
  measured : Nat
  deficient : Nat
  requested : Nat
  delivered : Nat
  alarm : Bool
  deriving DecidableEq, Repr

def WindowRecord.start (window : Option Nat) : WindowRecord :=
  { window := window, measured := 0, deficient := 0, requested := 0, delivered := 0, alarm := false }

/-- R145: what the Monitor holds for one product; `freqLost` is FREQ_LOSS as the Activation Unit's last
signal gave it (R155; DEDUCED, log entry 7). -/
structure MonitorProduct where
  intervals : Nat
  requested : Nat
  delivered : Nat
  current : WindowRecord
  history : List WindowRecord
  latch : Bool
  conditions : CondSet
  declaration : Option Declaration
  freqLost : Bool
  deriving DecidableEq, Repr

/-- R146: the block as a whole; `heartbeatBase` is when an AVAILABILITY frame was last queued, or the last
reset or restart, from which R160 recomputes the expiry (DEDUCED, log entry 7). -/
structure Monitor where
  products : PerProduct MonitorProduct
  intervalStart : Nat
  intervalExpiry : Nat
  heartbeatExpiry : Nat
  heartbeatBase : Nat
  fleetUp : Bool
  meterUp : Bool
  deriving DecidableEq, Repr

/-- R162. -/
def MonitorProduct.reset : MonitorProduct :=
  { intervals := 0, requested := 0, delivered := 0, current := WindowRecord.start none, history := [], latch := false,
    conditions := { shortfall := false, futureShortfall := false, freqLoss := false, fleetLinkDown := true,
                    meterLinkDown := false, timeNotSet := true, noCensus := true, deliveryAlarm := false },
    declaration := none, freqLost := false }

/-! ## Links and egress (chapters 9 and 11) -/

/-- Section 11.2: the frame kinds. -/
inductive FrameKind where
  | siteReport | dispatchOrder | offer | withdraw | offerResult | activationOrder | activationEnd | activationAck
  | clockMark | availability | deliveryReport | request | response | notice | freqSample
  deriving DecidableEq, Repr

/-- A frame taken into an ingress buffer; `flagged` when it showed SEQUENCE_GAP (R166, R171). -/
structure Frame where
  kind : FrameKind
  channel : Nat
  sequence : Nat
  payload : Octets
  flagged : Bool
  deriving DecidableEq, Repr

/-- A Frame Engine. `expected0` is the expected inbound sequence of channel 0, `expected2` that of Grid
channel 2. `summary` holds the error classes by the bits of section 11.2. `lastValid` is the arrival time of
the last valid frame, present while UP (R175; DEDUCED, log entry 7). -/
structure Engine where
  buffer : List Frame
  expected0 : Option Nat
  expected2 : Option Nat
  summary : BitVec 9
  count : Nat
  overflow : Bool
  up : Bool
  signal : Bool
  expiry : Option Nat
  lastValid : Option Nat
  wasDown : Bool
  deriving DecidableEq, Repr

/-- R181. -/
def Engine.reset : Engine :=
  { buffer := [], expected0 := none, expected2 := none, summary := 0, count := 0, overflow := false, up := false,
    signal := false, expiry := none, lastValid := none, wasDown := true }

/-- The three Frame Engines, the outbound sequences (R167) and what each transmitter holds. -/
structure Links where
  fleet : Engine
  grid : Engine
  meter : Engine
  fleetOut : Nat
  grid0Out : Nat
  grid2Out : Nat
  fleetTx : Option Octets
  gridTx : Option Octets
  deriving DecidableEq, Repr

/-- R110: the outcome an acknowledgement carries. -/
inductive AckOutcome where
  | accepted | clamped | refusedUnknownProduct | refusedMode | refusedNoObligation | refusedUnknownActivation
  | ended | endedAtWindow
  deriving DecidableEq, Repr

/-- R110: the content of an ACTIVATION_ACK. -/
structure Ack where
  code : Nat
  id : Nat
  outcome : AckOutcome
  target : Option Nat
  obligation : Option Nat
  time : Option Nat
  deriving DecidableEq, Repr

/-- R159: one product of an AVAILABILITY frame. -/
structure AvailEntry where
  code : Nat
  declaration : Declaration
  conditions : CondSet
  deriving DecidableEq, Repr

/-- R151: the content of a DELIVERY_REPORT. -/
structure DeliveryReport where
  code : Nat
  id : Option Nat
  requested : Nat
  delivered : Nat
  interval : Nat
  window : Option Nat
  deficient : Bool
  deficientCount : Nat
  deriving DecidableEq, Repr

/-- R88: an entry of the OFFER source queue. -/
inductive OfferEntry where
  | offer (id : Nat)
  | withdraw (id : Nat)
  deriving DecidableEq, Repr

/-- R185: the refusal reasons. -/
inductive Reason where
  | badField | noSuchRecord | readOnly | windowFull | bookFull | ladderFull | gateClosed | overCapacity | wrongState
  | committed | duplicateSite | duplicateCode | siteDispatched | noTime | noCensus | notReserved
  deriving DecidableEq, Repr

/-- R185: a response without its trailer, which is filled at hand-over (R186). -/
structure Response where
  sequence : Nat
  code : Nat
  refusal : Option Reason
  body : Octets
  deriving DecidableEq, Repr

/-- R177: the sources of the Grid Egress Arbiter other than the notice queue, which the Management Unit holds.
The ACK places are named by product, `none` for the place of frames that name no enabled product. -/
structure Arbiter where
  ack : List (Option Product × Ack)
  availability : Option (List AvailEntry)
  offers : List OfferEntry
  reports : List (Product × DeliveryReport)
  response : Option Response
  deriving DecidableEq, Repr

/-! ## Management (chapter 10) -/

inductive ResultOutcome where
  | accepted | partialAccepted | rejected | withdrawn
  deriving DecidableEq, Repr

/-- R109: the causes of an ACTIVATION_CHANGE, in its order. -/
inductive Cause where
  | order | finish | effectiveTime | boundary | sample | sampleTimeout | sampleLoss | bankSwitch | restart
  deriving DecidableEq, Repr

inductive LinkCause where
  | signalLoss | timeout | frame
  deriving DecidableEq, Repr

/-- R193: the fourteen notices with the content their rules give. -/
inductive Notice where
  | offerResult (id : Nat) (product : Product) (window : Nat) (outcome : ResultOutcome) (accepted reason : Option Nat)
      (late : Option Bool)
  | offerExpired (id : Nat) (product : Product) (window : Nat) (left : OfferState)
  | offerLapsed (id : Nat) (product : Product) (window : Nat) (left : OfferState)
  | lateResult (id : Nat) (product : Product) (window : Nat) (outcome : ResultOutcome) (accepted : Nat)
  | siteBarred (slot siteNumber : Nat) (reason : BarReason)
  | siteSuspect (slot siteNumber expiry : Nat)
  | conditionChange (product : Product) (conditions entered left : CondSet) (declaration : Option Declaration)
  | deliveryAlarm (product : Product) (window : Option Nat) (count threshold : Nat)
  | futureShortfall (product : Product) (window commitment available : Nat)
  | futureShortfallCleared (product : Product)
  | clockRejected (mark device : Nat) (holding : Bool)
  | stageApplied (applied : Bool) (product : Product) (window : Nat)
  | censusDone (number : Nat) (kind : CensusKind) (available offerable : PerProduct Nat)
  | activationChange (product : Product) (cause : Cause) (state : ActState) (target obligation : Nat)
      (currentId : Option Nat)
  | linkChange (port : Port) (up : Bool) (cause : LinkCause)
  deriving DecidableEq, Repr

/-- R187: the seven tables. -/
inductive TableName where
  | sites | feeders | products | offers | roster | snapshot | performance
  deriving DecidableEq, Repr

/-- R187: the table window with both cursors. -/
structure TableWindow where
  table : TableName
  first : Nat
  last : Nat
  readCursor : Nat
  writeCursor : Nat
  deriving DecidableEq, Repr

/-- R183: a request with the envelope sequence of its frame; `flagged` when the frame showed SEQUENCE_GAP. -/
structure PendingRequest where
  sequence : Nat
  payload : Octets
  flagged : Bool
  deriving DecidableEq, Repr

/-- R184: how far a request executed record by record has come. `writing`: the records still to take, the
number applied and the products whose staged mark was removed. `reading`: the records still to add, the index
of the first, the number added and their octets. -/
inductive Progress where
  | writing (rest : List Octets) (applied : Nat) (marks : BitVec 8)
  | reading (remaining first count : Nat) (records : Octets)
  deriving DecidableEq, Repr

/-- R182: the request in execution. -/
structure InExecution where
  request : PendingRequest
  progress : Progress
  deriving DecidableEq, Repr

/-- R182: the Management Unit. -/
structure Management where
  queue : List PendingRequest
  inExecution : Option InExecution
  window : Option TableWindow
  returnLimit : Nat
  notices : List Notice
  noticeDiscarded : Bool
  deriving DecidableEq, Repr

/-- R191: the global parameter record, in the rule's order and units. -/
structure Params where
  fFresh : Nat
  fStale : Nat
  tagLimit : Nat
  suspectHold : Nat
  windowLength : Nat
  censusInterval : Nat
  nominal : Nat
  sampleTimeout : Nat
  holdTime : Nat
  releaseSpacing : Nat
  confirmTimeout : Nat
  unconfirmedLimit : Nat
  performanceInterval : Nat
  heartbeatInterval : Nat
  conditionMask : CondSet
  linkTimeout : Nat
  ackLevel : Nat
  availabilityLevel : Nat
  offerLevel : Nat
  reportLevel : Nat
  responseLevel : Nat
  noticeLevel : Nat
  noticeMask : BitVec 14
  deriving DecidableEq, Repr

/-- R191: the cold-reset values. CENSUS_DONE is bit 11 and ACTIVATION_CHANGE bit 12 of the notice kind mask. -/
def Params.reset : Params :=
  { fFresh := 10000, fStale := 30000, tagLimit := 4, suspectHold := 900, windowLength := 15, censusInterval := 5,
    nominal := 50000, sampleTimeout := 500, holdTime := 3000, releaseSpacing := 250, confirmTimeout := 2000,
    unconfirmedLimit := 3, performanceInterval := 4, heartbeatInterval := 10, conditionMask := CondSet.defaultMask,
    linkTimeout := 5, ackLevel := 0, availabilityLevel := 0, offerLevel := 1, reportLevel := 2, responseLevel := 2,
    noticeLevel := 3, noticeMask := 0b10011111111111#14 }

/-! ## The whole part -/

/-- The part. `unknownSites` is Telemetry Intake's unknown-site count (R26). `freeDraws` is the MODEL's own
counter of free values drawn (DESIGN CHOICE, log entries 1 and 48). `pending` is the queue of commands that wait, first in, first
out, the model's own too (DESIGN CHOICE, log entry 2). -/
structure State where
  fleet : Fleet
  unknownSites : Nat
  time : TimeBase
  products : PerProduct ProductContext
  census : Census
  book : Book
  activation : Activation
  allocation : Allocation
  monitor : Monitor
  links : Links
  arbiter : Arbiter
  management : Management
  params : Params
  freeDraws : Nat
  pending : List Instr
  deriving DecidableEq, Repr

/-- The part right after a cold reset (R21, R39, R50, R60, R61, R102, R122, R143, R162, R181, R182, R191). -/
def State.reset : State :=
  { fleet := { sites := [], siteMap := [], feeders := [] }
    unknownSites := 0
    time := { localTime := 0, clock := .notSet, gateMarks := PerProduct.all none, boundaryMark := none,
              effective := PerProduct.all none }
    products := PerProduct.ofFn (fun p => { active := Bank.reset p, pendingBank := Bank.reset p, staged := false })
    census := { run := none, fullPending := false, selectPending := none, banksSwitched := false, counter := 0,
                published := none, timerExpiry := 5000, timerBase := 0 }
    book := { offers := [], lastId := 0, created := 0, reservation := none, ring := none,
              commitments := PerProduct.all [] }
    activation := { records := PerProduct.all ActRecord.reset, sample := none, rejected := 0 }
    allocation := { records := [], pass := none, passPending := false, lastPass := PerProduct.all LastPass.reset,
                    releaseCounter := 0, emission := none, requested := false, catchUp := false, lastStart := none,
                    reports := [] }
    monitor := { products := PerProduct.all MonitorProduct.reset, intervalStart := 0, intervalExpiry := 4000,
                 heartbeatExpiry := 10000, heartbeatBase := 0, fleetUp := false, meterUp := false }
    links := { fleet := Engine.reset, grid := Engine.reset, meter := Engine.reset, fleetOut := 0, grid0Out := 0,
               grid2Out := 0, fleetTx := none, gridTx := none }
    arbiter := { ack := [], availability := none, offers := [], reports := [], response := none }
    management := { queue := [], inExecution := none, window := none, returnLimit := 256, notices := [],
                    noticeDiscarded := false }
    params := Params.reset
    freeDraws := 0
    pending := [] }

end Sys2Proof.Machine
end

