-- ==== Sys2Proof/Machine/Operands.lean ====
section
/-! DEFINITION. The operand forms of chapter 11: multi-octet fields read and written, signed fields, and the code
values of every enumerated field (section 11.2), each with the code it sends and the value a code names. -/

namespace Sys2Proof.Machine

/-! ## Multi-octet fields: most significant octet first, signed fields two's complement -/

/-- The number a run of octets gives, most significant octet first. -/
def unsignedOf (o : Octets) : Nat := o.foldl (fun n b => n * 256 + b.toNat) 0

/-- The `w` octets of a number, most significant first (the number modulo 256 ^ w: DEDUCED, log entry 23). -/
def octetsOf (w n : Nat) : Octets :=
  match w with
  | 0 => []
  | k + 1 => BitVec.ofNat 8 (n / 256 ^ k) :: octetsOf k n

/-- The number a run of octets gives in two's complement. -/
def signedOf (o : Octets) : Int :=
  if 2 * unsignedOf o < 256 ^ o.length then (unsignedOf o : Int)
  else (unsignedOf o : Int) - (256 ^ o.length : Nat)

/-- The `w` octets of a signed number in two's complement. -/
def signedOctets (w : Nat) (v : Int) : Octets := octetsOf w (v % ((256 ^ w : Nat) : Int)).toNat

/-- The `w` octets at offset `at0` of a payload or record. -/
def slice (o : Octets) (at0 w : Nat) : Octets := (o.drop at0).take w

/-- The unsigned field of `w` octets at offset `at0`. -/
def fieldAt (o : Octets) (at0 w : Nat) : Nat := unsignedOf (slice o at0 w)

/-- The signed field of `w` octets at offset `at0`. -/
def signedAt (o : Octets) (at0 w : Nat) : Int := signedOf (slice o at0 w)

/-- `w` octets of 0. -/
def zeros (w : Nat) : Octets := List.replicate w 0

/-- A flag or presence octet: 1 when set, 0 otherwise. -/
def flagOctet (b : Bool) : Octets := [if b then 1 else 0]

/-- A field of `w` octets, all 0 when absent (R197). -/
def optOctets (w : Nat) (v : Option Nat) : Octets := octetsOf w (v.getD 0)

/-- A flags octet, bit 0 the first item (section 11.4). -/
def flagsOctet (bits : List Bool) : Octets :=
  [BitVec.ofNat 8 (bits.foldr (fun b n => (if b then 1 else 0) + 2 * n) 0)]

/-- A presence or option octet: 0 or 1, any other value unlisted (R198). -/
def optionOctet (n : Nat) : Option Bool :=
  if n = 0 then some false else if n = 1 then some true else none

/-! ## Code values (section 11.2) -/

def FrameKind.code (k : FrameKind) : Nat :=
  match k with
  | .siteReport => 0x01
  | .dispatchOrder => 0x02
  | .offer => 0x10
  | .withdraw => 0x11
  | .offerResult => 0x12
  | .activationOrder => 0x13
  | .activationEnd => 0x14
  | .activationAck => 0x15
  | .clockMark => 0x16
  | .availability => 0x17
  | .deliveryReport => 0x18
  | .request => 0x20
  | .response => 0x21
  | .notice => 0x22
  | .freqSample => 0x30

/-- R165: the kind a code names among those a port accepts inbound on a channel. -/
def acceptedKind (port : Port) (channel code : Nat) : Option FrameKind :=
  match port with
  | .fleet => if channel = 0 ∧ code = 0x01 then some .siteReport else none
  | .meter => if channel = 0 ∧ code = 0x30 then some .freqSample else none
  | .grid =>
    if channel = 2 then (if code = 0x20 then some .request else none)
    else if channel = 0 then
      (if code = 0x12 then some .offerResult
       else if code = 0x13 then some .activationOrder
       else if code = 0x14 then some .activationEnd
       else if code = 0x16 then some .clockMark
       else none)
    else none

/-- R165: the channels a port uses. -/
def channelUsed (port : Port) (channel : Nat) : Bool :=
  match port with
  | .fleet => decide (channel = 0)
  | .meter => decide (channel = 0)
  | .grid => decide (channel = 0) || decide (channel = 2)

def Condition.ofCode (n : Nat) : Option Condition :=
  match n with
  | 0 => some .normal
  | 1 => some .limited
  | 2 => some .fault
  | _ => none

def Condition.code (c : Condition) : Nat :=
  match c with
  | .normal => 0
  | .limited => 1
  | .fault => 2

def SiteState.code (s : SiteState) : Nat :=
  match s with
  | .vacant => 0
  | .listed => 1
  | .active => 2
  | .ageing => 3
  | .stale => 4
  | .suspect => 5
  | .barred => 6

/-- Absent is 0. -/
def barReasonCode (r : Option BarReason) : Nat :=
  match r with
  | none => 0
  | some .host => 1
  | some .tag => 2

def OfferState.code (s : OfferState) : Nat :=
  match s with
  | .draft => 0
  | .queued => 1
  | .submitted => 2
  | .withdrawing => 3
  | .accepted => 4
  | .partialAccepted => 5
  | .inDelivery => 6
  | .rejected => 7
  | .withdrawn => 8
  | .expired => 9
  | .lapsed => 10
  | .closed => 11

def OfferMode.code (m : OfferMode) : Nat :=
  match m with
  | .fixed => 0
  | .follow => 1

def OfferMode.ofCode (n : Nat) : Option OfferMode :=
  match n with
  | 0 => some .fixed
  | 1 => some .follow
  | _ => none

def ResultOutcome.code (r : ResultOutcome) : Nat :=
  match r with
  | .accepted => 1
  | .partialAccepted => 2
  | .rejected => 3
  | .withdrawn => 4

def ResultOutcome.ofCode (n : Nat) : Option ResultOutcome :=
  match n with
  | 1 => some .accepted
  | 2 => some .partialAccepted
  | 3 => some .rejected
  | 4 => some .withdrawn
  | _ => none

def Direction.code (d : Direction) : Nat :=
  match d with
  | .up => 0
  | .down => 1

def Direction.ofCode (n : Nat) : Option Direction :=
  match n with
  | 0 => some .up
  | 1 => some .down
  | _ => none

def Mode.code (m : Mode) : Nat :=
  match m with
  | .signalled => 0
  | .frequency => 1

def Mode.ofCode (n : Nat) : Option Mode :=
  match n with
  | 0 => some .signalled
  | 1 => some .frequency
  | _ => none

def ActState.code (s : ActState) : Nat :=
  match s with
  | .idle => 0
  | .pending => 1
  | .active => 2
  | .holding => 3
  | .lost => 4

def AckOutcome.code (a : AckOutcome) : Nat :=
  match a with
  | .accepted => 1
  | .clamped => 2
  | .refusedUnknownProduct => 3
  | .refusedMode => 4
  | .refusedNoObligation => 5
  | .refusedUnknownActivation => 6
  | .ended => 7
  | .endedAtWindow => 8

/-- Absent is 0. -/
def declarationCode (d : Option Declaration) : Nat :=
  match d with
  | none => 0
  | some .available => 1
  | some .unavailable => 2

def TableName.code (t : TableName) : Nat :=
  match t with
  | .sites => 1
  | .feeders => 2
  | .products => 3
  | .offers => 4
  | .roster => 5
  | .snapshot => 6
  | .performance => 7

def TableName.ofCode (n : Nat) : Option TableName :=
  match n with
  | 1 => some .sites
  | 2 => some .feeders
  | 3 => some .products
  | 4 => some .offers
  | 5 => some .roster
  | 6 => some .snapshot
  | 7 => some .performance
  | _ => none

def Reason.code (r : Reason) : Nat :=
  match r with
  | .badField => 1
  | .noSuchRecord => 2
  | .readOnly => 3
  | .windowFull => 4
  | .bookFull => 5
  | .ladderFull => 6
  | .gateClosed => 7
  | .overCapacity => 8
  | .wrongState => 9
  | .committed => 10
  | .duplicateSite => 11
  | .duplicateCode => 12
  | .siteDispatched => 13
  | .noTime => 14
  | .noCensus => 15
  | .notReserved => 16

/-- The reason octet of a response: 0 with DONE. -/
def reasonCode (r : Option Reason) : Nat :=
  match r with
  | none => 0
  | some r => r.code

/-- R109: numbered 0 to 8 in the order the causes are listed. -/
def Cause.code (c : Cause) : Nat :=
  match c with
  | .order => 0
  | .finish => 1
  | .effectiveTime => 2
  | .boundary => 3
  | .sample => 4
  | .sampleTimeout => 5
  | .sampleLoss => 6
  | .bankSwitch => 7
  | .restart => 8

def LinkCause.code (c : LinkCause) : Nat :=
  match c with
  | .signalLoss => 0
  | .timeout => 1
  | .frame => 2

def portCode (p : Port) : Nat :=
  match p with
  | .fleet => 0
  | .grid => 1
  | .meter => 2

/-- The kind octet of a census: FULL 0, SELECT 1. -/
def CensusKind.code (k : CensusKind) : Nat :=
  match k with
  | .full => 0
  | .select _ => 1

/-- The feeder octet of a census: 0 when absent. -/
def CensusKind.feederCode (k : CensusKind) : Nat :=
  match k with
  | .full => 0
  | .select f => f

/-- The notice kinds' codes. -/
def Notice.code (n : Notice) : Nat :=
  match n with
  | .offerResult .. => 1
  | .offerExpired .. => 2
  | .offerLapsed .. => 3
  | .lateResult .. => 4
  | .siteBarred .. => 5
  | .siteSuspect .. => 6
  | .conditionChange .. => 7
  | .deliveryAlarm .. => 8
  | .futureShortfall .. => 9
  | .futureShortfallCleared .. => 9
  | .clockRejected .. => 10
  | .stageApplied .. => 11
  | .censusDone .. => 12
  | .activationChange .. => 13
  | .linkChange .. => 14

/-- A product number read from an octet; a number above 7 names none. -/
def productOf (n : Nat) : Option Product := if h : n < 8 then some ⟨n, h⟩ else none

end Sys2Proof.Machine
end

