-- ==== Sys2Proof/Machine/Flags.lean ====
section
/-! DEFINITION. The flag computations: condition sets and their octet, the classes of an error summary with the
count's saturation, the notice kind mask, and the envelope's two checks (R196). -/

namespace Sys2Proof.Machine

/-! ## Condition sets (section 11.2: one octet, bit 0 SHORTFALL to bit 7 DELIVERY_ALARM) -/

def CondSet.bits (c : CondSet) : List Bool :=
  [c.shortfall, c.futureShortfall, c.freqLoss, c.fleetLinkDown, c.meterLinkDown, c.timeNotSet, c.noCensus,
   c.deliveryAlarm]

def CondSet.octet (c : CondSet) : Octets := flagsOctet c.bits

def CondSet.ofNat (n : Nat) : CondSet :=
  { shortfall := n.testBit 0, futureShortfall := n.testBit 1, freqLoss := n.testBit 2, fleetLinkDown := n.testBit 3,
    meterLinkDown := n.testBit 4, timeNotSet := n.testBit 5, noCensus := n.testBit 6, deliveryAlarm := n.testBit 7 }

/-- The conditions in both sets. -/
def CondSet.inter (a b : CondSet) : CondSet :=
  { shortfall := a.shortfall && b.shortfall, futureShortfall := a.futureShortfall && b.futureShortfall,
    freqLoss := a.freqLoss && b.freqLoss, fleetLinkDown := a.fleetLinkDown && b.fleetLinkDown,
    meterLinkDown := a.meterLinkDown && b.meterLinkDown, timeNotSet := a.timeNotSet && b.timeNotSet,
    noCensus := a.noCensus && b.noCensus, deliveryAlarm := a.deliveryAlarm && b.deliveryAlarm }

/-- The conditions of `a` that `b` does not hold. -/
def CondSet.minus (a b : CondSet) : CondSet :=
  { shortfall := a.shortfall && !b.shortfall, futureShortfall := a.futureShortfall && !b.futureShortfall,
    freqLoss := a.freqLoss && !b.freqLoss, fleetLinkDown := a.fleetLinkDown && !b.fleetLinkDown,
    meterLinkDown := a.meterLinkDown && !b.meterLinkDown, timeNotSet := a.timeNotSet && !b.timeNotSet,
    noCensus := a.noCensus && !b.noCensus, deliveryAlarm := a.deliveryAlarm && !b.deliveryAlarm }

/-- The set holds some condition. -/
def CondSet.any (c : CondSet) : Bool := c.bits.any id

/-! ## Error classes (section 11.2: two octets, bit 0 HEADER_CHECK to bit 8 REQUEST_OVERFLOW) -/

/-- The error classes of R164, R166, R169 and R170. -/
inductive ErrClass where
  | headerCheck | footerCheck | length | unknownKind | channel | sequenceGap | payload | overrun | requestOverflow
  deriving DecidableEq, Repr

def ErrClass.bit (c : ErrClass) : Nat :=
  match c with
  | .headerCheck => 0
  | .footerCheck => 1
  | .length => 2
  | .unknownKind => 3
  | .channel => 4
  | .sequenceGap => 5
  | .payload => 6
  | .overrun => 7
  | .requestOverflow => 8

/-- R171: the class joins the summary. -/
def Engine.addClass (e : Engine) (c : ErrClass) : Engine :=
  { e with summary := e.summary ||| (1#9 <<< c.bit) }

/-- R171: the count is raised by 1; a raise at 4,095 leaves it and sets the overflow flag. -/
def Engine.raiseCount (e : Engine) : Engine :=
  if e.count < Config.errorCountMax then { e with count := e.count + 1 } else { e with overflow := true }

/-- R171: a frame shows class `c`; `shown` says whether it has shown a class before, and is counted already. -/
def Engine.record (e : Engine) (c : ErrClass) (shown : Bool) : Engine :=
  if shown then e.addClass c else (e.addClass c).raiseCount

/-- The two octets of an error summary. -/
def summaryOctets (s : BitVec 9) : Octets := octetsOf 2 s.toNat

/-! ## The notice kind mask (section 11.2: bit code − 1 for each kind) -/

/-- The mask holds the notice's kind. -/
def maskHolds (mask : BitVec 14) (n : Notice) : Bool := mask.getLsbD (n.code - 1)

/-! ## Saturating 16-bit counts (R26, R104, R145) -/

def raise16 (n : Nat) : Nat := if n < Config.count16Max then n + 1 else n

/-! ## The envelope's checks (R196) -/

/-- One bit of the CRC-8: generator 0x07, most significant bit first. -/
def crc8Bit (c : BitVec 8) : BitVec 8 := if c.msb then (c <<< 1) ^^^ 0x07#8 else c <<< 1

def crc8Octet (c b : BitVec 8) : BitVec 8 :=
  crc8Bit (crc8Bit (crc8Bit (crc8Bit (crc8Bit (crc8Bit (crc8Bit (crc8Bit (c ^^^ b))))))))

/-- The header check: initial value 0x00. -/
def crc8 (o : Octets) : BitVec 8 := o.foldl crc8Octet 0

/-- One bit of the CRC-16: generator 0x1021, most significant bit first. -/
def crc16Bit (c : BitVec 16) : BitVec 16 := if c.msb then (c <<< 1) ^^^ 0x1021#16 else c <<< 1

def crc16Octet (c : BitVec 16) (b : BitVec 8) : BitVec 16 :=
  crc16Bit (crc16Bit (crc16Bit (crc16Bit (crc16Bit (crc16Bit (crc16Bit (crc16Bit
    (c ^^^ (b.setWidth 16 <<< 8)))))))))

/-- The footer: initial value 0xFFFF. -/
def crc16 (o : Octets) : BitVec 16 := o.foldl crc16Octet 0xFFFF#16

/-- R167, R196: a frame with its header, and with its payload and footer when the payload is not empty. -/
def envelope (kind : FrameKind) (channel sequence : Nat) (payload : Octets) : Octets :=
  let header := octetsOf 1 kind.code ++ octetsOf 1 channel ++ octetsOf 1 sequence ++ octetsOf 2 payload.length
  header ++ [crc8 header] ++ (if payload.isEmpty then [] else payload ++ octetsOf 2 (crc16 payload).toNat)

end Sys2Proof.Machine
end

