-- ==== Sys2Proof/Machine/Ops.lean ====
section
/-! DEFINITION. The named operations over the part's tables and registers: every read and write of a slot, a
feeder, a product, an offer, a commitment, a dispatch record or a Frame Engine goes through one of these. -/

namespace Sys2Proof.Machine

/-! ## Time and windows (R40, R41, R47, R48) -/

def State.localTime (s : State) : Nat := s.time.localTime

/-- Device time, absent while NOT_SET. -/
def Clock.device (c : Clock) : Option Nat :=
  match c with
  | .notSet => none
  | .running d => some d
  | .holding d _ => some d

/-- Device time with its state kept and its value replaced. -/
def Clock.withDevice (c : Clock) (d : Nat) : Clock :=
  match c with
  | .notSet => .notSet
  | .running _ => .running d
  | .holding _ r => .holding d r

def State.deviceTime (s : State) : Option Nat := s.time.clock.device

/-- L, the window length in milliseconds. -/
def Params.windowMs (p : Params) : Nat := p.windowLength * 60000

def State.windowMs (s : State) : Nat := s.params.windowMs

/-- R47: the window index of device time `t`. -/
def State.windowOf (s : State) (t : Nat) : Nat := t / s.windowMs

/-- R47: the current window; none while device time is NOT_SET. -/
def State.currentWindow (s : State) : Option Nat := s.deviceTime.map s.windowOf

/-- The active bank of product `p`. -/
def State.bank (s : State) (p : Product) : Bank := (s.products.get p).active

/-- A gate lead in milliseconds. -/
def Bank.leadMs (b : Bank) : Nat := b.gateLead * 60000

/-- R48: the highest window whose gate has closed at device time `t` under product `p`'s active gate lead. -/
def State.gateMarkAt (s : State) (p : Product) (t : Nat) : Nat := s.windowOf (t + (s.bank p).leadMs)

/-- R48: the gate of (p, w) is closed when w is at or below the gate mark. -/
def State.gateClosed (s : State) (p : Product) (w : Nat) : Bool :=
  match s.time.gateMarks.get p with
  | none => false
  | some g => decide (w ≤ g)

/-! ## Products (R58) -/

/-- The product follows frequency: a disabled product is treated as SIGNALLED (R105). -/
def State.followsFrequency (s : State) (p : Product) : Bool :=
  (s.bank p).enabled && decide ((s.bank p).mode = .frequency)

/-- R58: capacity-priority order: ascending capacity priority, then ascending product number. -/
def priorityOrder (priority : Product → Nat) : List Product :=
  ordered (fun a b => decide (priority a < priority b)) allProducts

/-- The enabled product whose active bank has market product code `code` (R58: at most one). -/
def State.productWithCode (s : State) (code : Nat) : Option Product :=
  allProducts.find? (fun p => (s.bank p).enabled && decide ((s.bank p).code = code))

/-! ## Sites, feeders and the Site Map (R1, R9, R10, R17) -/

/-- The site in a slot; none for a VACANT slot. -/
def State.siteAt (s : State) (slot : Nat) : Option Site := Table.find s.fleet.sites slot

def State.setSite (s : State) (slot : Nat) (x : Site) : State :=
  { s with fleet := { s.fleet with sites := Table.put s.fleet.sites slot x } }

def State.feeder (s : State) (f : Nat) : Feeder := Table.readOr s.fleet.feeders Feeder.reset f

def State.setFeeder (s : State) (f : Nat) (x : Feeder) : State :=
  { s with fleet := { s.fleet with feeders := Table.writeOr s.fleet.feeders Feeder.reset f x } }

/-- R18: the site count of feeder `f` rises by 1. -/
def State.countUp (s : State) (f : Nat) : State :=
  s.setFeeder f { s.feeder f with siteCount := (s.feeder f).siteCount + 1 }

/-- R18: the site count of feeder `f` falls by 1. -/
def State.countDown (s : State) (f : Nat) : State :=
  s.setFeeder f { s.feeder f with siteCount := (s.feeder f).siteCount - 1 }

/-- R10: the slot of a site number, if the map holds an entry. -/
def State.slotOf (s : State) (siteNumber : Nat) : Option Nat := Table.find s.fleet.siteMap siteNumber

def State.mapSite (s : State) (siteNumber slot : Nat) : State :=
  { s with fleet := { s.fleet with siteMap := Table.put s.fleet.siteMap siteNumber slot } }

def State.unmapSite (s : State) (siteNumber : Nat) : State :=
  { s with fleet := { s.fleet with siteMap := Table.drop s.fleet.siteMap siteNumber } }

/-- The age of a report at local time `now` (section 1.2). -/
def ReportFields.age (r : ReportFields) (now : Nat) : Nat := now - r.receiptTime

/-- R5, R7: the state an age gives. -/
def Params.gradeAge (p : Params) (age : Nat) : SiteState :=
  if age < p.fFresh then .active else if age < p.fStale then .ageing else .stale

/-- R9: a site is eligible while it is ACTIVE or AGEING, its condition NORMAL and its feeder ENABLED. -/
def State.siteEligible (s : State) (x : Site) : Bool :=
  (decide (x.state = .active) || decide (x.state = .ageing)) &&
  (match x.report with
   | none => false
   | some r => decide (r.condition = .normal)) &&
  (s.feeder x.static.feeder).enabled

/-- R9 at a slot; a VACANT slot is not eligible. -/
def State.eligible (s : State) (slot : Nat) : Bool :=
  match s.siteAt slot with
  | none => false
  | some x => s.siteEligible x

/-! ## Dispatch records (R124) -/

def State.dispatch (s : State) (slot : Nat) : DispatchRecord :=
  Table.readOr s.allocation.records DispatchRecord.reset slot

def State.setDispatch (s : State) (slot : Nat) (d : DispatchRecord) : State :=
  { s with allocation :=
      { s.allocation with records := Table.writeOr s.allocation.records DispatchRecord.reset slot d } }

/-- The slot holds a non-zero allocation for some product. -/
def State.allocated (s : State) (slot : Nat) : Bool :=
  (s.dispatch slot).allocation.toList.any (fun a => decide (a ≠ 0))

/-- R11, R16: an entry for the slot waits in a release frame not yet handed to the Fleet Port. -/
def State.entryWaits (s : State) (slot : Nat) : Bool :=
  match s.allocation.emission with
  | none => false
  | some e => e.frames.any (fun f => f.any (fun x => decide (x.slot = slot)))

/-- R11, R16: the slot is free of dispatch: sent offset 0, confirmed, and no entry waiting. -/
def State.undispatched (s : State) (slot : Nat) : Bool :=
  decide ((s.dispatch slot).sent = 0) && (s.dispatch slot).confirmed && !(s.entryWaits slot)

/-! ## Offers and commitments (R80, R82, R97) -/

def State.findOffer (s : State) (id : Nat) : Option Offer := s.book.offers.find? (fun o => decide (o.id = id))

/-- The record with id `id` replaced by `f` of it. -/
def State.mapOffer (s : State) (id : Nat) (f : Offer → Offer) : State :=
  { s with book := { s.book with offers := s.book.offers.map (fun o => if o.id = id then f o else o) } }

/-- The record with id `id` deleted. -/
def State.deleteOffer (s : State) (id : Nat) : State :=
  { s with book := { s.book with offers := s.book.offers.filter (fun o => decide (o.id ≠ id)) } }

/-- Section 5.2: the terminal states. -/
def OfferState.terminal (x : OfferState) : Bool :=
  match x with
  | .rejected | .withdrawn | .expired | .lapsed | .closed => true
  | .draft | .queued | .submitted | .withdrawing | .accepted | .partialAccepted | .inDelivery => false

/-- R82: book order: window index, then product, then creation order number. -/
def Offer.before (a b : Offer) : Bool :=
  decide (a.window < b.window) ||
  (decide (a.window = b.window) &&
    (decide (a.product < b.product) || (decide (a.product = b.product) && decide (a.order < b.order))))

/-- Section 5.2: what an offer adds to the outstanding quantity of its product and window. -/
def Offer.outstanding (o : Offer) : Nat :=
  match o.state with
  | .queued | .submitted | .withdrawing => o.quantity
  | .accepted | .partialAccepted | .inDelivery => o.accepted.getD 0
  | .draft | .rejected | .withdrawn | .expired | .lapsed | .closed => 0

/-- R86: the outstanding quantity of (p, w). -/
def State.outstanding (s : State) (p : Product) (w : Nat) : Nat :=
  sumOf (s.book.offers.filter (fun o => decide (o.product = p) && decide (o.window = w))) Offer.outstanding

/-- R100: the reservation becomes absent if it holds `id`. -/
def State.clearReservation (s : State) (id : Nat) : State :=
  { s with book := { s.book with
      reservation := if s.book.reservation = some id then none else s.book.reservation } }

/-- R97: the commitment of (p, w); a read outside the ring held finds 0. -/
def State.commitment (s : State) (p : Product) (w : Nat) : Nat :=
  match s.book.ring with
  | none => 0
  | some base =>
    if base ≤ w ∧ w ≤ base + Config.ringAfter then Table.readOr (s.book.commitments.get p) 0 w else 0

/-- R91: `q` is added to the commitment of (p, w), as the table holds it. -/
def State.commit (s : State) (p : Product) (w q : Nat) : State :=
  { s with book := { s.book with
      commitments :=
        s.book.commitments.set p (Table.writeOr (s.book.commitments.get p) 0 w
          (Table.readOr (s.book.commitments.get p) 0 w + q)) } }

/-- R97: the ring is set to `w` and the windows after it, every commitment 0. -/
def State.freshRing (s : State) (w : Nat) : State :=
  { s with book := { s.book with ring := some w, commitments := PerProduct.all [] } }

/-- R97: at the boundary into `w` the slots before `w` leave the ring, and it holds `w` and the windows after it. -/
def State.recycleRing (s : State) (w : Nat) : State :=
  { s with book := { s.book with
      ring := some w,
      commitments := PerProduct.ofFn (fun p =>
        (s.book.commitments.get p).filter (fun e => decide (w ≤ e.1) && decide (e.1 ≤ w + Config.ringAfter))) } }

/-! ## Activation records -/

def State.act (s : State) (p : Product) : ActRecord := s.activation.records.get p

def State.setAct (s : State) (p : Product) (r : ActRecord) : State :=
  { s with activation := { s.activation with records := s.activation.records.set p r } }

/-- R155: the obligation as the Monitor reads it: the commitment of the current window. -/
def State.windowObligation (s : State) (p : Product) : Nat :=
  match s.currentWindow with
  | none => 0
  | some w => s.commitment p w

/-! ## Frame Engines -/

def State.engine (s : State) (port : Port) : Engine :=
  match port with
  | .fleet => s.links.fleet
  | .grid => s.links.grid
  | .meter => s.links.meter

def State.setEngine (s : State) (port : Port) (e : Engine) : State :=
  match port with
  | .fleet => { s with links := { s.links with fleet := e } }
  | .grid => { s with links := { s.links with grid := e } }
  | .meter => { s with links := { s.links with meter := e } }

/-- R170, R171: the owner of a frame reports a class it showed. -/
def State.reportClass (s : State) (port : Port) (c : ErrClass) (shown : Bool) : State :=
  s.setEngine port ((s.engine port).record c shown)

/-- R168: the frame at the head of a port's ingress buffer leaves it. -/
def State.dropHead (s : State) (port : Port) : State :=
  s.setEngine port { s.engine port with buffer := (s.engine port).buffer.drop 1 }

/-- The frame at the head of the Grid buffer when it is of kind `k`. -/
def State.gridHead (s : State) (k : FrameKind) : Option Frame :=
  match s.links.grid.buffer with
  | [] => none
  | f :: _ => if f.kind = k then some f else none

/-- R26: the unknown-site count rises by 1, staying at 65,535. -/
def State.raiseUnknown (s : State) : State := { s with unknownSites := raise16 s.unknownSites }

end Sys2Proof.Machine
end

