-- ==== Sys2Proof/Machine/Egress.lean ====
section
/-! DEFINITION. The Grid Port's egress (chapter 9): the payloads of the frames the Grid Port sends (sections 11.3 and
11.4), the Grid Egress Arbiter's choice and hand-over (R177 to R179), and placing a frame in each of its sources. -/

namespace Sys2Proof.Machine

/-! ## Payloads -/

/-- ACTIVATION_ACK (21 octets). -/
def Ack.payload (a : Ack) : Octets :=
  octetsOf 2 a.code ++ octetsOf 4 a.id ++ octetsOf 1 a.outcome.code ++ optOctets 4 a.target ++
  optOctets 4 a.obligation ++ optOctets 6 a.time

/-- AVAILABILITY (1 + 4n octets). -/
def availabilityPayload (l : List AvailEntry) : Octets :=
  octetsOf 1 l.length ++
  l.flatMap (fun e => octetsOf 2 e.code ++ octetsOf 1 (declarationCode (some e.declaration)) ++ e.conditions.octet)

/-- OFFER (26 octets), built at hand-over from the record and the active bank as they then stand (R88). -/
def State.offerPayload (s : State) (o : Offer) : Octets :=
  octetsOf 2 o.id ++ octetsOf 2 (s.bank o.product).code ++ octetsOf 1 (s.bank o.product).direction.code ++
  octetsOf 6 o.window ++ octetsOf 6 (o.window * s.windowMs) ++ octetsOf 1 s.params.windowLength ++
  octetsOf 4 o.quantity ++ signedOctets 4 o.price

/-- WITHDRAW (10 octets). -/
def State.withdrawPayload (s : State) (o : Offer) : Octets :=
  octetsOf 2 o.id ++ octetsOf 2 (s.bank o.product).code ++ octetsOf 6 o.window

/-- DELIVERY_REPORT (27 octets). -/
def DeliveryReport.payload (r : DeliveryReport) : Octets :=
  octetsOf 2 r.code ++ flagsOctet [r.id.isSome, r.window.isSome, r.deficient] ++ optOctets 4 r.id ++
  octetsOf 4 r.requested ++ octetsOf 4 r.delivered ++ octetsOf 4 r.interval ++ optOctets 6 r.window ++
  octetsOf 2 r.deficientCount

/-- RESPONSE: sequence, code, outcome, reason, the trailer (R186), then the body (section 11.4). -/
def Response.payload (r : Response) (summary : BitVec 9) (discarded : Bool) : Octets :=
  octetsOf 1 r.sequence ++ octetsOf 1 r.code ++ flagOctet r.refusal.isSome ++ octetsOf 1 (reasonCode r.refusal) ++
  summaryOctets summary ++ flagOctet discarded ++ r.body

/-- A NOTICE's content (section 11.4). -/
def Notice.content (n : Notice) : Octets :=
  match n with
  | .offerResult id p w out acc reason late =>
    octetsOf 2 id ++ octetsOf 1 p.val ++ octetsOf 6 w ++ octetsOf 1 out.code ++ optOctets 4 acc ++ optOctets 2 reason ++
    flagsOctet [acc.isSome, reason.isSome, late.getD false]
  | .offerExpired id p w left => octetsOf 2 id ++ octetsOf 1 p.val ++ octetsOf 6 w ++ octetsOf 1 left.code
  | .offerLapsed id p w left => octetsOf 2 id ++ octetsOf 1 p.val ++ octetsOf 6 w ++ octetsOf 1 left.code
  | .lateResult id p w out acc =>
    octetsOf 2 id ++ octetsOf 1 p.val ++ octetsOf 6 w ++ octetsOf 1 out.code ++ octetsOf 4 acc
  | .siteBarred slot number reason => octetsOf 2 slot ++ octetsOf 4 number ++ octetsOf 1 (barReasonCode (some reason))
  | .siteSuspect slot number expiry => octetsOf 2 slot ++ octetsOf 4 number ++ octetsOf 6 expiry
  | .conditionChange p conds entered left decl =>
    octetsOf 1 p.val ++ conds.octet ++ entered.octet ++ left.octet ++ octetsOf 1 (declarationCode decl)
  | .deliveryAlarm p w count threshold =>
    octetsOf 1 p.val ++ optOctets 6 w ++ octetsOf 2 count ++ octetsOf 1 threshold
  | .futureShortfall p w commitment available =>
    octetsOf 1 p.val ++ flagOctet false ++ octetsOf 6 w ++ octetsOf 4 commitment ++ octetsOf 6 available
  | .futureShortfallCleared p => octetsOf 1 p.val ++ flagOctet true ++ zeros 16
  | .clockRejected mark device holding =>
    octetsOf 6 mark ++ octetsOf 6 device ++ octetsOf 1 (if holding then 2 else 1)
  | .stageApplied applied p w => flagOctet (!applied) ++ octetsOf 1 p.val ++ octetsOf 6 w
  | .censusDone number kind available offerable =>
    octetsOf 4 number ++ octetsOf 1 kind.code ++ octetsOf 1 kind.feederCode ++
    allProducts.flatMap (fun p => octetsOf 6 (available.get p) ++ octetsOf 4 (offerable.get p))
  | .activationChange p cause st target obligation id =>
    octetsOf 1 p.val ++ octetsOf 1 cause.code ++ octetsOf 1 st.code ++ octetsOf 4 target ++ octetsOf 4 obligation ++
    flagOctet id.isSome ++ optOctets 4 id
  | .linkChange port up cause => octetsOf 1 (portCode port) ++ flagOctet up ++ octetsOf 1 cause.code

/-- NOTICE: the kind's code, then its content. -/
def Notice.payload (n : Notice) : Octets := octetsOf 1 n.code ++ n.content

/-! ## The arbiter (R177, R178) -/

/-- The six sources. -/
inductive Source where
  | ack | availability | offer | report | response | notice
  deriving DecidableEq, Repr

/-- R178: the table order of the sources. -/
def allSources : List Source := [.ack, .availability, .offer, .report, .response, .notice]

/-- R178: a source's priority level. -/
def Params.level (p : Params) (x : Source) : Nat :=
  match x with
  | .ack => p.ackLevel
  | .availability => p.availabilityLevel
  | .offer => p.offerLevel
  | .report => p.reportLevel
  | .response => p.responseLevel
  | .notice => p.noticeLevel

/-- The source holds a frame. -/
def State.sourceHolds (s : State) (x : Source) : Bool :=
  match x with
  | .ack => !s.arbiter.ack.isEmpty
  | .availability => s.arbiter.availability.isSome
  | .offer => !s.arbiter.offers.isEmpty
  | .report => !s.arbiter.reports.isEmpty
  | .response => s.arbiter.response.isSome
  | .notice => !s.management.notices.isEmpty

/-- The first of a list of sources with the lowest level number. -/
def lowestLevel (p : Params) (l : List Source) : Option Source :=
  match l with
  | [] => none
  | x :: rest =>
    match lowestLevel p rest with
    | none => some x
    | some y => if p.level y < p.level x then some y else some x

/-- R178: the source a choice takes: of the non-empty sources with the lowest level, the first in table order. -/
def State.chosenSource (s : State) : Option Source := lowestLevel s.params (allSources.filter s.sourceHolds)

/-- R167: a frame is built and given to the Grid transmitter, and the channel's outbound sequence is raised. -/
def State.sendGrid0 (s : State) (kind : FrameKind) (payload : Octets) : State :=
  { s with links := { s.links with
      gridTx := some (envelope kind 0 s.links.grid0Out payload),
      grid0Out := (s.links.grid0Out + 1) % 256 } }

def State.sendGrid2 (s : State) (kind : FrameKind) (payload : Octets) : State :=
  { s with links := { s.links with
      gridTx := some (envelope kind 2 s.links.grid2Out payload),
      grid2Out := (s.links.grid2Out + 1) % 256 } }

/-- R88: the hand-over of an OFFER entry: the frame is built, the offer becomes SUBMITTED, and a reservation of
it is lost (R100). -/
def State.handOverOffer (s : State) (id : Nat) : State :=
  match s.findOffer id with
  | none => s
  | some o =>
    ((s.sendGrid0 .offer (s.offerPayload o)).mapOffer id (fun x => { x with state := .submitted })).clearReservation id

/-- R88: the hand-over of a WITHDRAW entry leaves the record's state as it was. -/
def State.handOverWithdraw (s : State) (id : Nat) : State :=
  match s.findOffer id with
  | none => s
  | some o => s.sendGrid0 .withdraw (s.withdrawPayload o)

/-- The first frame of source `x` leaves it and is handed to the Grid Frame Engine (R178). -/
def State.handOver (s : State) (x : Source) : State :=
  match x with
  | .ack =>
    match s.arbiter.ack with
    | [] => s
    | (_, a) :: rest => { s with arbiter := { s.arbiter with ack := rest } }.sendGrid0 .activationAck a.payload
  | .availability =>
    match s.arbiter.availability with
    | none => s
    | some l =>
      { s with arbiter := { s.arbiter with availability := none } }.sendGrid0 .availability (availabilityPayload l)
  | .offer =>
    match s.arbiter.offers with
    | [] => s
    | .offer id :: rest => { s with arbiter := { s.arbiter with offers := rest } }.handOverOffer id
    | .withdraw id :: rest => { s with arbiter := { s.arbiter with offers := rest } }.handOverWithdraw id
  | .report =>
    match s.arbiter.reports with
    | [] => s
    | (_, r) :: rest => { s with arbiter := { s.arbiter with reports := rest } }.sendGrid0 .deliveryReport r.payload
  | .response =>
    match s.arbiter.response with
    | none => s
    | some r =>
      -- R171, R186: the trailer takes the Grid summary and the notice-discarded flag, and both are cleared.
      { s with
        arbiter := { s.arbiter with response := none },
        management := { s.management with noticeDiscarded := false },
        links := { s.links with grid := { s.links.grid with summary := 0 } } }.sendGrid2 .response
          (r.payload s.links.grid.summary s.management.noticeDiscarded)
  | .notice =>
    match s.management.notices with
    | [] => s
    | n :: rest =>
      { s with management := { s.management with notices := rest } }.sendGrid2 .notice n.payload

/-- R178, R179: a choice, made only while the Grid Port is UP and its transmitter idle. -/
def State.choose (s : State) : State :=
  if s.links.grid.up && s.links.gridTx.isNone then
    match s.chosenSource with
    | none => s
    | some x => s.handOver x
  else s

/-- R178: a source has received a frame; a choice follows at once if it was empty (DEDUCED, log entry 11). -/
def State.afterPlacing (s : State) (wasEmpty : Bool) : State := if wasEmpty then s.choose else s

/-! ## Placing frames in the sources -/

/-- A place's content replaced at its position, or the place filled at the end (R177; DEDUCED, log entry 38). -/
def placeIn {κ α : Type} [DecidableEq κ] (l : List (κ × α)) (k : κ) (a : α) : List (κ × α) :=
  match l with
  | [] => [(k, a)]
  | (j, b) :: rest => if j = k then (k, a) :: rest else (j, b) :: placeIn rest k a

/-- R110: an acknowledgement is placed in the ACK source. -/
def State.placeAck (s : State) (place : Option Product) (a : Ack) : State :=
  { s with arbiter := { s.arbiter with ack := placeIn s.arbiter.ack place a } }.afterPlacing s.arbiter.ack.isEmpty

/-- R151: a DELIVERY_REPORT is placed. -/
def State.placeReport (s : State) (p : Product) (r : DeliveryReport) : State :=
  { s with arbiter := { s.arbiter with reports := placeIn s.arbiter.reports p r } }.afterPlacing
    s.arbiter.reports.isEmpty

/-- R159: an AVAILABILITY frame is placed. -/
def State.placeAvailability (s : State) (l : List AvailEntry) : State :=
  { s with arbiter := { s.arbiter with availability := some l } }.afterPlacing s.arbiter.availability.isNone

/-- R88: an entry joins the tail of the OFFER source queue. -/
def State.placeOfferEntry (s : State) (e : OfferEntry) : State :=
  { s with arbiter := { s.arbiter with offers := s.arbiter.offers ++ [e] } }.afterPlacing s.arbiter.offers.isEmpty

/-- R184: a response is placed in the RESPONSE source. -/
def State.placeResponse (s : State) (r : Response) : State :=
  { s with arbiter := { s.arbiter with response := some r } }.afterPlacing s.arbiter.response.isNone

/-- R89: an entry leaves the OFFER source queue without hand-over. -/
def State.removeOfferEntry (s : State) (e : OfferEntry) : State :=
  { s with arbiter := { s.arbiter with offers := s.arbiter.offers.filter (fun x => decide (x ≠ e)) } }

/-- R193: a block posts a notice: dropped by the mask, queued, or discarded with the flag set (the order of notices of
different blocks: DESIGN CHOICE, log entry 34). -/
def State.post (s : State) (n : Notice) : State :=
  if maskHolds s.params.noticeMask n then
    if s.management.notices.length < Config.noticeQueueSize then
      { s with management := { s.management with notices := s.management.notices ++ [n] } }.afterPlacing
        s.management.notices.isEmpty
    else { s with management := { s.management with noticeDiscarded := true } }
  else s

end Sys2Proof.Machine
end

