-- ==== Sys2Proof/Machine/Monitor.lean ====
section
/-! DEFINITION. The Delivery Monitor (chapter 8): measurement at an interval end, window records and the alarm,
conditions, declarations and AVAILABILITY frames. -/

namespace Sys2Proof.Machine

def State.mon (s : State) (p : Product) : MonitorProduct := s.monitor.products.get p

def State.setMon (s : State) (p : Product) (m : MonitorProduct) : State :=
  { s with monitor := { s.monitor with products := s.monitor.products.set p m } }

/-! ## Conditions (R155) -/

/-- A(p) of the Snapshot in force. -/
def State.availableCapacity (s : State) (p : Product) : Option Nat :=
  s.census.published.map (fun x => (x.snapshot.products.get p).available)

/-- R155: the lowest window after the current one, of the 47, whose commitment of `p` is above A(p), with that
commitment and A(p). -/
def State.futureShort (s : State) (p : Product) : Option (Nat × Nat × Nat) :=
  match s.currentWindow, s.availableCapacity p with
  | some w, some a =>
    match ((List.range Config.ringAfter).map (fun k => w + 1 + k)).find? (fun v => decide (a < s.commitment p v)) with
    | none => none
    | some v => some (v, s.commitment p v, a)
  | _, _ => none

/-- R155: every condition of product `p` from its definition, with its sources as they stand. -/
def State.conditionsOf (s : State) (p : Product) : CondSet :=
  { shortfall :=
      (match s.availableCapacity p with
       | none => false
       | some a => decide (a < s.windowObligation p)) || (s.allocation.lastPass.get p).shortfall
    futureShortfall := (s.futureShort p).isSome
    freqLoss := (s.mon p).freqLost
    fleetLinkDown := !s.monitor.fleetUp
    meterLinkDown := !s.monitor.meterUp && decide ((s.bank p).mode = .frequency)
    timeNotSet := decide (s.time.clock = .notSet)
    noCensus := s.census.published.isNone
    deliveryAlarm := (s.mon p).latch }

/-- R158: the declaration a condition set gives under product `p`'s active bank. -/
def State.declarationOf (s : State) (p : Product) (c : CondSet) : Option Declaration :=
  if (s.bank p).enabled then some (if (c.inter (s.bank p).mask).any then .unavailable else .available) else none

/-- R159: the AVAILABILITY frame as it would be built now. -/
def State.availabilityEntries (s : State) : List AvailEntry :=
  allProducts.filterMap (fun p =>
    match (s.mon p).declaration with
    | none => none
    | some d => some { code := (s.bank p).code, declaration := d, conditions := (s.mon p).conditions })

/-- R159: a frame is queued, and the heartbeat expiry set. -/
def State.queueAvailability (s : State) : State :=
  { s with monitor := { s.monitor with
      heartbeatExpiry := s.localTime + s.params.heartbeatInterval * 1000,
      heartbeatBase := s.localTime } }.placeAvailability s.availabilityEntries

/-- R157: a CONDITION_CHANGE when a condition of the mask entered or left the set. -/
def State.noteChange (s : State) (p : Product) (new entered left : CondSet) : State :=
  if (entered.inter s.params.conditionMask).any || (left.inter s.params.conditionMask).any
    then s.post (.conditionChange p new entered left (s.declarationOf p new)) else s

/-- R157: a FUTURE_SHORTFALL notice when that condition entered the set. -/
def State.noteShort (s : State) (p : Product) (entered : Bool) : State :=
  if entered then
    match s.futureShort p with
    | some (w, c, a) => s.post (.futureShortfall p w c a)
    | none => s
  else s

/-- R157: the FUTURE_SHORTFALL notice with the cleared indication when that condition left the set. -/
def State.noteCleared (s : State) (p : Product) (left : Bool) : State :=
  if left then s.post (.futureShortfallCleared p) else s

/-- R157: the notices of product `p` for a change from `old` to `new`. -/
def State.postConditionChange (s : State) (p : Product) (old new : CondSet) : State :=
  ((s.noteChange p new (new.minus old) (old.minus new)).noteShort p (new.minus old).futureShortfall).noteCleared p
    (old.minus new).futureShortfall

/-- R156, first part: every condition set is recomputed. -/
def State.recomputed (s : State) : State :=
  { s with monitor := { s.monitor with
      products := PerProduct.ofFn (fun p => { s.mon p with conditions := s.conditionsOf p }) } }

/-- R158: the declarations recomputed from the condition sets as they stand. -/
def State.redeclared (s : State) : State :=
  { s with monitor := { s.monitor with
      products := PerProduct.ofFn (fun p =>
        { s.mon p with declaration := s.declarationOf p (s.mon p).conditions }) } }

/-- R156: one evaluation: recompute, post the notices of each product, the products in ascending number (DESIGN
CHOICE, log entry 40), recompute the declarations, and queue an AVAILABILITY frame when one changed or when the
heartbeat asks for one (DEDUCED, log entry 10). -/
def State.evaluate (s : State) (heartbeat : Bool) : State :=
  let t := allProducts.foldl
    (fun t p => t.postConditionChange p (s.mon p).conditions (s.conditionsOf p)) s.recomputed
  let u := t.redeclared
  if heartbeat || allProducts.any (fun p => decide ((u.mon p).declaration ≠ (s.mon p).declaration))
  then u.queueAvailability else u

/-! ## The performance interval (R147 to R151) -/

/-- R148, steps 1 and 2: the part of a staged offset that an applied offset of the same sign delivers. -/
def deliveredPart (applied staged : Int) : Nat :=
  if (0 < applied ∧ 0 < staged) ∨ (applied < 0 ∧ staged < 0) then min applied.natAbs staged.natAbs else 0

/-- R148: the power attributed to product `p` at a slot. -/
def State.attributed (s : State) (p : Product) (slot : Nat) (d : DispatchRecord) : Nat :=
  let applied := match s.siteAt slot with
    | none => 0
    | some x => (match x.report with
      | none => 0
      | some r => r.appliedOffset)
  if d.staged = 0 then 0
  else d.allocation.get p * deliveredPart applied d.staged / d.staged.natAbs

/-- R148: Delivered(p): the sum over the slots whose staged offset is not 0. -/
def State.delivered (s : State) (p : Product) : Nat :=
  sumOf s.allocation.records (fun e => s.attributed p e.1 e.2)

/-- R149: the interval is deficient. -/
def deficientInterval (requested delivered tolerance : Nat) : Bool :=
  decide (0 < requested) && decide (delivered < requested * (1000 - tolerance) / 1000)

/-- R149, R150: the counts and energies of a measured product after an interval of `duration` ms. -/
def MonitorProduct.measured (m : MonitorProduct) (requested delivered duration : Nat) (deficient : Bool) :
    MonitorProduct :=
  { m with
    intervals := (m.intervals + 1) % 4294967296
    requested := m.requested + requested * duration
    delivered := m.delivered + delivered * duration
    current := { m.current with
      measured := raise16 m.current.measured
      deficient := if deficient then raise16 m.current.deficient else m.current.deficient
      requested := m.current.requested + requested * duration
      delivered := m.current.delivered + delivered * duration } }

/-- R153: the alarm rule, applied after a deficient interval has raised the count. The setting of the latch evaluates
the conditions at once, before the product's report and before the next product is measured (DESIGN CHOICE, log
entry 46). -/
def State.alarmRule (s : State) (p : Product) : State :=
  let m := s.mon p
  let threshold := (s.bank p).deficientThreshold
  if threshold ≤ m.current.deficient then
    let t := s.setMon p { m with current := { m.current with alarm := true }, latch := true }
    if m.latch then t
    else (t.post (.deliveryAlarm p m.current.window m.current.deficient threshold)).evaluate false
  else s

/-- R151: the DELIVERY_REPORT of a measured product, from its counts after the interval. -/
def State.reportOf (s : State) (p : Product) (requested delivered : Nat) (deficient : Bool) : DeliveryReport :=
  { code := (s.bank p).code, id := (s.act p).currentId, requested := requested, delivered := delivered,
    interval := (s.mon p).intervals, window := (s.mon p).current.window, deficient := deficient,
    deficientCount := (s.mon p).current.deficient }

/-- R148 to R151 for one product over an interval of `duration` ms. -/
def State.measure (s : State) (duration : Nat) (p : Product) : State :=
  let requested := (s.act p).target
  let delivered := s.delivered p
  let deficient := deficientInterval requested delivered (s.bank p).tolerance
  let t := s.setMon p ((s.mon p).measured requested delivered duration deficient)
  let t := if deficient then t.alarmRule p else t
  t.placeReport p (t.reportOf p requested delivered deficient)

/-- R147: a product is measured when its obligation or its target is above 0. -/
def State.measures (s : State) (p : Product) : Bool :=
  decide (0 < (s.act p).obligation) || decide (0 < (s.act p).target)

/-- R147: the interval ends now. -/
def State.endInterval (s : State) : State :=
  let duration := s.localTime - s.monitor.intervalStart
  let t := { s with monitor := { s.monitor with
    intervalStart := s.localTime,
    intervalExpiry := s.localTime + s.params.performanceInterval * 1000 } }
  (allProducts.filter s.measures).foldl (fun t p => t.measure duration p) t

/-! ## Boundaries and marks (R152) -/

/-- R152: the current record closes into the history and a new one starts for window `w`. -/
def MonitorProduct.closeWindow (m : MonitorProduct) (w : Nat) : MonitorProduct :=
  { m with
    history := (m.current :: m.history).take Config.historySize
    current := WindowRecord.start (some w) }

/-- R152, R156: the Monitor takes the boundary into window `w`. -/
def State.monitorBoundary (s : State) (w : Nat) : State :=
  { s with monitor := { s.monitor with
      products := PerProduct.ofFn (fun p => (s.mon p).closeWindow w) } }.evaluate false

/-- R152, R156: at the first clock mark each current window record is given the mark's window index. -/
def State.monitorFirstMark (s : State) (w : Nat) : State :=
  { s with monitor := { s.monitor with
      products := PerProduct.ofFn (fun p =>
        { s.mon p with current := { (s.mon p).current with window := some w } }) } }.evaluate false

/-- R155, R156: the Activation Unit signals that product `p` entered or left LOST. -/
def State.signalLost (s : State) (p : Product) (lost : Bool) : State :=
  (s.setMon p { s.mon p with freqLost := lost }).evaluate false

/-- R154, R156: every latch is cleared; the clearing of a latch is an input to the evaluation, so a READ_STATUS that
finds every latch already clear makes none (DEDUCED, log entry 39). -/
def State.clearLatches (s : State) : State :=
  let t := { s with monitor := { s.monitor with
    products := PerProduct.ofFn (fun p => { s.mon p with latch := false }) } }
  if allProducts.any (fun p => (s.mon p).latch) then t.evaluate false else t

/-! ## The timer events -/

/-- PERFORMANCE_INTERVAL_END (R147): due when local time has reached the timer's expiry. -/
def State.intervalDue (s : State) : Bool := decide (s.monitor.intervalExpiry ≤ s.localTime)

def execPerformanceIntervalEnd (s : State) : Host.Outcome State Fault Refusal :=
  .next (if s.intervalDue then s.endInterval else s)

/-- HEARTBEAT (R159): due when local time has reached the heartbeat expiry. -/
def State.heartbeatDue (s : State) : Bool := decide (s.monitor.heartbeatExpiry ≤ s.localTime)

def execHeartbeat (s : State) : Host.Outcome State Fault Refusal :=
  .next (if s.heartbeatDue then s.evaluate true else s)

end Sys2Proof.Machine
end

