-- ==== Sys2Proof/Machine/Allocation.lean ====
section
/-! DEFINITION. The Allocation Engine (chapter 7): allocation passes, releases and their hand-over to the Fleet Port,
confirmation, and what the Fleet Port's state does to a release. -/

namespace Sys2Proof.Machine

/-! ## Starting a pass (R126, R127) -/

/-- R127: everything a pass latches at its start. -/
def State.passLatch (s : State) : PassLatch :=
  { targets := PerProduct.ofFn (fun p => (s.act p).target)
    banks := PerProduct.ofFn (fun p =>
      { enabled := (s.bank p).enabled, priority := (s.bank p).priority, direction := (s.bank p).direction })
    roster := s.census.published.map (fun x => x.roster)
    census := s.census.published.map (fun x => x.snapshot.number)
    slots := s.fleet.sites.map (fun e =>
      (e.1, { eligible := s.siteEligible e.2, siteNumber := e.2.static.siteNumber })) }

def State.startPass (s : State) : State :=
  { s with allocation := { s.allocation with pass := some s.passLatch, passPending := false } }

/-- R126: a trigger starts a pass when the pass state is IDLE, and sets the pass pending flag otherwise. -/
def State.trigger (s : State) : State :=
  if s.allocation.pass.isSome then { s with allocation := { s.allocation with passPending := true } }
  else s.startPass

/-- R9: an exclusion is signalled when a site that was eligible no longer is, and its slot holds a non-zero
allocation. -/
def State.signalExclusion (s : State) (slot : Nat) (wasEligible : Bool) : State :=
  if wasEligible && !(s.eligible slot) && s.allocated slot then s.trigger else s

/-! ## The arithmetic of a pass (R128 to R130) -/

/-- What a pass has given so far: each slot's allocations. -/
abbrev PassResult := Table (PerProduct Nat)

def givenAt (g : PassResult) (slot : Nat) : PerProduct Nat := Table.readOr g (PerProduct.all 0) slot

/-- R128: the slot has been given power, earlier in this pass, for a product of the opposite direction. -/
def lockedAgainst (l : PassLatch) (g : PassResult) (slot : Nat) (d : Direction) : Bool :=
  allProducts.any (fun q =>
    decide ((l.banks.get q).direction ≠ d) && decide ((givenAt g slot).get q ≠ 0))

/-- R128: the Roster entry makes its site allocatable for `p`. -/
def allocatableEntry (l : PassLatch) (g : PassResult) (p : Product) (slot : Nat) (e : RosterEntry) : Bool :=
  decide (0 < e.shares.get p) &&
  (match Table.find l.slots slot with
   | none => false
   | some x => x.eligible && decide (x.siteNumber = e.siteNumber)) &&
  !(lockedAgainst l g slot (l.banks.get p).direction)

/-- R128: the slots allocatable for `p` with their shares, in slot order. -/
def allocatable (l : PassLatch) (g : PassResult) (p : Product) : Table Nat :=
  match l.roster with
  | none => []
  | some r => (r.entries.filter (fun e => allocatableEntry l g p e.1 e.2)).map (fun e => (e.1, e.2.shares.get p))

/-- R129, step 4: the slots in the order the leftover watts go out: largest remainder first, lower slot first
between equal remainders. -/
def leftoverOrder (total granted : Nat) (sites : Table Nat) : List Nat :=
  (ordered (fun a b => decide (granted * b.2 % total < granted * a.2 % total)) sites).map (fun e => e.1)

/-- R129, steps 3 and 4: the division of `granted` watts over `sites`, whose shares sum to `total`. -/
def divide (total granted : Nat) (sites : Table Nat) : Table Nat :=
  let floors := sumOf sites (fun e => granted * e.2 / total)
  let favoured := (leftoverOrder total granted sites).take (granted - floors)
  sites.map (fun e => (e.1, granted * e.2 / total + (if favoured.contains e.1 then 1 else 0)))

/-- R128 to R130 for one product: its last-pass record, and the allocations so far with the product's added. -/
def passProduct (l : PassLatch) (g : PassResult) (p : Product) : LastPass × PassResult :=
  if (l.banks.get p).enabled then
    let sites := allocatable l g p
    let total := sumOf sites (fun e => e.2)
    let granted := min (l.targets.get p) total
    ({ target := l.targets.get p, allocatable := total, granted := granted,
       shortfall := decide (granted < l.targets.get p), census := l.census },
     (divide total granted sites).foldl
       (fun g e => Table.writeOr g (PerProduct.all 0) e.1 ((givenAt g e.1).set p e.2)) g)
  else ({ target := 0, allocatable := 0, granted := 0, shortfall := false, census := l.census }, g)

/-- R128: the products in capacity-priority order as the latched banks give it. -/
def PassLatch.order (l : PassLatch) : List Product := priorityOrder (fun p => (l.banks.get p).priority)

/-- R128 to R130: the whole pass over its latched inputs. -/
def runPass (l : PassLatch) : PerProduct LastPass × PassResult :=
  l.order.foldl
    (fun acc p => ((acc.1.set p (passProduct l acc.2 p).1), (passProduct l acc.2 p).2))
    (PerProduct.all LastPass.reset, [])

/-- R131: a slot's offset: the sum of its UP allocations minus the sum of its DOWN allocations. -/
def offsetOf (l : PassLatch) (a : PerProduct Nat) : Int :=
  (sumOf (allProducts.filter (fun p => decide ((l.banks.get p).direction = .up))) a.get : Int) -
  (sumOf (allProducts.filter (fun p => decide ((l.banks.get p).direction = .down))) a.get : Int)

/-! ## Releases (R132, R133) -/

/-- R133: the dispatch value of a slot. -/
def State.dispatchValue (s : State) (slot : Nat) : Option Int :=
  match s.siteAt slot with
  | none => none
  | some x => if x.state = .listed then some 0 else some (s.dispatch slot).staged

/-- R133: the slot owes a release. -/
def State.owes (s : State) (slot : Nat) : Bool :=
  match s.dispatchValue slot with
  | none => false
  | some v =>
    decide (v ≠ (s.dispatch slot).sent) || (s.dispatch slot).carry ||
    (s.allocation.catchUp && !(s.dispatch slot).confirmed)

/-- R133: the entries of a release formed now, in ascending slot order. -/
def State.owedEntries (s : State) : List ReleaseEntry :=
  s.fleet.sites.filterMap (fun e =>
    if s.owes e.1 then
      (s.dispatchValue e.1).map (fun v => { slot := e.1, siteNumber := e.2.static.siteNumber, offset := v })
    else none)

def State.someSlotOwes (s : State) : Bool := s.fleet.sites.any (fun e => s.owes e.1)

/-- DISPATCH_ORDER (5 + 8n octets). -/
def dispatchPayload (release index : Nat) (last : Bool) (entries : List ReleaseEntry) : Octets :=
  octetsOf 2 release ++ octetsOf 1 index ++ flagOctet last ++ octetsOf 1 entries.length ++
  entries.flatMap (fun e => octetsOf 4 e.siteNumber ++ signedOctets 4 e.offset)

/-- R134: a slot's dispatch record after one of its entries is handed over at local time `now`. -/
def DispatchRecord.handedOver (d : DispatchRecord) (release : Nat) (offset : Int) (now timeout : Nat) :
    DispatchRecord :=
  let t := { d with
    lastRelease := some release
    sentTime := some now
    confirmed := false
    expiry := some (now + timeout)
    carry := false }
  if offset ≠ d.sent ∨ d.releaseSent = none then { t with sent := offset, releaseSent := some release } else t

/-- R134 for one entry. -/
def State.handOverEntry (release : Nat) (s : State) (e : ReleaseEntry) : State :=
  s.setDispatch e.slot ((s.dispatch e.slot).handedOver release e.offset s.localTime s.params.confirmTimeout)

/-- R167: a DISPATCH_ORDER is given to the Fleet transmitter. -/
def State.sendFleet (s : State) (payload : Octets) : State :=
  { s with links := { s.links with
      fleetTx := some (envelope .dispatchOrder 0 s.links.fleetOut payload),
      fleetOut := (s.links.fleetOut + 1) % 256 } }

/-- R180: the next frame of the release is handed over when the transmitter is idle and the port UP; with the
last one the release state becomes IDLE (R134). -/
def State.feedFleet (s : State) : State :=
  if s.links.fleet.up && s.links.fleetTx.isNone then
    match s.allocation.emission with
    | none => s
    | some e =>
      match e.frames with
      | [] => { s with allocation := { s.allocation with emission := none } }
      | f :: rest =>
        let t := (s.sendFleet (dispatchPayload e.release e.nextIndex rest.isEmpty f))
        let t := f.foldl (State.handOverEntry e.release) t
        { t with allocation := { t.allocation with
            emission := if rest.isEmpty then none else some { e with nextIndex := e.nextIndex + 1, frames := rest } } }
  else s

/-- R132: all that a release needs to begin. -/
def State.releaseReady (s : State) : Bool :=
  s.allocation.requested && s.links.fleet.up && s.allocation.emission.isNone &&
  (match s.allocation.lastStart with
   | none => true
   | some t => decide (t + s.params.releaseSpacing ≤ s.localTime))

/-- R133: the number after a release number, 65,535 followed by 1. -/
def nextRelease (n : Nat) : Nat := if n < 65535 then n + 1 else 1

/-- R132, R133: the release begins: the request flag is cleared and the release formed. -/
def State.beginRelease (s : State) : State :=
  let entries := s.owedEntries
  if entries.isEmpty then { s with allocation := { s.allocation with requested := false } }
  else
    { s with allocation := { s.allocation with
        requested := false
        releaseCounter := nextRelease s.allocation.releaseCounter
        lastStart := some s.localTime
        catchUp := false
        emission := some {
          release := nextRelease s.allocation.releaseCounter
          nextIndex := 0
          frames := chunks entries.length Config.entriesPerFrame entries } } }.feedFleet

/-! ## The Fleet Port's state (R136) -/

def DispatchRecord.stopTimer (d : DispatchRecord) : DispatchRecord := { d with expiry := none }

/-- Every dispatch record changed by `f`, records that become the reset record no longer listed. -/
def mapRecords (t : Table DispatchRecord) (f : DispatchRecord → DispatchRecord) : Table DispatchRecord :=
  t.filterMap (fun e => if f e.2 = DispatchRecord.reset then none else some (e.1, f e.2))

/-- R136: the Fleet Port has gone DOWN. -/
def State.fleetWentDown (s : State) : State :=
  { s with allocation := { s.allocation with
      emission := none
      records := mapRecords s.allocation.records DispatchRecord.stopTimer
      catchUp := true } }

/-- R136: the Fleet Port is UP again; the catch-up flag alone sets the request flag when some slot owes. -/
def State.fleetCameUp (s : State) : State :=
  if !s.allocation.requested && s.allocation.catchUp && s.someSlotOwes then
    { s with allocation := { s.allocation with requested := true } }
  else s

/-! ## Confirmation (R137) -/

/-- R137: the applied release is at or ahead of release sent. -/
def atOrAhead (applied sent : Nat) : Bool := decide ((applied + 65536 - sent % 65536) % 65536 ≤ 32767)

/-- R137: a hand-over from Telemetry Intake at a slot's dispatch record. -/
def DispatchRecord.confirm (d : DispatchRecord) (applied : Nat) : DispatchRecord :=
  match d.releaseSent with
  | none => d
  | some r =>
    if !d.confirmed && decide (applied ≠ 0) && atOrAhead applied r then
      { d with confirmed := true, run := 0, expiry := none, carry := false }
    else d

def State.confirmSlot (s : State) (slot applied : Nat) : State :=
  s.setDispatch slot ((s.dispatch slot).confirm applied)

/-! ## The engine's events -/

/-- R131, first part: the pass's results replace allocations, staged offsets and last-pass records. -/
def State.replaceByPass (s : State) (l : PassLatch) : State :=
  let r := runPass l
  let cleared := mapRecords s.allocation.records (fun d => { d with allocation := PerProduct.all 0, staged := 0 })
  { s with allocation := { s.allocation with
      lastPass := r.1
      records := r.2.foldl (fun t e =>
        Table.writeOr t DispatchRecord.reset e.1
          { Table.readOr t DispatchRecord.reset e.1 with allocation := e.2, staged := offsetOf l e.2 }) cleared } }

/-- R131, hand-on 2: a slot just given a non-zero allocation is no longer eligible. -/
def State.newlyIneligible (s : State) (given : PassResult) : Bool :=
  given.any (fun e => e.2.toList.any (fun a => decide (a ≠ 0)) && !(s.eligible e.1))

/-- R135: a release emits, and the pass that led from `s` to `t` changed the staged offset of an occupied slot. -/
def State.restaged (s t : State) : Bool :=
  s.allocation.emission.isSome &&
  t.fleet.sites.any (fun e => decide ((t.dispatch e.1).staged ≠ (s.dispatch e.1).staged))

/-- R131: the end of a pass over the latched inputs `l`. The request flag is set when some slot owes a release, and,
while a release emits, also when the pass changed a staged offset (R131 read with R135: DEDUCED, log entry 41). -/
def State.endPass (s : State) (l : PassLatch) : State :=
  let t := (s.replaceByPass l).evaluate false
  let t := if t.newlyIneligible (runPass l).2 then t.trigger else t
  let t := if t.someSlotOwes || s.restaged t then { t with allocation := { t.allocation with requested := true } } else t
  if t.allocation.passPending then t.startPass
  else { t with allocation := { t.allocation with pass := none } }

/-- ALLOCATION_PASS_END (R131): the running pass ends; nothing happens while no pass runs. -/
def execAllocationPassEnd (s : State) : Host.Outcome State Fault Refusal :=
  match s.allocation.pass with
  | none => .next s
  | some l => .next (s.endPass l)

/-- RELEASE_BEGIN (R132, R133). -/
def execReleaseBegin (s : State) : Host.Outcome State Fault Refusal :=
  .next (if s.releaseReady then s.beginRelease else s)

/-- FLEET_TRANSMIT_DONE (R180): the transmitter becomes idle and takes the release's next frame. -/
def execFleetTransmitDone (s : State) : Host.Outcome State Fault Refusal :=
  .next (match s.links.fleetTx with
    | none => s
    | some _ => { s with links := { s.links with fleetTx := none } }.feedFleet)

end Sys2Proof.Machine
end

