-- ==== Sys2Proof/Machine/Fleet.lean ====
section
/-! DEFINITION. The Fleet Table, Site Map and Feeder Table (chapter 1): site states, loads, barring, clearing,
removing, feeder writes, ageing and the suspect hold, with the exclusions of R9. -/

namespace Sys2Proof.Machine

/-! ## Site loads (R2, R11, R12) -/

/-- R2: every static field lies in its range, with E_floor not above E_ceil. -/
def StaticFields.inRange (f : StaticFields) : Bool :=
  decide (1 ≤ f.siteNumber) && decide (f.siteNumber ≤ 4294967295) && decide (f.feeder < Config.feeders) &&
  decide (f.dischargeRating ≤ 20000) && decide (f.chargeRating ≤ 20000) && decide (f.eFloor ≤ 65535) &&
  decide (f.eFloor ≤ f.eCeil) && decide (f.eCeil ≤ 65535)

/-- R11: the first check a load fails, with its refusal. -/
def State.loadRefusal (s : State) (slot : Nat) (f : StaticFields) : Option Reason :=
  if !f.inRange then some .badField
  else if (match s.slotOf f.siteNumber with
           | none => false
           | some j => decide (j ≠ slot)) then some .duplicateSite
  else if (match s.siteAt slot with
           | none => false
           | some x => decide (x.static.siteNumber ≠ f.siteNumber) && !(s.undispatched slot))
    then some .siteDispatched
  else none

/-- A site just loaded into its slot (R12). -/
def listedSite (f : StaticFields) : Site :=
  { state := .listed, static := f, report := none, barReason := none, suspectExpiry := none, tagRun := 0 }

/-- R12: a load that has passed the checks of R11. -/
def State.loadSite (s : State) (slot : Nat) (f : StaticFields) : State :=
  match s.siteAt slot with
  | none => ((s.setSite slot (listedSite f)).mapSite f.siteNumber slot).countUp f.feeder
  | some x =>
    let moved (t : State) : State :=
      if x.static.feeder = f.feeder then t else (t.countDown x.static.feeder).countUp f.feeder
    if x.static.siteNumber = f.siteNumber then
      let y := { x with static := f, tagRun := if x.static.tag = f.tag then x.tagRun else 0 }
      (moved (s.setSite slot y)).signalExclusion slot (s.siteEligible x)
    else
      (moved (((s.setSite slot (listedSite f)).unmapSite x.static.siteNumber).mapSite f.siteNumber slot)).signalExclusion
        slot (s.siteEligible x)

/-! ## Feeder writes (R17) -/

/-- R17: a feeder write that has passed its checks; disabling the feeder of any site with a non-zero allocation
signals one exclusion, also where no such site was eligible before (R17 taken before R9: DEDUCED, log entry 44). -/
def State.writeFeeder (s : State) (f capUp capDown : Nat) (enabled : Bool) : State :=
  let t := s.setFeeder f { s.feeder f with capUp := capUp, capDown := capDown, enabled := enabled }
  if (s.feeder f).enabled && !enabled &&
      s.fleet.sites.any (fun e =>
        decide (e.2.static.feeder = f) && s.allocated e.1) then t.trigger
  else t

/-! ## Entering BARRED (R8, R14), clearing (R15) and removing (R16) -/

/-- R1, R8, R14: the record of a site that enters BARRED. -/
def Site.barred (x : Site) (reason : BarReason) : Site :=
  { x with state := .barred, barReason := some reason, suspectExpiry := none }

/-- Entry to BARRED from another occupied state: the notice is posted, and R9 applied. -/
def State.enterBarred (s : State) (slot : Nat) (x : Site) (reason : BarReason) : State :=
  ((s.setSite slot (x.barred reason)).post (.siteBarred slot x.static.siteNumber reason)).signalExclusion slot
    (s.siteEligible x)

/-- R14: BAR_SITE for the site `x` in `slot`. -/
def State.barSite (s : State) (slot : Nat) (x : Site) : State :=
  if x.state = .barred then
    if x.barReason = some .host then s
    else (s.setSite slot { x with barReason := some .host }).post (.siteBarred slot x.static.siteNumber .host)
  else s.enterBarred slot x .host

/-- R15: CLEAR_SITE takes a BARRED site to LISTED. -/
def State.clearSite (s : State) (slot : Nat) (x : Site) : Except Reason State :=
  if x.state = .barred then .ok (s.setSite slot (listedSite x.static)) else .error .wrongState

/-- No limit report waits for the slot any more (R6: it was taken, or the slot was made VACANT before it was). -/
def State.dropReport (s : State) (slot : Nat) : State :=
  { s with allocation := { s.allocation with reports := s.allocation.reports.filter (fun k => decide (k ≠ slot)) } }

/-- R16: REMOVE_SITE makes the slot VACANT; a limit report that waits for it has no effect any more (R6). -/
def State.removeSite (s : State) (slot : Nat) (x : Site) : Except Reason State :=
  if s.undispatched slot then
    .ok ((({ s.dropReport slot with fleet := { s.fleet with sites := Table.drop s.fleet.sites slot } }.unmapSite
      x.static.siteNumber).countDown x.static.feeder).signalExclusion slot (s.siteEligible x))
  else .error .siteDispatched

/-! ## Ageing and the suspect hold (R5 to R7) -/

/-- R5: the state an ageing event takes a site to, if its report's age has reached the bound. -/
def State.agedState (s : State) (x : Site) : Option SiteState :=
  match x.report with
  | none => none
  | some r =>
    if x.state = .active ∧ r.receiptTime + s.params.fFresh ≤ s.localTime then some .ageing
    else if x.state = .ageing ∧ r.receiptTime + s.params.fStale ≤ s.localTime then some .stale
    else none

/-- SITE_AGEING (R5): due at a slot when its site's age has reached the bound its state ends at. -/
def execSiteAgeing (slot : Nat) (s : State) : Host.Outcome State Fault Refusal :=
  .next (match s.siteAt slot with
    | none => s
    | some x =>
      match s.agedState x with
      | none => s
      | some st => (s.setSite slot { x with state := st }).signalExclusion slot (s.siteEligible x))

/-- R7: the slot's suspect expiry has been reached. -/
def State.suspectOver (s : State) (x : Site) : Bool :=
  decide (x.state = .suspect) &&
  (match x.suspectExpiry with
   | none => false
   | some t => decide (t ≤ s.localTime))

/-- R7: the state a site's present age gives; a site without a report, which no run ages, grades STALE (DESIGN CHOICE,
log entry 24). -/
def State.gradedState (s : State) (x : Site) : SiteState :=
  match x.report with
  | none => .stale
  | some r => s.params.gradeAge (r.age s.localTime)

/-- SUSPECT_EXPIRY (R7). -/
def execSuspectExpiry (slot : Nat) (s : State) : Host.Outcome State Fault Refusal :=
  .next (match s.siteAt slot with
    | none => s
    | some x =>
      if s.suspectOver x then s.setSite slot { x with state := s.gradedState x, suspectExpiry := none } else s)

/-- R6: the Allocation Engine reports that a slot's unconfirmed run has reached the limit. The entry to SUSPECT
signals an exclusion as R9 words it, only for a site that was eligible and holds a non-zero allocation, so an entry
from STALE makes no trigger beyond the timeout's own (R140 read with R9: DEDUCED, log entry 30). -/
def State.reportUnconfirmed (s : State) (slot : Nat) : State :=
  let expiry := s.localTime + s.params.suspectHold * 1000
  match s.siteAt slot with
  | none => s
  | some x =>
    if x.state = .active ∨ x.state = .ageing ∨ x.state = .stale then
      ((s.setSite slot { x with state := .suspect, suspectExpiry := some expiry }).post
        (.siteSuspect slot x.static.siteNumber expiry)).signalExclusion slot (s.siteEligible x)
    else if x.state = .suspect then s.setSite slot { x with suspectExpiry := some expiry }
    else s

/-- R5: every site in ACTIVE, AGEING or STALE takes the state its present age gives under the new bounds. -/
def State.regradeSites (s : State) : State :=
  { s with fleet := { s.fleet with sites := s.fleet.sites.map (fun e =>
      if e.2.state = .active ∨ e.2.state = .ageing ∨ e.2.state = .stale then
        (e.1, { e.2 with state := s.gradedState e.2 })
      else e) } }

/-- R5, R9: the sites re-graded all at once, then one exclusion for each that stopped being eligible while it
held a non-zero allocation (DEDUCED, log entry 21). -/
def State.regradeAll (s : State) : State :=
  s.fleet.sites.foldl (fun t e => t.signalExclusion e.1 (s.siteEligible e.2)) s.regradeSites

/-! ## The confirmation timeout (R138) -/

/-- R138: the slot's confirmation expiry has been reached. -/
def State.confirmationDue (s : State) (slot : Nat) : Bool :=
  match (s.dispatch slot).expiry with
  | none => false
  | some t => decide (t ≤ s.localTime)

/-- R138: the run after a timeout: raised by 1, up to 8, when the sent offset is not 0. -/
def DispatchRecord.runAfterTimeout (d : DispatchRecord) : Nat := if d.sent = 0 then d.run else min (d.run + 1) 8

/-- R38, R140: a limit report made for the slot waits until the Fleet Table takes it. -/
def State.waitReport (s : State) (slot : Nat) : State :=
  { s with allocation := { s.allocation with reports := s.allocation.reports ++ [slot] } }

/-- R38, R140: the Fleet Table takes the limit report that waits for the slot, whatever the slot's dispatch record has
become since (R6). -/
def State.takeReport (s : State) (slot : Nat) : State := (s.dropReport slot).reportUnconfirmed slot

/-- R138: the Allocation Engine reports the slot at the limit. The Fleet Table takes the report before anything else
reaches the slot when `atOnce`, and later otherwise (R38). -/
def State.reportLimit (s : State) (slot : Nat) (atOnce : Bool) : State :=
  if atOnce then s.reportUnconfirmed slot else s.waitReport slot

/-- R138: a confirmation timeout is taken for the slot. A limit report draws a free value for its order (R38, log entry
48). -/
def State.confirmationTimeout (s : State) (slot : Nat) (atOnce : Bool) : State :=
  let d := s.dispatch slot
  let t := s.setDispatch slot { d with expiry := none, run := d.runAfterTimeout }
  let t := if d.sent ≠ 0 ∧ s.params.unconfirmedLimit ≤ d.runAfterTimeout
    then { t with freeDraws := t.freeDraws + 1 }.reportLimit slot atOnce else t
  (t.setDispatch slot { t.dispatch slot with carry := true }).trigger

/-- CONFIRMATION_TIMEOUT (R138): where a limit report waits for the slot, the Fleet Table takes it (R38, log entry
48). -/
def execConfirmationTimeout (slot : Nat) (s : State) : Host.Outcome State Fault Refusal :=
  .next (
    if slot ∈ s.allocation.reports then s.takeReport slot
    else if s.confirmationDue slot then s.confirmationTimeout slot (Config.limitReportAtOnce s.freeDraws)
    else s)

end Sys2Proof.Machine
end

