-- ==== Sys2Proof/Machine/Intake.lean ====
section
/-! DEFINITION. Telemetry Intake (chapter 2): the handling of one SITE_REPORT frame from the Fleet buffer. -/

namespace Sys2Proof.Machine

/-- The fields of a SITE_REPORT payload (section 11.3). -/
structure SiteReport where
  siteNumber : Nat
  tag : BitVec 128
  sequence : Nat
  pNow : Int
  eStored : Nat
  eUsable : Nat
  dischargeAvail : Nat
  chargeAvail : Nat
  condition : Condition
  appliedRelease : Nat
  appliedOffset : Int
  deriving DecidableEq, Repr

/-- R24: the report a payload carries; none when it is not exactly 41 octets, names site 0 or has an unlisted
condition code. -/
def parseSiteReport (o : Octets) : Option SiteReport :=
  if o.length ≠ 41 ∨ fieldAt o 0 4 = 0 then none
  else
    match Condition.ofCode (fieldAt o 34 1) with
    | none => none
    | some c =>
      some { siteNumber := fieldAt o 0 4, tag := BitVec.ofNat 128 (fieldAt o 4 16), sequence := fieldAt o 20 2,
             pNow := signedAt o 22 4, eStored := fieldAt o 26 2, eUsable := fieldAt o 28 2,
             dischargeAvail := fieldAt o 30 2, chargeAvail := fieldAt o 32 2, condition := c,
             appliedRelease := fieldAt o 35 2, appliedOffset := signedAt o 37 4 }

/-- R30: sequence `n` is ahead of the held sequence `h`. -/
def aheadOf (n h : Nat) : Bool :=
  let d := (n + 65536 - h % 65536) % 65536
  decide (1 ≤ d) && decide (d ≤ 32767)

/-- R32: P_now limited by the site's ratings. -/
def clampPower (p : Int) (f : StaticFields) : Int :=
  if p > (f.dischargeRating : Int) then f.dischargeRating
  else if p < -(f.chargeRating : Int) then -(f.chargeRating : Int)
  else p

/-- R32 to R34: the report fields an accepted report leaves. -/
def acceptedFields (r : SiteReport) (f : StaticFields) (now : Nat) : ReportFields :=
  { pNow := clampPower r.pNow f
    eStored := min r.eStored r.eUsable
    eUsable := r.eUsable
    dischargeAvail := r.dischargeAvail
    chargeAvail := r.chargeAvail
    condition := r.condition
    sequence := r.sequence
    receiptTime := now
    appliedRelease := r.appliedRelease
    appliedOffset := r.appliedOffset
    clamped := decide (min r.eStored r.eUsable ≠ r.eStored) || decide (clampPower r.pNow f ≠ r.pNow) }

/-- R4: the state after acceptance. -/
def stateOnAcceptance (x : SiteState) : SiteState := if x = .suspect then .suspect else .active

/-- R35: the accepted report moves the condition away from NORMAL. -/
def leavesNormal (old : Option ReportFields) (c : Condition) : Bool :=
  match old with
  | none => false
  | some r => decide (r.condition = .normal) && decide (c ≠ .normal)

/-- R34 to R36: acceptance: the report fields are replaced, the state moves, the confirmation is handed on, and
after it an exclusion when R35 calls for one. -/
def State.acceptReport (s : State) (slot : Nat) (x : Site) (r : SiteReport) : State :=
  let t := (s.setSite slot { x with
    report := some (acceptedFields r x.static s.localTime),
    state := stateOnAcceptance x.state,
    tagRun := 0 }).confirmSlot slot r.appliedRelease
  if leavesNormal x.report r.condition && s.allocated slot then t.trigger else t

/-- R28: a report with the wrong tag raises the run, and bars the site when the run reaches the limit. -/
def State.tagMismatch (s : State) (slot : Nat) (x : Site) : State :=
  let run := min (x.tagRun + 1) 15
  if s.params.tagLimit ≤ run then s.enterBarred slot { x with tagRun := run } .tag
  else s.setSite slot { x with tagRun := run }

/-- R30: the report's sequence passes: the report fields are absent, or it is ahead of the held one. -/
def sequencePasses (old : Option ReportFields) (n : Nat) : Bool :=
  match old with
  | none => true
  | some h => aheadOf n h.sequence

/-- R25 to R36: a report whose payload is in format. -/
def State.handleReport (s : State) (r : SiteReport) : State :=
  match s.slotOf r.siteNumber with
  | none => s.raiseUnknown
  | some slot =>
    match s.siteAt slot with
    | none => s.raiseUnknown
    | some x =>
      if x.state = .barred then s.raiseUnknown
      else if x.static.tag ≠ r.tag then s.tagMismatch slot x
      else if sequencePasses x.report r.sequence then s.acceptReport slot x r
      else (s.setSite slot { x with tagRun := 0 }).raiseUnknown

/-- SITE_REPORT (R23): Intake takes the frame at the head of the Fleet buffer and handles it whole. -/
def execSiteReport (s : State) : Host.Outcome State Fault Refusal :=
  match s.links.fleet.buffer with
  | [] => .next s
  | f :: _ =>
    match parseSiteReport f.payload with
    | none => .next ((s.dropHead .fleet).reportClass .fleet .payload f.flagged)
    | some r => .next ((s.dropHead .fleet).handleReport r)

end Sys2Proof.Machine
end

