-- ==== Sys2Proof/Machine/Census.lean ====
section
/-! DEFINITION. The Census Engine (chapter 4): requests and pending runs, the sweep with its capacity arithmetic,
clipping, the merge of a select census, totals and publication. -/

namespace Sys2Proof.Machine

/-! ## Requests and starts (R62 to R66) -/

/-- R62: the disposition of a census request. -/
inductive Disposition where
  | startedFull | startedSelect | pendingFull | pendingSelect | absorbed
  deriving DecidableEq, Repr

def Disposition.code (d : Disposition) : Nat :=
  match d with
  | .startedFull => 1
  | .startedSelect => 2
  | .pendingFull => 3
  | .pendingSelect => 4
  | .absorbed => 5

/-- The caps of feeder `f` in the Feeder Table. -/
def State.feederCaps (s : State) (f : Nat) : Caps := ⟨(s.feeder f).capUp, (s.feeder f).capDown⟩

/-- What an unlisted feeder's latched caps read as. -/
def Caps.zero : Caps := ⟨0, 0⟩

/-- R66: the caps a run of kind `k` latches: the Feeder Table's for a full census; for a select census feeder
`f`'s from the Feeder Table and every other feeder's from the Roster in force. -/
def State.latchedCaps (s : State) (k : CensusKind) : Table Caps :=
  match k with
  | .full => (List.range Config.feeders).filterMap (fun f =>
      if s.feederCaps f = Caps.zero then none else some (f, s.feederCaps f))
  | .select f =>
    let kept := match s.census.published with
      | none => []
      | some x => x.roster.feeders.filterMap (fun e =>
          if e.2.caps = Caps.zero then none else some (e.1, e.2.caps))
    Table.writeOr kept Caps.zero f (s.feederCaps f)

/-- R66: a run of kind `k` starts; a full one clears the banks-switched flag and sets the interval timer (R65). -/
def State.startRun (s : State) (k : CensusKind) : State :=
  let run : CensusRun :=
    { kind := k, banks := PerProduct.ofFn s.bank, caps := s.latchedCaps k, nextSlot := 0, sweep := [],
      swept := [] }
  match k with
  | .full =>
    { s with census := { s.census with
        run := some run, banksSwitched := false,
        timerExpiry := s.localTime + s.params.censusInterval * 1000, timerBase := s.localTime } }
  | .select _ => { s with census := { s.census with run := some run } }

/-- R63: the kind a select request starts as: FULL when no Roster exists or the banks-switched flag is set. -/
def State.selectKind (s : State) (f : Nat) : CensusKind :=
  if s.census.published.isNone || s.census.banksSwitched then .full else .select f

/-- R63, R64: a full request is taken. -/
def State.requestFull (s : State) : State × Disposition :=
  if s.census.run.isSome then
    ({ s with census := { s.census with fullPending := true, selectPending := none } }, .pendingFull)
  else (s.startRun .full, .startedFull)

/-- R63, R64: a select request for feeder `f` is taken. -/
def State.requestSelect (s : State) (f : Nat) : State × Disposition :=
  if s.census.run.isSome then
    if s.census.fullPending then (s, .absorbed)
    else
      match s.census.selectPending with
      | none => ({ s with census := { s.census with selectPending := some f } }, .pendingSelect)
      | some g =>
        if g = f then (s, .pendingSelect)
        else ({ s with census := { s.census with fullPending := true, selectPending := none } }, .pendingFull)
  else
    match s.selectKind f with
    | .full => (s.startRun .full, .startedFull)
    | .select g => (s.startRun (.select g), .startedSelect)

/-- R62: the Product Table's request after a bank switch: full, and the banks-switched flag is set as it is taken. -/
def State.requestAfterSwitch (s : State) : State :=
  { s with census := { s.census with banksSwitched := true } }.requestFull.1

/-- R65: the interval timer's expiry: a full request, and the expiry set again. -/
def State.censusTimerExpires (s : State) : State :=
  let t := s.requestFull.1
  { t with census := { t.census with timerExpiry := s.localTime + s.params.censusInterval * 1000 } }

/-! ## One site (R69, R70) -/

/-- R69: the headroom and budget read for a site in one direction. -/
def headroomUp (f : StaticFields) (r : ReportFields) : Nat :=
  ((min f.dischargeRating r.dischargeAvail : Nat) - (r.pNow - r.appliedOffset) : Int).toNat

def headroomDown (f : StaticFields) (r : ReportFields) : Nat :=
  ((min f.chargeRating r.chargeAvail : Nat) + (r.pNow - r.appliedOffset) : Int).toNat

def budgetUp (f : StaticFields) (r : ReportFields) : Nat := r.eStored - min f.eFloor r.eUsable

def budgetDown (f : StaticFields) (r : ReportFields) : Nat := min f.eCeil r.eUsable - r.eStored

/-- R70, step 3: a raw contribution derated by a report's age. -/
def derated (p : Params) (age raw : Nat) : Nat :=
  if age ≤ p.fFresh then raw else raw * (p.fStale - age) / (p.fStale - p.fFresh)

/-- R70, step 4: the energy a power `c` draws over endurance `t` seconds, rounded up. -/
def energyDrawn (c t : Nat) : Nat := (c * t + 3599) / 3600

/-- What a site has left, by direction, as the products draw on it. -/
structure SiteRoom where
  headUp : Nat
  headDown : Nat
  budUp : Nat
  budDown : Nat
  deriving DecidableEq, Repr

/-- R70, steps 1 to 3: the contribution of a site with headroom `h` and budget `b` to a product of endurance `t`. -/
def contribution (p : Params) (age h b t : Nat) : Nat := derated p age (min h (b * 3600 / t))

/-- R70 for one product: its share, and what it leaves. -/
def drawProduct (p : Params) (age : Nat) (bank : Bank) (room : SiteRoom) : Nat × SiteRoom :=
  match bank.direction with
  | .up =>
    let c := contribution p age room.headUp room.budUp bank.endurance
    (c, { room with headUp := room.headUp - c, budUp := room.budUp - energyDrawn c bank.endurance })
  | .down =>
    let c := contribution p age room.headDown room.budDown bank.endurance
    (c, { room with headDown := room.headDown - c, budDown := room.budDown - energyDrawn c bank.endurance })

/-- R58: the latched-enabled products in capacity-priority order. -/
def CensusRun.order (r : CensusRun) : List Product :=
  (priorityOrder (fun p => (r.banks.get p).priority)).filter (fun p => (r.banks.get p).enabled)

/-- R70: the unclipped shares of a site, product after product. -/
def siteShares (p : Params) (age : Nat) (banks : PerProduct Bank) (participation : BitVec 8) (order : List Product)
    (room : SiteRoom) : PerProduct Nat × SiteRoom :=
  order.foldl
    (fun acc q =>
      if participation.getLsbD q.val then
        (acc.1.set q (drawProduct p age (banks.get q) acc.2).1, (drawProduct p age (banks.get q) acc.2).2)
      else acc)
    (PerProduct.all 0, room)

/-- R69: the room read for a site. -/
def roomOf (f : StaticFields) (r : ReportFields) : SiteRoom :=
  { headUp := headroomUp f r, headDown := headroomDown f r, budUp := budgetUp f r, budDown := budgetDown f r }

/-- R67: the sweep record of a slot that is counted. -/
def State.sweepRecord (s : State) (run : CensusRun) (slot : Nat) (x : Site) (r : ReportFields) : SweepRecord :=
  let room := roomOf x.static r
  { slot := slot, siteNumber := x.static.siteNumber, feeder := x.static.feeder, headroomUp := room.headUp,
    headroomDown := room.headDown, budgetUp := room.budUp, budgetDown := room.budDown,
    shares := (siteShares s.params (r.age s.localTime) run.banks x.static.participation run.order room).1 }

/-- R67: the run counts a slot's site. -/
def State.counts (s : State) (k : CensusKind) (x : Site) : Bool :=
  s.siteEligible x &&
  (match k with
   | .full => true
   | .select f => decide (x.static.feeder = f))

/-- R67: the record the reading of `slot` yields, if it counts the site there. -/
def State.readSlot (s : State) (run : CensusRun) (slot : Nat) : Option SweepRecord :=
  match s.siteAt slot with
  | none => none
  | some x =>
    match x.report with
    | none => none
    | some r => if s.counts run.kind x then some (s.sweepRecord run slot x r) else none

/-- R72: the reading of `slot` sweeps it: a full census sweeps every slot, a select census for `f` the sites whose
feeder field names `f`, counted or not (a VACANT slot names no feeder: DEDUCED, log entry 20). -/
def State.sweeps (s : State) (k : CensusKind) (slot : Nat) : Bool :=
  match k with
  | .full => true
  | .select f =>
    match s.siteAt slot with
    | none => false
    | some x => decide (x.static.feeder = f)

/-- CENSUS_SLOT_READ (R67): the run reads its next slot. -/
def execCensusSlotRead (s : State) : Host.Outcome State Fault Refusal :=
  .next (match s.census.run with
    | none => s
    | some run =>
      if run.nextSlot < Config.slots then
        { s with census := { s.census with run := some { run with
            nextSlot := run.nextSlot + 1
            sweep := run.sweep ++ (s.readSlot run run.nextSlot).toList
            swept := if s.sweeps run.kind run.nextSlot then run.swept ++ [run.nextSlot] else run.swept } } }
      else s)

/-! ## Clipping (R71) -/

/-- The latched cap of a feeder in one direction. -/
def CensusRun.cap (r : CensusRun) (f : Nat) (d : Direction) : Nat :=
  match d with
  | .up => (Table.readOr r.caps Caps.zero f).up
  | .down => (Table.readOr r.caps Caps.zero f).down

/-- R71, step 3: a share scaled to the remaining cap. -/
def clippedShare (u remaining total : Nat) : Nat := if total ≤ remaining then u else u * remaining / total

/-- What clipping keeps between two products of a feeder: the sweep records so far clipped, the totals, the
clipped indications and the two remaining caps. -/
structure ClipState where
  sites : List SweepRecord
  totals : PerProduct Nat
  clipped : PerProduct Bool
  up : Nat
  down : Nat
  deriving DecidableEq, Repr

def ClipState.remaining (c : ClipState) (d : Direction) : Nat :=
  match d with
  | .up => c.up
  | .down => c.down

/-- R71 for one product at one feeder. -/
def clipProduct (banks : PerProduct Bank) (c : ClipState) (p : Product) : ClipState :=
  let d := (banks.get p).direction
  let total := sumOf c.sites (fun x => x.shares.get p)
  let sites := c.sites.map (fun x =>
    { x with shares := x.shares.set p (clippedShare (x.shares.get p) (c.remaining d) total) })
  let f := sumOf sites (fun x => x.shares.get p)
  { sites := sites, totals := c.totals.set p f, clipped := c.clipped.set p (decide (c.remaining d < total)),
    up := (match d with | .up => c.up - f | .down => c.up),
    down := (match d with | .up => c.down | .down => c.down - f) }

/-- R71 for one feeder: its clipped sites with its feeder record. -/
def clipFeeder (run : CensusRun) (f : Nat) : List SweepRecord × FeederRecord :=
  let c := run.order.foldl (clipProduct run.banks)
    { sites := run.sweep.filter (fun x => decide (x.feeder = f)), totals := PerProduct.all 0,
      clipped := PerProduct.all false, up := run.cap f .up, down := run.cap f .down }
  (c.sites, { caps := ⟨run.cap f .up, run.cap f .down⟩, totals := c.totals, clipped := c.clipped })

/-! ## Publication (R72 to R75) -/

/-- A Roster entry for a sweep record with a share above 0 for some product (R74). -/
def entryOf (census : Nat) (x : SweepRecord) : Option (Nat × RosterEntry) :=
  if x.shares.toList.any (fun a => decide (0 < a)) then
    some (x.slot, { siteNumber := x.siteNumber, feeder := x.feeder, shares := x.shares, census := census })
  else none

/-- The entries of a list of sweep records put into a Roster's entries. -/
def putEntries (t : Table RosterEntry) (census : Nat) (l : List SweepRecord) : Table RosterEntry :=
  l.foldl (fun t x =>
    match entryOf census x with
    | none => t
    | some e => Table.put t e.1 e.2) t

/-- R71, R74: the Roster of a full census. -/
def fullRoster (run : CensusRun) (census : Nat) : Roster :=
  (List.range Config.feeders).foldl
    (fun r f =>
      { feeders := Table.writeOr r.feeders FeederRecord.zero f (clipFeeder run f).2,
        entries := putEntries r.entries census (clipFeeder run f).1 })
    { feeders := [], entries := [] }

/-- R72, step 2: an entry leaves the Roster, each of its shares taken from its feeder's total. -/
def withdrawEntry (r : Roster) (slot : Nat) (e : RosterEntry) : Roster :=
  let g := Table.readOr r.feeders FeederRecord.zero e.feeder
  { feeders := Table.writeOr r.feeders FeederRecord.zero e.feeder
      { g with totals := PerProduct.ofFn (fun p => g.totals.get p - e.shares.get p) },
    entries := Table.drop r.entries slot }

/-- R72, step 2, for one slot that the run swept: its entry, if the Roster holds one, is withdrawn. -/
def withdrawSlot (r : Roster) (slot : Nat) : Roster :=
  match Table.find r.entries slot with
  | none => r
  | some e => withdrawEntry r slot e

/-- R72: a select census for `f` merged with the Roster in force. -/
def mergeRoster (run : CensusRun) (f census : Nat) (old : Roster) : Roster :=
  let without := { old with entries := old.entries.filter (fun e => decide (e.2.feeder ≠ f)) }
  let r := run.swept.foldl withdrawSlot without
  { feeders := Table.writeOr r.feeders FeederRecord.zero f (clipFeeder run f).2,
    entries := putEntries r.entries census (clipFeeder run f).1 }

/-- R71, R72: the Roster a completed run publishes. -/
def State.rosterOf (s : State) (run : CensusRun) (census : Nat) : Roster :=
  match run.kind with
  | .full => fullRoster run census
  | .select f =>
    mergeRoster run f census
      (match s.census.published with
       | none => { feeders := [], entries := [] }
       | some x => x.roster)

/-- R73: the offerable quantity of an available capacity under a bank's terms. -/
def offerableOf (b : Bank) (available : Nat) : Nat :=
  let q := available * (1000 - b.margin) / 1000 / b.increment * b.increment
  if q < b.minBid then 0 else min q b.maxBid

/-- R73: a product's fields of the Snapshot. -/
def snapshotProduct (banks : PerProduct Bank) (r : Roster) (p : Product) : SnapshotProduct :=
  if (banks.get p).enabled then
    let a := sumOf r.feeders (fun e => e.2.totals.get p)
    { available := a, offerable := offerableOf (banks.get p) a,
      contributing := (r.entries.filter (fun e => decide (0 < e.2.shares.get p))).length,
      clippedFeeders := (r.feeders.filter (fun e => e.2.clipped.get p)).length }
  else { available := 0, offerable := 0, contributing := 0, clippedFeeders := 0 }

/-- R74: the census number after `n`. -/
def nextCensus (n : Nat) : Nat := (n + 1) % 4294967296

/-- R73, R74: what a completed run publishes. -/
def State.publicationOf (s : State) (run : CensusRun) : Publication :=
  let number := nextCensus s.census.counter
  let roster := s.rosterOf run number
  { snapshot := { number := number, kind := run.kind, localTime := s.localTime, deviceTime := s.deviceTime,
                  products := PerProduct.ofFn (snapshotProduct run.banks roster) },
    roster := roster }

/-- R64: after a publication the pending run starts, or the census state becomes IDLE. -/
def State.startPending (s : State) : State :=
  if s.census.fullPending then
    { s with census := { s.census with run := none, fullPending := false, selectPending := none } }.startRun .full
  else
    match s.census.selectPending with
    | some f =>
      let t := { s with census := { s.census with run := none, selectPending := none } }
      t.startRun (t.selectKind f)
    | none => { s with census := { s.census with run := none } }

/-- R75: the CENSUS_DONE notice of a publication. -/
def Publication.notice (x : Publication) : Notice :=
  .censusDone x.snapshot.number x.snapshot.kind (PerProduct.ofFn (fun p => (x.snapshot.products.get p).available))
    (PerProduct.ofFn (fun p => (x.snapshot.products.get p).offerable))

/-- R74, R75, R64: the completed run `run` publishes, hands on, and the next pending run starts. -/
def State.publish (s : State) (run : CensusRun) : State :=
  let x := s.publicationOf run
  let t := { s with census := { s.census with counter := x.snapshot.number, published := some x } }
  ((t.trigger.evaluate false).post x.notice).startPending

/-- CENSUS_PUBLISH (R74): the run publishes once it has read every slot. -/
def execCensusPublish (s : State) : Host.Outcome State Fault Refusal :=
  .next (match s.census.run with
    | none => s
    | some run => if run.nextSlot < Config.slots then s else s.publish run)

/-- R65: local time has reached the interval timer's expiry. -/
def State.censusDue (s : State) : Bool := decide (s.census.timerExpiry ≤ s.localTime)

/-- CENSUS_INTERVAL_EXPIRY (R65). -/
def execCensusIntervalExpiry (s : State) : Host.Outcome State Fault Refusal :=
  .next (if s.censusDue then s.censusTimerExpires else s)

end Sys2Proof.Machine
end

