-- ==== Sys2Proof/Machine/Activation.lean ====
section
/-! DEFINITION. The Activation Unit (chapter 6): obligations and targets, signalled orders and ends, frequency
following, the Meter Line's silence, bank switches, and what each event hands on (R109). -/

namespace Sys2Proof.Machine

/-! ## What an event hands on (R109) -/

/-- R109, step 3: the notice of product `p`'s record. -/
def State.activationNotice (s : State) (p : Product) (cause : Cause) : Notice :=
  .activationChange p cause (s.act p).state (s.act p).target (s.act p).obligation (s.act p).currentId

/-- R109, step 3: the record's state changed, or a SIGNALLED record's target did. -/
def State.changeNoted (s old : State) (p : Product) : Bool :=
  decide ((s.act p).state ≠ (old.act p).state) ||
  (!(s.followsFrequency p) && decide ((s.act p).target ≠ (old.act p).target))

/-- R109, step 2: the record entered or left LOST. -/
def State.lossChanged (s old : State) (p : Product) : Bool :=
  decide ((s.act p).state = .lost) != decide ((old.act p).state = .lost)

/-- R109, step 1: some product's target changed. -/
def State.targetsChanged (s old : State) : Bool :=
  allProducts.any (fun p => decide ((s.act p).target ≠ (old.act p).target))

/-- R109: an event at the Activation Unit hands on what it changed since `old`, in the rule's order (one
evaluation per signal: DEDUCED, log entry 9; signals and notices of several products in ascending product number:
DESIGN CHOICE, log entry 42). -/
def State.handOn (s old : State) (cause : Cause) : State :=
  let t := if s.targetsChanged old then s.trigger else s
  let t := allProducts.foldl
    (fun t p => if s.lossChanged old p then t.signalLost p (decide ((s.act p).state = .lost)) else t) t
  allProducts.foldl (fun t p => if s.changeNoted old p then t.post (s.activationNotice p cause) else t) t

/-! ## Acknowledgements (R110) -/

/-- R110: an acknowledgement concerning product `p`, with the record's target and obligation as they stand. -/
def State.ackFor (s : State) (p : Product) (id : Nat) (outcome : AckOutcome) (time : Option Nat) : State :=
  s.placeAck (some p)
    { code := (s.bank p).code, id := id, outcome := outcome, target := some (s.act p).target,
      obligation := some (s.act p).obligation, time := time }

/-- R110: an acknowledgement of a frame that names no enabled product (its absent fields: DEDUCED, log entry 18). -/
def State.ackUnknown (s : State) (code id : Nat) (time : Option Nat) : State :=
  s.placeAck none
    { code := code, id := id, outcome := .refusedUnknownProduct, target := none, obligation := none, time := time }

/-! ## Orders (R111 to R113) -/

/-- R105: the state of a signalled record whose target is 0. -/
def ActRecord.restState (r : ActRecord) : ActState := if r.order.isSome then .pending else .idle

/-- R112: an order with `id` and `quantity` applied to a record. -/
def ActRecord.applyOrder (r : ActRecord) (id quantity : Nat) : ActRecord :=
  if min quantity r.obligation = 0 then { r with target := 0, currentId := none, state := r.restState }
  else { r with target := min quantity r.obligation, currentId := some id, state := .active }

/-- R112, R113: ACCEPTED when the quantity is at or below the obligation, CLAMPED otherwise. -/
def orderOutcome (quantity obligation : Nat) : AckOutcome := if quantity ≤ obligation then .accepted else .clamped

/-- R113: the effective time registered with the Time Base for product `p` becomes `t`. -/
def State.registerTime (s : State) (p : Product) (t : Option Nat) : State :=
  { s with time := { s.time with effective := s.time.effective.set p t } }

/-- R113: the record once an order waits in it. -/
def ActRecord.withOrder (r : ActRecord) (o : PendingOrder) : ActRecord :=
  { r with order := some o, state := if r.state = .active then .active else .pending }

/-- R111: the order is applied at once. -/
def State.orderDue (s : State) (time : Nat) : Bool :=
  decide (time = 0) ||
  (match s.deviceTime with
   | none => false
   | some d => decide (time ≤ d))

/-- R111: an order is judged, applied or made pending, and acknowledged. -/
def State.takeOrder (s : State) (code id quantity time : Nat) : State :=
  match s.productWithCode code with
  | none => s.ackUnknown code id (some time)
  | some p =>
    if (s.bank p).mode = .frequency then s.ackFor p id .refusedMode (some time)
    else if (s.act p).obligation = 0 then s.ackFor p id .refusedNoObligation (some time)
    else
      let outcome := orderOutcome quantity (s.act p).obligation
      let t := if s.orderDue time then s.setAct p ((s.act p).applyOrder id quantity)
        else (s.setAct p ((s.act p).withOrder { id := id, quantity := quantity, time := time })).registerTime p
          (some time)
      (t.ackFor p id outcome (some time)).handOn s .order

/-- R113: the arrival of effective time `time` for product `p`. -/
def State.arrival (s : State) (p : Product) (time : Nat) : State :=
  match (s.act p).order with
  | none => s
  | some o =>
    if o.time ≠ time then s
    else
      let r := { s.act p with order := none }
      if r.obligation = 0 then
        let r := if r.state = .pending then { r with state := .idle } else r
        (((s.setAct p r).registerTime p none).ackFor p o.id .refusedNoObligation (some o.time)).handOn s .effectiveTime
      else
        (((s.setAct p (r.applyOrder o.id o.quantity)).registerTime p none).ackFor p o.id
          (orderOutcome o.quantity r.obligation) (some o.time)).handOn s .effectiveTime

/-! ## Ends (R114) -/

/-- R114: the end's id is the current or the pending one. -/
def ActRecord.names (r : ActRecord) (id : Nat) : Bool :=
  decide (r.currentId = some id) ||
  (match r.order with
   | none => false
   | some o => decide (o.id = id))

/-- R114: the record once its activation has ended. -/
def ActRecord.ended (r : ActRecord) : ActRecord :=
  { r with target := 0, order := none, currentId := none, state := .idle }

/-- R114: an end is judged and matched. -/
def State.takeEnd (s : State) (code id : Nat) : State :=
  match s.productWithCode code with
  | none => s.ackUnknown code id none
  | some p =>
    if (s.bank p).mode = .frequency then s.ackFor p id .refusedMode none
    else if (s.act p).names id then
      (((s.setAct p (s.act p).ended).registerTime p none).ackFor p id .ended none).handOn s .finish
    else s.ackFor p id .refusedUnknownActivation none

/-! ## The Meter Line's silence (R118) -/

/-- R118: local time minus the last valid sample time; absent (without bound) when there is none. -/
def State.silence (s : State) : Option Nat := s.activation.sample.map (fun x => s.localTime - x.time)

/-- The silence has reached `bound`. -/
def silenceReaches (silence : Option Nat) (bound : Nat) : Bool :=
  match silence with
  | none => true
  | some t => decide (bound ≤ t)

/-- R108, R119: the state a silence gives a FREQUENCY record with obligation above 0. -/
def State.silenceState (s : State) : ActState :=
  if silenceReaches s.silence (s.params.sampleTimeout + s.params.holdTime) then .lost
  else if silenceReaches s.silence s.params.sampleTimeout then .holding
  else .active

/-- A FREQUENCY record with obligation above 0. -/
def State.follows (s : State) (p : Product) : Bool :=
  s.followsFrequency p && decide (0 < (s.act p).obligation)

/-- Every record changed by `f`. -/
def State.mapActs (s : State) (f : Product → ActRecord) : State :=
  { s with activation := { s.activation with records := PerProduct.ofFn f } }

/-- R118: ACTIVE records become HOLDING. -/
def State.holdRecords (s : State) : State :=
  s.mapActs (fun p =>
    if s.follows p && decide ((s.act p).state = .active) then { s.act p with state := .holding } else s.act p)

/-- R118: HOLDING records become LOST with target 0. -/
def State.loseRecords (s : State) : State :=
  s.mapActs (fun p =>
    if s.follows p && decide ((s.act p).state = .holding) then { s.act p with state := .lost, target := 0 }
    else s.act p)

/-- R119: every record that follows takes the state its silence gives; LOST has target 0. -/
def State.regradeRecords (s : State) : State :=
  s.mapActs (fun p =>
    if s.follows p then
      { s.act p with
        state := s.silenceState
        target := if s.silenceState = .lost then 0 else (s.act p).target }
    else s.act p)

/-- R119: a new sample timeout or hold time re-grades the records (the cause: DESIGN CHOICE, log entry 19). -/
def State.regradeSilence (s : State) : State :=
  s.regradeRecords.handOn s (if s.silenceState = .lost then .sampleLoss else .sampleTimeout)

/-- SAMPLE_TIMEOUT (R118). -/
def execSampleTimeout (s : State) : Host.Outcome State Fault Refusal :=
  .next (if silenceReaches s.silence s.params.sampleTimeout then s.holdRecords.handOn s .sampleTimeout else s)

/-- SAMPLE_LOSS (R118). -/
def execSampleLoss (s : State) : Host.Outcome State Fault Refusal :=
  .next (if silenceReaches s.silence (s.params.sampleTimeout + s.params.holdTime)
    then s.loseRecords.handOn s .sampleLoss else s)

/-! ## Frequency samples (R116, R117) -/

/-- R117: the deviation of a frequency for a product's direction. -/
def deviation (nominal frequency : Nat) (d : Direction) : Int :=
  match d with
  | .up => (nominal : Int) - (frequency : Int)
  | .down => (frequency : Int) - (nominal : Int)

/-- R117: the raw target. -/
def rawTarget (b : Bank) (obligation : Nat) (x : Int) : Nat :=
  if x ≤ (b.deadband : Int) then 0
  else if (b.fullDeviation : Int) ≤ x then obligation
  else obligation * (x.toNat - b.deadband) / (b.fullDeviation - b.deadband)

/-- R117: the raw target replaces the target. -/
def replacesTarget (raw target obligation threshold : Nat) : Bool :=
  decide (threshold ≤ ((raw : Int) - (target : Int)).natAbs) || decide (raw = 0) || decide (raw = obligation)

/-- R117: a record that takes a valid sample. -/
def ActRecord.sampled (r : ActRecord) (b : Bank) (nominal frequency : Nat) : ActRecord :=
  let raw := rawTarget b r.obligation (deviation nominal frequency b.direction)
  { r with
    state := .active
    target := if replacesTarget raw r.target r.obligation b.stepThreshold then raw else r.target }

/-- R116: a sample is valid. -/
def State.sampleValid (s : State) (number frequency : Nat) : Bool :=
  decide (s.params.nominal ≤ frequency + 5000) && decide (frequency ≤ s.params.nominal + 5000) &&
  (match s.activation.sample with
   | none => true
   | some x => decide (x.number < number))

/-- R116: a valid sample sets the sample fields, and every record that follows takes it. -/
def State.takeSample (s : State) (number frequency : Nat) : State :=
  let t := { s with activation := { s.activation with sample := some { number := number, time := s.localTime } } }
  (t.mapActs (fun p => if t.follows p then (t.act p).sampled (t.bank p) t.params.nominal frequency else t.act p)).handOn
    s .sample

/-- R116: an invalid sample raises the rejected-sample count. -/
def State.rejectSample (s : State) : State :=
  { s with activation := { s.activation with rejected := raise16 s.activation.rejected } }

/-- FREQ_SAMPLE (R116): the Activation Unit takes the frame at the head of the Meter buffer. -/
def execFreqSample (s : State) : Host.Outcome State Fault Refusal :=
  match s.links.meter.buffer with
  | [] => .next s
  | f :: _ =>
    let t := s.dropHead .meter
    if f.payload.length ≠ 8 then .next (t.reportClass .meter .payload f.flagged)
    else if t.sampleValid (fieldAt f.payload 0 4) (fieldAt f.payload 4 4) then
      .next (t.takeSample (fieldAt f.payload 0 4) (fieldAt f.payload 4 4))
    else .next t.rejectSample

/-- ACTIVATION_ORDER (R111): the frame at the head of the Grid buffer, when it is an order. -/
def execActivationOrder (s : State) : Host.Outcome State Fault Refusal :=
  match s.gridHead .activationOrder with
  | none => .next s
  | some f =>
    let t := s.dropHead .grid
    if f.payload.length ≠ 16 then .next (t.reportClass .grid .payload f.flagged)
    else .next (t.takeOrder (fieldAt f.payload 0 2) (fieldAt f.payload 2 4) (fieldAt f.payload 6 4)
      (fieldAt f.payload 10 6))

/-- ACTIVATION_END (R114): the frame at the head of the Grid buffer, when it is an end. -/
def execActivationEnd (s : State) : Host.Outcome State Fault Refusal :=
  match s.gridHead .activationEnd with
  | none => .next s
  | some f =>
    let t := s.dropHead .grid
    if f.payload.length ≠ 6 then .next (t.reportClass .grid .payload f.flagged)
    else .next (t.takeEnd (fieldAt f.payload 0 2) (fieldAt f.payload 2 4))

/-! ## Boundaries (R106 to R108) -/

/-- R106 to R108: product `p`'s record after a boundary that gives it obligation `o`. -/
def State.boundaryRecord (s : State) (p : Product) (o : Nat) : ActRecord :=
  let r := s.act p
  let clamped := { r with obligation := o, target := min r.target o }
  if s.followsFrequency p then
    if o = 0 then { clamped with state := .idle }
    else if r.obligation = 0 then { clamped with state := s.silenceState, target := 0 }
    else clamped
  else if r.state = .active ∧ o = 0 then { clamped with currentId := none, state := r.restState }
  else clamped

/-- R107: the boundary ends product `p`'s signalled activation. -/
def State.endsAtWindow (s : State) (p : Product) (o : Nat) : Option Nat :=
  if !(s.followsFrequency p) && decide ((s.act p).state = .active) && decide (o = 0) then (s.act p).currentId else none

/-- R106: the Activation Unit takes the boundary into window `w`. -/
def State.activationBoundary (s : State) (w : Nat) : State :=
  let t := s.mapActs (fun p => s.boundaryRecord p (s.commitment p w))
  let t := allProducts.foldl (fun t p =>
    match s.endsAtWindow p (s.commitment p w) with
    | none => t
    | some id => t.ackFor p id .endedAtWindow none) t
  t.handOn s .boundary

/-! ## Bank switches (R120) -/

/-- R120: product `p`'s record is reset by a switch, already made, that changed its mode or disabled it. A pending order
of a product now both disabled and in FREQUENCY mode is refused as of a disabled one (DESIGN CHOICE, log entry 45). -/
def State.resetForSwitch (s : State) (p : Product) : State :=
  let r := s.act p
  let t := (s.setAct p ActRecord.reset).registerTime p none
  let t := match r.currentId with
    | none => t
    | some id => t.ackFor p id .endedAtWindow none
  let t := match r.order with
    | none => t
    | some o =>
      t.ackFor p o.id (if (s.bank p).enabled then .refusedMode else .refusedUnknownProduct) (some o.time)
  t.handOn s .bankSwitch

/-! ## Warm restart (R123) -/

/-- R123: product `p`'s record after a warm restart: the obligation is the commitment of the current window. -/
def State.restartRecord (s : State) (p : Product) : ActRecord :=
  let o := s.windowObligation p
  { state := if s.followsFrequency p && decide (0 < o) then s.silenceState else .idle,
    obligation := o, target := 0, currentId := none, order := none }

/-- R123: the records after a warm restart, every registered effective time withdrawn. -/
def State.restartActivation (s : State) : State :=
  { s.mapActs s.restartRecord with time := { s.time with effective := PerProduct.all none } }

end Sys2Proof.Machine
end

