-- ==== Sys2Proof/Machine/Book.lean ====
section
/-! DEFINITION. The Offer Book, Commitment Table and reservation (chapter 5). -/

namespace Sys2Proof.Machine

/-! ## Creation (R81 to R83) -/

/-- R81: the id after `id`, 65,535 followed by 1. -/
def nextId (id : Nat) : Nat := if id < 65535 then id + 1 else 1

/-- R81: the first free id at or after `id` (`fuel` tries). -/
def State.freeId (s : State) (fuel id : Nat) : Nat :=
  match fuel with
  | 0 => id
  | f + 1 => if (s.findOffer id).isSome then s.freeId f (nextId id) else id

/-- R83, check 5: the mode and quantity are in range under a bank. -/
def quantityOk (b : Bank) (mode : OfferMode) (quantity : Nat) : Bool :=
  match mode with
  | .fixed =>
    decide (0 < quantity) && decide (quantity % b.increment = 0) && decide (b.minBid ≤ quantity) &&
    decide (quantity ≤ b.maxBid)
  | .follow => decide (quantity ≤ 100000000)

/-- R83, check 7: the live offers of (p, w). -/
def State.liveOffers (s : State) (p : Product) (w : Nat) : Nat :=
  (s.book.offers.filter (fun o =>
    decide (o.product = p) && decide (o.window = w) && !o.state.terminal)).length

/-- R83: the first check a creation fails after check 1, with its refusal. -/
def State.createRefusal (s : State) (p : Product) (w : Nat) (mode : OfferMode) (quantity : Nat) : Option Reason :=
  match s.currentWindow with
  | none => some .noTime
  | some c =>
    if !(s.bank p).enabled then some .wrongState
    else if ¬(c + 1 ≤ w ∧ w ≤ c + Config.ringAfter) then some .badField
    else if !(quantityOk (s.bank p) mode quantity) then some .badField
    else if s.gateClosed p w then some .gateClosed
    else if Config.ladderSize ≤ s.liveOffers p w then some .ladderFull
    else if Config.bookSize ≤ s.book.offers.length then some .bookFull
    else none

/-- The id R81 gives the next record. -/
def State.newId (s : State) : Nat := s.freeId (Config.bookSize + 1) (nextId s.book.lastId)

/-- The DRAFT record a creation makes. -/
def State.draft (s : State) (p : Product) (w : Nat) (mode : OfferMode) (quantity : Nat) (price : Int) : Offer :=
  { id := s.newId, order := (s.book.created + 1) % 4294967296, product := p, window := w, mode := mode,
    quantity := quantity, price := price, state := .draft, accepted := none, reason := none, withdrawLate := none }

/-- R81 to R83: the record joins the book in book order. -/
def State.addOffer (s : State) (o : Offer) : State :=
  { s with book := { s.book with
      offers := insertOrdered Offer.before o s.book.offers
      lastId := o.id
      created := o.order } }

/-- R82: the book position of the record with id `id`. -/
def State.positionOf (s : State) (id : Nat) : Nat := s.book.offers.findIdx (fun o => decide (o.id = id))

/-! ## Updating, submitting, withdrawing (R84 to R87, R93) -/

/-- R84: mode, quantity and price replaced. -/
def Offer.updated (o : Offer) (mode : OfferMode) (quantity : Nat) (price : Int) : Offer :=
  { o with mode := mode, quantity := quantity, price := price }

/-- R87: the quantity a FOLLOW offer of ceiling `ceiling` is sized to. -/
def followQuantity (b : Bank) (ceiling offerable outstanding : Nat) : Nat :=
  let c := if ceiling = 0 then b.maxBid else min ceiling b.maxBid
  min c (offerable - outstanding) / b.increment * b.increment

/-- R86, R87: the quantity the guard passes, or none when it fails. -/
def guardQuantity (b : Bank) (o : Offer) (offerable outstanding : Nat) : Option Nat :=
  match o.mode with
  | .fixed => if outstanding + o.quantity ≤ offerable then some o.quantity else none
  | .follow =>
    let q := followQuantity b o.quantity offerable outstanding
    if q = 0 ∨ q < b.minBid then none else some q

/-- R85, checks 3 to 8: the refusal of a submission, or the quantity offered. -/
def State.judgeSubmission (s : State) (o : Offer) : Except Reason Nat :=
  if s.time.clock = .notSet then .error .noTime
  else if !(s.bank o.product).enabled then .error .wrongState
  else
    match s.census.published with
    | none => .error .noCensus
    | some x =>
      if s.gateClosed o.product o.window then .error .gateClosed
      else if o.mode = .fixed ∧ quantityOk (s.bank o.product) .fixed o.quantity = false then .error .badField
      else
        match guardQuantity (s.bank o.product) o (x.snapshot.products.get o.product).offerable
            (s.outstanding o.product o.window) with
        | none => .error .overCapacity
        | some q => .ok q

/-- R85: a submission that has passed makes the offer QUEUED at quantity `q`. -/
def State.queueOffer (s : State) (id q : Nat) : State :=
  ((s.mapOffer id (fun o => { o with state := .queued, quantity := q })).clearReservation id).placeOfferEntry (.offer id)

/-- R93: WITHDRAW_OFFER for the record `o`. -/
def State.withdrawOffer (s : State) (o : Offer) : Except Reason State :=
  match o.state with
  | .draft => .ok ((s.deleteOffer o.id).clearReservation o.id)
  | .queued => .ok (((s.deleteOffer o.id).clearReservation o.id).removeOfferEntry (.offer o.id))
  | .submitted =>
    .ok (((s.mapOffer o.id (fun x => { x with state := .withdrawing })).clearReservation o.id).placeOfferEntry
      (.withdraw o.id))
  | .withdrawing | .accepted | .partialAccepted | .inDelivery | .rejected | .withdrawn | .expired | .lapsed
  | .closed => .error .wrongState

/-- R98: the terminal records of a window range, or all of them, are deleted. -/
def retired (range : Option (Nat × Nat)) (o : Offer) : Bool :=
  o.state.terminal &&
  (match range with
   | none => true
   | some (a, b) => decide (a ≤ o.window) && decide (o.window ≤ b))

def State.retire (s : State) (range : Option (Nat × Nat)) : State :=
  { s with book := { s.book with
      offers := s.book.offers.filter (fun o => !(retired range o))
      reservation := match s.book.reservation with
        | none => none
        | some id =>
          if s.book.offers.any (fun o => decide (o.id = id) && retired range o) then none else some id } }

/-! ## Results (R90 to R92) -/

/-- R90: the outcome a result is taken as, for an offer of quantity `q`: PARTIAL of 0 is REJECTED
(DEDUCED, log entry 17). -/
def takenAs (out : ResultOutcome) (reported : Nat) : ResultOutcome :=
  match out with
  | .partialAccepted => if reported = 0 then .rejected else .partialAccepted
  | .accepted => .accepted
  | .rejected => .rejected
  | .withdrawn => .withdrawn

/-- R90: the record after a result taken as `out`. -/
def Offer.resulted (o : Offer) (out : ResultOutcome) (reported reason : Nat) : Offer :=
  let late := some (decide (o.state = .withdrawing))
  match out with
  | .accepted => { o with state := .accepted, accepted := some o.quantity, withdrawLate := late }
  | .partialAccepted =>
    { o with state := .partialAccepted, accepted := some (min reported o.quantity), withdrawLate := late }
  | .rejected => { o with state := .rejected, reason := some reason }
  | .withdrawn => { o with state := .withdrawn }

/-- R90, R91: a result changes the offer `o`, a record SUBMITTED or WITHDRAWING. -/
def State.applyResult (s : State) (o : Offer) (out : ResultOutcome) (reported reason : Nat) : State :=
  let y := o.resulted (takenAs out reported) reported reason
  let t := ((s.mapOffer o.id (fun _ => y)).clearReservation o.id).removeOfferEntry (.withdraw o.id)
  let t := match y.accepted with
    | none => t
    | some q => t.commit o.product o.window q
  t.post (.offerResult o.id o.product o.window (takenAs out reported) y.accepted y.reason y.withdrawLate)

/-- R90, R92: a result whose payload is in format. -/
def State.takeResult (s : State) (id : Nat) (out : ResultOutcome) (reported reason : Nat) : State :=
  match s.findOffer id with
  | none => s
  | some o =>
    match o.state with
    | .submitted | .withdrawing => s.applyResult o out reported reason
    | .expired => s.post (.lateResult o.id o.product o.window out reported)
    | .draft | .queued | .accepted | .partialAccepted | .inDelivery | .rejected | .withdrawn | .lapsed
    | .closed => s

/-- OFFER_RESULT (R90): the frame at the head of the Grid buffer, when it is a result. -/
def execOfferResult (s : State) : Host.Outcome State Fault Refusal :=
  match s.gridHead .offerResult with
  | none => .next s
  | some f =>
    let t := s.dropHead .grid
    if f.payload.length ≠ 9 then .next (t.reportClass .grid .payload f.flagged)
    else
      match ResultOutcome.ofCode (fieldAt f.payload 2 1) with
      | none => .next (t.reportClass .grid .payload f.flagged)
      | some out =>
        .next (t.takeResult (fieldAt f.payload 0 2) out (fieldAt f.payload 3 4) (fieldAt f.payload 7 2))

/-! ## Gates and boundaries (R95, R96) -/

/-- R95: one offer lapses. -/
def State.lapseOffer (s : State) (o : Offer) : State :=
  ((s.mapOffer o.id (fun x => { x with state := .lapsed })).clearReservation o.id).removeOfferEntry (.offer o.id)

/-- R95: the DRAFT and QUEUED offers of (p, w). -/
def State.lapsing (s : State) (p : Product) (w : Nat) : List Offer :=
  s.book.offers.filter (fun o =>
    decide (o.product = p) && decide (o.window = w) && (decide (o.state = .draft) || decide (o.state = .queued)))

/-- R95: a gate closure for (p, w) reaches the Offer Book: the offers lapse, then one notice is posted for each
(DEDUCED, log entry 26). -/
def State.lapseGate (s : State) (p : Product) (w : Nat) : State :=
  (s.lapsing p w).foldl (fun t o => t.post (.offerLapsed o.id o.product o.window o.state))
    ((s.lapsing p w).foldl State.lapseOffer s)

/-- R96: one offer of the new current window at its boundary. -/
def State.boundaryOffer (s : State) (o : Offer) : State :=
  match o.state with
  | .accepted | .partialAccepted =>
    (s.mapOffer o.id (fun x => { x with state := .inDelivery })).clearReservation o.id
  | .submitted | .withdrawing =>
    ((s.mapOffer o.id (fun x => { x with state := .expired })).clearReservation o.id).removeOfferEntry (.withdraw o.id)
  | .draft | .queued | .inDelivery | .rejected | .withdrawn | .expired | .lapsed | .closed => s

/-- R96: the offers that expire at the boundary into `w`. -/
def State.expiring (s : State) (w : Nat) : List Offer :=
  s.book.offers.filter (fun o =>
    decide (o.window = w) && (decide (o.state = .submitted) || decide (o.state = .withdrawing)))

/-- R96: one offer of the window just ended. -/
def State.closeOffer (s : State) (o : Offer) : State :=
  if o.state = .inDelivery then
    (s.mapOffer o.id (fun x => { x with state := .closed })).clearReservation o.id
  else s

/-- R96, R97: the Offer Book takes the boundary into window `w`: the offers of both windows change, the ring is
recycled, and one notice is posted for each expired offer (DEDUCED, log entry 26). -/
def State.bookBoundary (s : State) (w : Nat) : State :=
  let t := (s.book.offers.filter (fun o => decide (o.window = w))).foldl State.boundaryOffer s
  let t := (s.book.offers.filter (fun o => decide (o.window + 1 = w))).foldl State.closeOffer t
  (s.expiring w).foldl (fun t o => t.post (.offerExpired o.id o.product o.window o.state)) (t.recycleRing w)

/-! ## Warm restart (R103) -/

/-- R103: DRAFT and QUEUED offers are deleted with their entries, and the reservation becomes absent. -/
def State.restartBook (s : State) : State :=
  let gone (o : Offer) : Bool := decide (o.state = .draft) || decide (o.state = .queued)
  { s with
    book := { s.book with offers := s.book.offers.filter (fun o => !(gone o)), reservation := none }
    arbiter := { s.arbiter with offers := s.arbiter.offers.filter (fun e =>
      match e with
      | .offer id => !(s.book.offers.any (fun o => decide (o.id = id) && gone o))
      | .withdraw _ => true) } }

end Sys2Proof.Machine
end

