-- ==== Sys2Proof/Machine/ProductTable.lean ====
section
/-! DEFINITION. The Product Table (chapter 3): pending banks, staging, the two bars of R53, bank switches with the gate
closures a longer lead raises (R48), and the boundary event of R47. -/

namespace Sys2Proof.Machine

/-! ## Product records (R51) -/

/-- R51: every field in its range and every relation kept. -/
def Bank.inRange (b : Bank) : Bool :=
  decide (1 ≤ b.code) && decide (b.code ≤ 65535) && decide (b.priority ≤ 7) && decide (30 ≤ b.endurance) &&
  decide (b.endurance ≤ 3600) && decide (b.minBid ≤ 10000000) && decide (b.minBid ≤ b.maxBid) &&
  decide (1 ≤ b.increment) && decide (b.increment ≤ 1000000) && decide (b.maxBid ≤ 100000000) &&
  decide (b.maxBid % b.increment = 0) && decide (b.margin ≤ 500) && decide (b.gateLead ≤ 240) &&
  decide (b.deadband ≤ 1000) && decide (b.deadband < b.fullDeviation) && decide (b.fullDeviation ≤ 2000) &&
  decide (b.stepThreshold ≤ 10000) && decide (b.tolerance ≤ 500) && decide (1 ≤ b.deficientThreshold) &&
  decide (b.deficientThreshold ≤ 255)

def State.setProduct (s : State) (p : Product) (c : ProductContext) : State :=
  { s with products := s.products.set p c }

/-- R51: an applied write replaces the pending bank and removes the staged mark. -/
def State.writePending (s : State) (p : Product) (b : Bank) : State :=
  s.setProduct p { s.products.get p with pendingBank := b, staged := false }

/-! ## The two bars (R53) -/

/-- R53: the switch would disable the product or change its direction or its activation mode. -/
def switchChangesPromise (old new : Bank) : Bool :=
  (old.enabled && !new.enabled) || decide (new.direction ≠ old.direction) || decide (new.mode ≠ old.mode)

/-- An offer in flight: QUEUED, SUBMITTED or WITHDRAWING. -/
def Offer.inFlight (o : Offer) : Bool :=
  decide (o.state = .queued) || decide (o.state = .submitted) || decide (o.state = .withdrawing)

/-- R53, R56: the switch is barred by commitment, counting commitments of windows from `fromWindow` on and offers
of windows from `offersFrom` on. -/
def State.barredByCommitment (s : State) (p : Product) (fromWindow offersFrom : Nat) : Bool :=
  switchChangesPromise (s.products.get p).active (s.products.get p).pendingBank &&
  ((s.book.commitments.get p).any (fun e => decide (fromWindow ≤ e.1) && decide (0 < s.commitment p e.1)) ||
   s.book.offers.any (fun o => decide (o.product = p) && decide (offersFrom ≤ o.window) && o.inFlight))

/-- R53: the switch is barred by code. -/
def State.barredByCode (s : State) (p : Product) : Bool :=
  let b := (s.products.get p).pendingBank
  b.enabled &&
  allProducts.any (fun q =>
    decide (q ≠ p) &&
    (((s.bank q).enabled && decide ((s.bank q).code = b.code)) ||
     ((s.products.get q).staged && (s.products.get q).pendingBank.enabled &&
      decide ((s.products.get q).pendingBank.code = b.code))))

/-! ## Gate closures (R48) -/

/-- R48: the gate of (p, w) closes: the gate mark becomes `w`, and the Offer Book is told. -/
def State.closeGate (s : State) (p : Product) (w : Nat) : State :=
  { s with time := { s.time with gateMarks := s.time.gateMarks.set p (some w) } }.lapseGate p w

/-- R48: gate closures for each window from `g + 1` on, `n` of them, in ascending order. -/
def State.closeGates (s : State) (p : Product) (g n : Nat) : State :=
  match n with
  | 0 => s
  | k + 1 => (s.closeGate p (g + 1)).closeGates p (g + 1) k

/-- R48: a switch has made a new gate lead active for `p`. -/
def State.adjustGate (s : State) (p : Product) : State :=
  match s.deviceTime, s.time.gateMarks.get p with
  | some d, some g => s.closeGates p g (s.gateMarkAt p d - g)
  | _, _ => s

/-! ## Switches (R56, R57) -/

/-- The pending bank copied into the active bank, the staged mark removed. -/
def State.copyBank (s : State) (p : Product) : State :=
  s.setProduct p
    { s.products.get p with active := (s.products.get p).pendingBank, staged := false }

/-- R48, R120: what follows a switch of `p` from bank `old`: the gate mark is adjusted when the gate lead changed,
and the activation record reset when the mode changed or the product was disabled. -/
def State.afterSwitch (s : State) (p : Product) (old : Bank) : State :=
  let t := if (s.bank p).gateLead = old.gateLead then s else s.adjustGate p
  if decide ((s.bank p).mode ≠ old.mode) || (old.enabled && !(s.bank p).enabled) then t.resetForSwitch p else t

/-- R56: one staged product judged at the boundary into `w`. -/
def State.judgeStaged (w : Nat) (s : State) (p : Product) : State :=
  if (s.products.get p).staged then
    if s.barredByCommitment p w (w + 1) then
      (s.setProduct p { s.products.get p with staged := false }).post (.stageApplied false p w)
    else ((s.copyBank p).post (.stageApplied true p w)).afterSwitch p (s.bank p)
  else s

/-- R56: the staged products that the boundary into `w` switches. -/
def State.switchedAt (s : State) (w : Nat) : Bool :=
  allProducts.any (fun p => (s.products.get p).staged && !(s.barredByCommitment p w (w + 1)))

/-- R56: the Product Table takes the boundary into `w`; one census request follows if a bank was switched. -/
def State.productBoundary (s : State) (w : Nat) : State :=
  let t := allProducts.foldl (State.judgeStaged w) s
  if s.switchedAt w then t.requestAfterSwitch else t

/-- R57: APPLY_NOW for product `p`. -/
def State.applyNow (s : State) (p : Product) : Except Reason State :=
  if (s.bank p).enabled then .error .wrongState
  else if s.barredByCode p then .error .duplicateCode
  else if s.barredByCommitment p 0 0 then .error .committed
  else .ok ((s.copyBank p).afterSwitch p (s.bank p)).requestAfterSwitch

/-- R54: STAGE_PRODUCT for product `p`. -/
def State.stage (s : State) (p : Product) : Except Reason State :=
  if s.barredByCode p then .error .duplicateCode
  else if s.barredByCommitment p 0 0 then .error .committed
  else .ok (s.setProduct p { s.products.get p with staged := true })

/-- R55: CANCEL_STAGE for product `p`. -/
def State.cancelStage (s : State) (p : Product) : Except Reason State :=
  if (s.products.get p).staged then .ok (s.setProduct p { s.products.get p with staged := false })
  else .error .wrongState

/-! ## The boundary event (R47) -/

/-- R47: the boundary into window `w` is delivered to the Product Table, the Offer Book with its Commitment Table,
the Activation Unit and the Delivery Monitor (in this order: DESIGN CHOICE, log entry 8). -/
def State.boundary (s : State) (w : Nat) : State :=
  (((({ s with time := { s.time with boundaryMark := some w } }.productBoundary w).bookBoundary w).activationBoundary
    w).monitorBoundary w)

end Sys2Proof.Machine
end

