-- ==== Sys2Proof/Machine/Calendar.lean ====
section
/-! DEFINITION. The Time Base (chapter 3): clock marks, the hold, and the calendar events in the order of R47. -/

namespace Sys2Proof.Machine

/-! ## Calendar events and their order (R47, R48) -/

/-- R47: the events device time raises. -/
inductive CalendarEvent where
  | gate (product : Product) (window : Nat)
  | boundary (window : Nat)
  | arrival (product : Product) (time : Nat)
  deriving DecidableEq, Repr

/-- The next gate closure of product `p`, with its device time. -/
def State.nextGate (s : State) (p : Product) : Option (Nat × CalendarEvent) :=
  (s.time.gateMarks.get p).map (fun g => ((g + 1) * s.windowMs - (s.bank p).leadMs, .gate p (g + 1)))

/-- The next window boundary, with its device time. -/
def State.nextBoundary (s : State) : Option (Nat × CalendarEvent) :=
  s.time.boundaryMark.map (fun m => ((m + 1) * s.windowMs, .boundary (m + 1)))

/-- The registered effective time of product `p`. -/
def State.nextArrival (s : State) (p : Product) : Option (Nat × CalendarEvent) :=
  (s.time.effective.get p).map (fun t => (t, .arrival p t))

/-- R47: what may be raised next, in the order for equal device times: gate closures by product, the boundary,
then arrivals by product (the order of arrivals: DESIGN CHOICE, log entry 7). -/
def State.candidates (s : State) : List (Nat × CalendarEvent) :=
  allProducts.filterMap s.nextGate ++ s.nextBoundary.toList ++ allProducts.filterMap s.nextArrival

/-- The first of the earliest entries. -/
def earliest (l : List (Nat × CalendarEvent)) : Option (Nat × CalendarEvent) :=
  match l with
  | [] => none
  | x :: rest =>
    match earliest rest with
    | none => some x
    | some y => if y.1 < x.1 then some y else some x

/-- R47: the next event to deliver, of those whose device time is at or below `limit`. -/
def State.nextEvent (s : State) (limit : Nat) : Option (Nat × CalendarEvent) :=
  earliest (s.candidates.filter (fun e => decide (e.1 ≤ limit)))

/-- R47: an event is delivered. A raised effective time is no longer registered. -/
def State.deliver (s : State) (e : CalendarEvent) : State :=
  match e with
  | .gate p w => s.closeGate p w
  | .boundary w => s.boundary w
  | .arrival p t => (s.registerTime p none).arrival p t

/-- Device time becomes `d`, RUNNING. -/
def State.runAt (s : State) (d : Nat) : State := { s with time := { s.time with clock := .running d } }

/-- R43, R47: the events up to device time `limit` are delivered one after another, each at the device time it
carries (`from0` is the device time reached so far; DEDUCED, log entry 6). -/
def State.runCalendar (fuel : Nat) (s : State) (from0 limit : Nat) : State :=
  match fuel with
  | 0 => s
  | f + 1 =>
    match s.nextEvent limit with
    | none => s
    | some (t, e) => State.runCalendar f ((s.runAt (max t from0)).deliver e) (max t from0) limit

/-- At least the number of events a step to `limit` can raise: each of nine kinds once a window, the gates with
the longest lead ahead, and eight arrivals (DEDUCED, log entry 35). -/
def State.eventBound (s : State) (limit : Nat) : Nat := 9 * ((limit + 14400000) / s.windowMs + 2) + 8

/-! ## Clock marks (R42 to R45) -/

/-- R42: the first mark sets device time, the gate marks, the ring and the Monitor's window records. -/
def State.firstMark (s : State) (m : Nat) : State :=
  (({ s with time := { s.time with
      clock := .running m
      gateMarks := PerProduct.ofFn (fun p => some (s.gateMarkAt p m))
      boundaryMark := some (s.windowOf m) } }.freshRing (s.windowOf m)).monitorFirstMark (s.windowOf m))

/-- R43: a mark above device time `d` steps forward to it. -/
def State.stepForward (s : State) (d m : Nat) : State :=
  ((s.runAt d).runCalendar (s.eventBound m) d m).runAt m

/-- R43 to R45: a mark `m` taken while device time is `d`. -/
def State.laterMark (s : State) (d m : Nat) : State :=
  if d < m then s.stepForward d m
  else if m = d then s.runAt d
  else if d - m ≤ s.windowMs then { s with time := { s.time with clock := .holding d (d - m) } }
  else s.post (.clockRejected m d (match s.time.clock with
    | .holding _ _ => true
    | .running _ => false
    | .notSet => false))

/-- R42 to R45: a clock mark is taken. -/
def State.takeMark (s : State) (m : Nat) : State :=
  match s.deviceTime with
  | none => s.firstMark m
  | some d => s.laterMark d m

/-- CLOCK_MARK: the frame at the head of the Grid buffer, when it is a mark. -/
def execClockMark (s : State) : Host.Outcome State Fault Refusal :=
  match s.gridHead .clockMark with
  | none => .next s
  | some f =>
    let t := s.dropHead .grid
    if f.payload.length ≠ 6 then .next (t.reportClass .grid .payload f.flagged)
    else .next (t.takeMark (fieldAt f.payload 0 6))

/-! ## The passing of time (R40, R41, R46) -/

/-- R41, R46: device time one millisecond of local time later (remainder 0: DEDUCED, log entry 31). -/
def Clock.advance (c : Clock) : Clock :=
  match c with
  | .notSet => .notSet
  | .running d => .running (min (d + 1) Config.time48Max)
  | .holding d r => .holding d (r - 1)

/-- R40: one millisecond of local time passes (after the largest count: a free value, log entry 1). -/
def State.tick (s : State) : State :=
  if s.localTime < Config.time48Max then
    { s with time := { s.time with localTime := s.localTime + 1, clock := s.time.clock.advance } }
  else
    { s with
      time := { s.time with localTime := (Config.localTimeAfterFull s.freeDraws).toNat,
                            clock := s.time.clock.advance }
      freeDraws := s.freeDraws + 1 }

/-- HOLD_END (R46): due when the hold remainder has reached 0. -/
def execHoldEnd (s : State) : Host.Outcome State Fault Refusal :=
  .next (match s.time.clock with
    | .holding d 0 => s.runAt d
    | .holding _ (_ + 1) => s
    | .running _ => s
    | .notSet => s)

/-- R47: the event device time has reached and that is delivered next. While HOLDING device time stands still and so
reaches nothing more (R44): only an event it had reached before the hold can still be waiting (DEDUCED, log entry 7). -/
def State.dueEvent (s : State) : Option CalendarEvent :=
  s.deviceTime.bind (fun d => (s.nextEvent d).map (fun x => x.2))

/-- WINDOW_BOUNDARY (R47). -/
def execWindowBoundary (w : Nat) (s : State) : Host.Outcome State Fault Refusal :=
  .next (if s.dueEvent = some (.boundary w) then s.deliver (.boundary w) else s)

/-- GATE_CLOSURE (R48). -/
def execGateClosure (p : Product) (w : Nat) (s : State) : Host.Outcome State Fault Refusal :=
  .next (if s.dueEvent = some (.gate p w) then s.deliver (.gate p w) else s)

/-- EFFECTIVE_TIME_ARRIVAL (R113). -/
def execEffectiveTimeArrival (p : Product) (t : Nat) (s : State) : Host.Outcome State Fault Refusal :=
  .next (if s.dueEvent = some (.arrival p t) then s.deliver (.arrival p t) else s)

/-! ## A change of window length (R49) -/

/-- R49: the window length in force is a new one: a boundary when the current window index rises, a fresh ring, and the
gate marks set again. The index that must rise is that of the last boundary raised, so a boundary device time has
reached, whose command has not acted, is merged into the one for the new window (DESIGN CHOICE, log entry 47). -/
def State.changeWindowLength (s : State) : State :=
  match s.deviceTime with
  | none => s
  | some d =>
    let w := s.windowOf d
    let t := match s.time.boundaryMark with
      | none => s
      | some m => if m < w then s.boundary w else s
    let t := t.freshRing w
    { t with time := { t.time with
        boundaryMark := some w
        gateMarks := PerProduct.ofFn (fun p => some (t.gateMarkAt p d)) } }

end Sys2Proof.Machine
end

