-- ==== Sys2Proof/Machine/Frames.lean ====
section
/-! DEFINITION. The Frame Engines (chapter 9): the envelope's checks, ingress buffers, sequences, and link state with
what a change of it hands on. -/

namespace Sys2Proof.Machine

/-! ## The envelope's checks (R164, R165) -/

/-- R168: how many frames a port's ingress buffer holds. -/
def bufferSize (port : Port) : Nat :=
  match port with
  | .fleet => Config.fleetBuffer
  | .grid => Config.gridBuffer
  | .meter => Config.meterBuffer

/-- R164, checks 1 to 6: the class of the first check a delivered frame fails, or the frame it carries. -/
def judgeFrame (port : Port) (o : Octets) : Except ErrClass Frame :=
  let len := fieldAt o 3 2
  if o.length < 6 then .error .length
  else if crc8 (o.take 5) ≠ BitVec.ofNat 8 (fieldAt o 5 1) then .error .headerCheck
  else if 1024 < len ∨ o.length ≠ (if len = 0 then 6 else 6 + len + 2) then .error .length
  else if len ≠ 0 ∧ (crc16 (slice o 6 len)).toNat ≠ fieldAt o (6 + len) 2 then .error .footerCheck
  else if !(channelUsed port (fieldAt o 1 1)) then .error .channel
  else
    match acceptedKind port (fieldAt o 1 1) (fieldAt o 0 1) with
    | none => .error .unknownKind
    | some k =>
      .ok { kind := k, channel := fieldAt o 1 1, sequence := fieldAt o 2 1, payload := slice o 6 len, flagged := false }

/-- R166: the sequence after `s`. -/
def nextSequence (s : Nat) : Nat := (s + 1) % 256

/-- The expected inbound sequence of a channel. -/
def Engine.expected (e : Engine) (channel : Nat) : Option Nat := if channel = 2 then e.expected2 else e.expected0

def Engine.setExpected (e : Engine) (channel n : Nat) : Engine :=
  if channel = 2 then { e with expected2 := some n } else { e with expected0 := some n }

/-- R166: the frame's sequence is not the expected one. -/
def Engine.gapAt (e : Engine) (f : Frame) : Bool :=
  match e.expected f.channel with
  | none => false
  | some n => decide (f.sequence ≠ n)

/-- R164, checks 7 and 8: a valid frame joins the buffer, or is discarded with OVERRUN. -/
def Engine.take (e : Engine) (size : Nat) (f : Frame) : Engine :=
  if e.buffer.length < size then
    let t := { e with buffer := e.buffer ++ [{ f with flagged := e.gapAt f }] }
    let t := if e.gapAt f then t.record .sequenceGap false else t
    t.setExpected f.channel (nextSequence f.sequence)
  else e.record .overrun false

/-! ## Link state (R172, R173) -/

/-- R172, R173: a change of a port's state is handed on: to the Allocation Engine or the arbiter, to the Delivery
Monitor, and in a LINK_CHANGE notice. -/
def State.handOnLink (s : State) (port : Port) (up : Bool) (cause : LinkCause) : State :=
  let t := match port with
    | .fleet => if up then s.fleetCameUp else s.fleetWentDown
    | .grid => if up then s.choose else s
    | .meter => s
  let t := match port with
    | .fleet => { t with monitor := { t.monitor with fleetUp := up } }.evaluate false
    | .meter => { t with monitor := { t.monitor with meterUp := up } }.evaluate false
    | .grid => t
  t.post (.linkChange port up cause)

/-- R172: what a port's Frame Engine holds once it has gone DOWN. -/
def Engine.down (e : Engine) : Engine :=
  { e with up := false, expiry := none, lastValid := none, expected0 := none, expected2 := none, wasDown := true }

/-- R172: a frame the port's transmitter holds counts as handed over, and the transmitter is idle. -/
def State.emptyTransmitter (s : State) (port : Port) : State :=
  match port with
  | .fleet => { s with links := { s.links with fleetTx := none } }
  | .grid => { s with links := { s.links with gridTx := none } }
  | .meter => s

/-- R172: a port that is UP goes DOWN. -/
def State.goDown (s : State) (port : Port) (cause : LinkCause) : State :=
  ((s.setEngine port (s.engine port).down).emptyTransmitter port).handOnLink port false cause

/-- R173: the link expiry set by a valid frame. -/
def State.linkExpiry (s : State) : Nat := s.localTime + s.params.linkTimeout * 1000

/-- R173: a valid frame renews the link of a port that is UP, and takes a DOWN port UP while the signal is present. -/
def State.validFrame (s : State) (port : Port) : State :=
  let e := s.engine port
  if e.up then s.setEngine port { e with expiry := some s.linkExpiry, lastValid := some s.localTime }
  else if e.signal then
    (s.setEngine port { e with up := true, expiry := some s.linkExpiry, lastValid := some s.localTime }).handOnLink port
      true .frame
  else s

/-- FRAME_RECEIVED (R164): the lower layer delivers a frame (buffered before the hand-on: DEDUCED, log entry 25). -/
def execFrameReceived (port : Port) (octets : Octets) (s : State) : Host.Outcome State Fault Refusal :=
  match judgeFrame port octets with
  | .error c => .next (s.reportClass port c false)
  | .ok f => .next ((s.setEngine port ((s.engine port).take (bufferSize port) f)).validFrame port)

/-- SIGNAL_LOSS (R172). -/
def execSignalLoss (port : Port) (s : State) : Host.Outcome State Fault Refusal :=
  let t := s.setEngine port { s.engine port with signal := false }
  .next (if (s.engine port).up then t.goDown port .signalLoss else t)

/-- SIGNAL_PRESENCE (R173). -/
def execSignalPresence (port : Port) (s : State) : Host.Outcome State Fault Refusal :=
  .next (s.setEngine port { s.engine port with signal := true })

/-- R172: an UP port whose link expiry local time has reached. -/
def State.linkOver (s : State) (port : Port) : Bool :=
  (s.engine port).up &&
  (match (s.engine port).expiry with
   | none => false
   | some t => decide (t ≤ s.localTime))

/-- LINK_TIMEOUT (R172). -/
def execLinkTimeout (port : Port) (s : State) : Host.Outcome State Fault Refusal :=
  .next (if s.linkOver port then s.goDown port .timeout else s)

/-- R175: a new link timeout moves a port's link expiry, and takes the port DOWN at once when it has passed. -/
def State.retimeLink (s : State) (port : Port) : State :=
  match (s.engine port).lastValid with
  | none => s
  | some t =>
    if (s.engine port).up then
      let u := s.setEngine port { s.engine port with expiry := some (t + s.params.linkTimeout * 1000) }
      if u.linkOver port then u.goDown port .timeout else u
    else s

/-- GRID_TRANSMIT_DONE (R178): the transmitter has finished a frame, and the arbiter makes its next choice. -/
def execGridTransmitDone (s : State) : Host.Outcome State Fault Refusal :=
  .next (match s.links.gridTx with
    | none => s
    | some _ => { s with links := { s.links with gridTx := none } }.choose)

end Sys2Proof.Machine
end

