-- ==== Sys2Proof/Machine/Records.lean ====
section
/-! DEFINITION. The records of section 11.5 and the parameter record of section 11.4: what a table read returns at an
index, what a written record carries, and the bodies of READ_STATUS and READ_LINK_ERRORS. -/

namespace Sys2Proof.Machine

/-! ## Site records (R20, R142) -/

/-- The 30 octets of a written site, its tag given by the caller. -/
def StaticFields.octets (f : StaticFields) (tag : Octets) : Octets :=
  octetsOf 4 f.siteNumber ++ octetsOf 1 f.feeder ++ octetsOf 1 f.participation.toNat ++ tag ++
  octetsOf 2 f.dischargeRating ++ octetsOf 2 f.chargeRating ++ octetsOf 2 f.eFloor ++ octetsOf 2 f.eCeil

/-- The fields a written site record carries. -/
def parseStatic (o : Octets) : StaticFields :=
  { siteNumber := fieldAt o 0 4, feeder := fieldAt o 4 1, participation := BitVec.ofNat 8 (fieldAt o 5 1),
    tag := BitVec.ofNat 128 (fieldAt o 6 16), dischargeRating := fieldAt o 22 2, chargeRating := fieldAt o 24 2,
    eFloor := fieldAt o 26 2, eCeil := fieldAt o 28 2 }

/-- The report fields of a site record with their age, 33 octets, all 0 when absent. -/
def reportOctets (r : Option ReportFields) (now : Nat) : Octets :=
  match r with
  | none => zeros 33
  | some r =>
    signedOctets 4 r.pNow ++ octetsOf 2 r.eStored ++ octetsOf 2 r.eUsable ++ octetsOf 2 r.dischargeAvail ++
    octetsOf 2 r.chargeAvail ++ octetsOf 1 r.condition.code ++ octetsOf 2 r.sequence ++ octetsOf 6 r.receiptTime ++
    octetsOf 2 r.appliedRelease ++ signedOctets 4 r.appliedOffset ++ octetsOf 6 (r.age now)

/-- The dispatch record of a site record, from the allocations to the unconfirmed run (57 octets). -/
def DispatchRecord.octets (d : DispatchRecord) : Octets :=
  d.allocation.toList.flatMap (octetsOf 4) ++ signedOctets 4 d.staged ++ signedOctets 4 d.sent ++
  optOctets 2 d.releaseSent ++ optOctets 2 d.lastRelease ++ optOctets 6 d.sentTime ++ optOctets 6 d.expiry ++
  octetsOf 1 d.run

/-- R20, R142: the record READ_RECORDS returns for a slot (132 octets). -/
def State.siteRecord (s : State) (slot : Nat) : Octets :=
  let d := s.dispatch slot
  match s.siteAt slot with
  | none =>
    octetsOf 2 slot ++ octetsOf 1 SiteState.vacant.code ++
    flagsOctet [false, false, false, d.confirmed, d.expiry.isSome, d.carry] ++ zeros 71 ++ d.octets
  | some x =>
    octetsOf 2 slot ++ octetsOf 1 x.state.code ++
    flagsOctet [x.report.isSome, x.report.any (fun r => r.clamped), x.suspectExpiry.isSome, d.confirmed,
      d.expiry.isSome, d.carry] ++
    octetsOf 1 (barReasonCode x.barReason) ++ x.static.octets (zeros 16) ++ reportOctets x.report s.localTime ++
    optOctets 6 x.suspectExpiry ++ octetsOf 1 x.tagRun ++ d.octets

/-! ## Feeder and product records (R17, R20, R51, R59) -/

/-- A feeder's state octet: ENABLED 0, DISABLED 1. -/
def feederStateOctet (enabled : Bool) : Octets := flagOctet (!enabled)

/-- R20: a feeder record as read (11 octets). -/
def State.feederRecord (s : State) (f : Nat) : Octets :=
  octetsOf 4 (s.feeder f).capUp ++ octetsOf 4 (s.feeder f).capDown ++ feederStateOctet (s.feeder f).enabled ++
  octetsOf 2 (s.feeder f).siteCount

/-- A product bank (33 octets). -/
def Bank.octets (b : Bank) : Octets :=
  flagOctet b.enabled ++ octetsOf 2 b.code ++ octetsOf 1 b.direction.code ++ octetsOf 1 b.mode.code ++
  octetsOf 1 b.priority ++ octetsOf 2 b.endurance ++ octetsOf 4 b.minBid ++ octetsOf 4 b.increment ++
  octetsOf 4 b.maxBid ++ octetsOf 2 b.margin ++ octetsOf 1 b.gateLead ++ octetsOf 2 b.deadband ++
  octetsOf 2 b.fullDeviation ++ octetsOf 2 b.stepThreshold ++ octetsOf 2 b.tolerance ++
  octetsOf 1 b.deficientThreshold ++ b.mask.octet

/-- R198: the bank a written record carries, none when an enumerated field holds an unlisted code. -/
def parseBank (o : Octets) : Option Bank :=
  match optionOctet (fieldAt o 0 1), Direction.ofCode (fieldAt o 3 1), Mode.ofCode (fieldAt o 4 1) with
  | some enabled, some direction, some mode =>
    some { enabled := enabled, code := fieldAt o 1 2, direction := direction, mode := mode,
           priority := fieldAt o 5 1, endurance := fieldAt o 6 2, minBid := fieldAt o 8 4,
           increment := fieldAt o 12 4, maxBid := fieldAt o 16 4, margin := fieldAt o 20 2,
           gateLead := fieldAt o 22 1, deadband := fieldAt o 23 2, fullDeviation := fieldAt o 25 2,
           stepThreshold := fieldAt o 27 2, tolerance := fieldAt o 29 2, deficientThreshold := fieldAt o 31 1,
           mask := CondSet.ofNat (fieldAt o 32 1) }
  | _, _, _ => none

/-- R59: a product record as read (68 octets). -/
def State.productRecord (s : State) (p : Product) : Octets :=
  octetsOf 1 p.val ++ flagOctet (s.products.get p).staged ++ (s.products.get p).pendingBank.octets ++
  (s.products.get p).active.octets

/-! ## Offer, Roster and Snapshot records (R76, R99) -/

/-- An offer record with its book position (32 octets). -/
def Offer.octets (o : Offer) (position : Nat) : Octets :=
  octetsOf 2 position ++ octetsOf 2 o.id ++ octetsOf 4 o.order ++ octetsOf 1 o.product.val ++ octetsOf 6 o.window ++
  octetsOf 1 o.mode.code ++ octetsOf 4 o.quantity ++ signedOctets 4 o.price ++ octetsOf 1 o.state.code ++
  flagsOctet [true, o.accepted.isSome, o.reason.isSome, o.withdrawLate.getD false] ++ optOctets 4 o.accepted ++
  optOctets 2 o.reason

/-- R99: the record at a book position; a position beyond the book is absent (DEDUCED, log entry 16). -/
def State.offerRecord (s : State) (position : Nat) : Octets :=
  match s.book.offers.drop position with
  | [] => octetsOf 2 position ++ zeros 30
  | o :: _ => o.octets position

/-- R76: the Roster entry of a slot (44 octets); an absent entry has every field but the slot 0 (DEDUCED, log
entry 16). -/
def State.rosterRecord (s : State) (slot : Nat) : Octets :=
  match s.census.published.bind (fun x => Table.find x.roster.entries slot) with
  | none => octetsOf 2 slot ++ zeros 42
  | some e =>
    octetsOf 2 slot ++ flagOctet true ++ octetsOf 4 e.siteNumber ++ octetsOf 1 e.feeder ++ octetsOf 4 e.census ++
    e.shares.toList.flatMap (octetsOf 4)

/-- R76: the Snapshot fields of a product (33 octets); absent fields are 0 (DEDUCED, log entry 16). -/
def State.snapshotRecord (s : State) (p : Product) : Octets :=
  match s.census.published with
  | none => octetsOf 1 p.val ++ zeros 32
  | some x =>
    octetsOf 1 p.val ++ flagsOctet [true, x.snapshot.deviceTime.isSome] ++ octetsOf 4 x.snapshot.number ++
    octetsOf 1 x.snapshot.kind.code ++ octetsOf 1 x.snapshot.kind.feederCode ++ octetsOf 6 x.snapshot.localTime ++
    optOctets 6 x.snapshot.deviceTime ++ octetsOf 6 (x.snapshot.products.get p).available ++
    octetsOf 4 (x.snapshot.products.get p).offerable ++ octetsOf 2 (x.snapshot.products.get p).contributing ++
    octetsOf 1 (x.snapshot.products.get p).clippedFeeders

/-! ## Performance records (R150, R161) -/

/-- R150: a total in Wh, rounded down: 3,600,000 W ms make one. -/
def wattHours (n : Nat) : Nat := n / 3600000

/-- A window record (27 octets). -/
def WindowRecord.octets (w : WindowRecord) : Octets :=
  flagsOctet [w.window.isSome, true, w.alarm] ++ optOctets 6 w.window ++ octetsOf 2 w.measured ++
  octetsOf 2 w.deficient ++ octetsOf 8 (wattHours w.requested) ++ octetsOf 8 (wattHours w.delivered)

/-- R161: a product's delivery record (160 octets). -/
def State.performanceRecord (s : State) (p : Product) : Octets :=
  let m := s.mon p
  octetsOf 1 p.val ++ octetsOf 4 m.intervals ++ octetsOf 8 (wattHours m.requested) ++
  octetsOf 8 (wattHours m.delivered) ++ flagOctet m.latch ++ m.conditions.octet ++
  octetsOf 1 (declarationCode m.declaration) ++ m.current.octets ++ octetsOf 1 m.history.length ++
  m.history.flatMap WindowRecord.octets ++ zeros (27 * (Config.historySize - m.history.length))

/-! ## The tables (R187) -/

/-- The highest index of a table. -/
def TableName.lastIndex (t : TableName) : Nat :=
  match t with
  | .sites => 4095
  | .feeders => 63
  | .products => 7
  | .offers => 511
  | .roster => 4095
  | .snapshot => 7
  | .performance => 7

/-- The size of a record as read. -/
def TableName.readSize (t : TableName) : Nat :=
  match t with
  | .sites => 132
  | .feeders => 11
  | .products => 68
  | .offers => 32
  | .roster => 44
  | .snapshot => 33
  | .performance => 160

/-- The size of a record as written; none for a table that may only be read. -/
def TableName.writeSize (t : TableName) : Option Nat :=
  match t with
  | .sites => some 30
  | .feeders => some 9
  | .products => some 33
  | .offers | .roster | .snapshot | .performance => none

/-- The record of product number `n`. -/
def productRecordAt (n : Nat) (f : Product → Octets) : Octets :=
  match productOf n with
  | none => []
  | some p => f p

/-- R189: the record of table `t` at `index`, as it stands. -/
def State.recordAt (s : State) (t : TableName) (index : Nat) : Octets :=
  match t with
  | .sites => s.siteRecord index
  | .feeders => s.feederRecord index
  | .products => productRecordAt index s.productRecord
  | .offers => s.offerRecord index
  | .roster => s.rosterRecord index
  | .snapshot => productRecordAt index s.snapshotRecord
  | .performance => productRecordAt index s.performanceRecord

/-! ## Written records (R11, R12, R17, R51) -/

/-- R17: both caps in range. -/
def capsInRange (up down : Nat) : Bool := decide (up ≤ 100000000) && decide (down ≤ 100000000)

/-- R51: a written bank judged and applied to product `p`; the answer says whether a staged mark was removed. -/
def State.writeBank (s : State) (p : Product) (o : Octets) : Except Reason (State × Bool) :=
  match parseBank o with
  | none => .error .badField
  | some b => if b.inRange then .ok (s.writePending p b, (s.products.get p).staged) else .error .badField

/-- R17: a written feeder record judged and applied. -/
def State.writeFeederRecord (s : State) (f : Nat) (o : Octets) : Except Reason State :=
  match optionOctet (fieldAt o 8 1) with
  | none => .error .badField
  | some disabled =>
    if capsInRange (fieldAt o 0 4) (fieldAt o 4 4) then
      .ok (s.writeFeeder f (fieldAt o 0 4) (fieldAt o 4 4) (!disabled))
    else .error .badField

/-- R11, R12: a written site record judged and applied. -/
def State.writeSiteRecord (s : State) (slot : Nat) (o : Octets) : Except Reason State :=
  match s.loadRefusal slot (parseStatic o) with
  | some r => .error r
  | none => .ok (s.loadSite slot (parseStatic o))

/-- R188, step 4: one record judged and applied under its table's rule. The second part of the answer holds the
product whose staged mark the record removed. -/
def State.writeRecord (s : State) (t : TableName) (index : Nat) (o : Octets) : Except Reason (State × Option Product) :=
  match t with
  | .sites => (s.writeSiteRecord index o).map (fun u => (u, none))
  | .feeders => (s.writeFeederRecord index o).map (fun u => (u, none))
  | .products =>
    match productOf index with
    | none => .error .badField
    | some p => (s.writeBank p o).map (fun u => (u.1, if u.2 then some p else none))
  | .offers | .roster | .snapshot | .performance => .error .readOnly

/-! ## The parameter record (R191) -/

/-- The 38 octets of the parameter record. -/
def Params.octets (p : Params) : Octets :=
  octetsOf 4 p.fFresh ++ octetsOf 4 p.fStale ++ octetsOf 1 p.tagLimit ++ octetsOf 2 p.suspectHold ++
  octetsOf 1 p.windowLength ++ octetsOf 1 p.censusInterval ++ octetsOf 4 p.nominal ++ octetsOf 2 p.sampleTimeout ++
  octetsOf 2 p.holdTime ++ octetsOf 2 p.releaseSpacing ++ octetsOf 2 p.confirmTimeout ++
  octetsOf 1 p.unconfirmedLimit ++ octetsOf 1 p.performanceInterval ++ octetsOf 1 p.heartbeatInterval ++
  p.conditionMask.octet ++ octetsOf 1 p.linkTimeout ++ octetsOf 1 p.ackLevel ++ octetsOf 1 p.availabilityLevel ++
  octetsOf 1 p.offerLevel ++ octetsOf 1 p.reportLevel ++ octetsOf 1 p.responseLevel ++ octetsOf 1 p.noticeLevel ++
  octetsOf 2 p.noticeMask.toNat

/-- The parameter record at the start of `o`; the two bits of the notice kind mask that no kind has are ignored
(R198). -/
def parseParams (o : Octets) : Params :=
  { fFresh := fieldAt o 0 4, fStale := fieldAt o 4 4, tagLimit := fieldAt o 8 1, suspectHold := fieldAt o 9 2,
    windowLength := fieldAt o 11 1, censusInterval := fieldAt o 12 1, nominal := fieldAt o 13 4,
    sampleTimeout := fieldAt o 17 2, holdTime := fieldAt o 19 2, releaseSpacing := fieldAt o 21 2,
    confirmTimeout := fieldAt o 23 2, unconfirmedLimit := fieldAt o 25 1, performanceInterval := fieldAt o 26 1,
    heartbeatInterval := fieldAt o 27 1, conditionMask := CondSet.ofNat (fieldAt o 28 1),
    linkTimeout := fieldAt o 29 1, ackLevel := fieldAt o 30 1, availabilityLevel := fieldAt o 31 1,
    offerLevel := fieldAt o 32 1, reportLevel := fieldAt o 33 1, responseLevel := fieldAt o 34 1,
    noticeLevel := fieldAt o 35 1, noticeMask := BitVec.ofNat 14 (fieldAt o 36 2) }

/-- `low` to `high`. -/
def within (low n high : Nat) : Bool := decide (low ≤ n) && decide (n ≤ high)

/-- R191, step 1: every field in its range, and F_stale above F_fresh. -/
def Params.inRange (p : Params) : Bool :=
  within 1000 p.fFresh 300000 && decide (p.fFresh < p.fStale) && decide (p.fStale ≤ 600000) &&
  within 1 p.tagLimit 15 && within 60 p.suspectHold 3600 && within 1 p.windowLength 60 &&
  within 1 p.censusInterval 60 && (decide (p.nominal = 50000) || decide (p.nominal = 60000)) &&
  within 300 p.sampleTimeout 2000 && within 1000 p.holdTime 10000 && within 100 p.releaseSpacing 2000 &&
  within 500 p.confirmTimeout 10000 && within 1 p.unconfirmedLimit 8 && within 1 p.performanceInterval 60 &&
  within 1 p.heartbeatInterval 60 && within 1 p.linkTimeout 60 && decide (p.ackLevel ≤ 3) &&
  decide (p.availabilityLevel ≤ 3) && decide (p.offerLevel ≤ 3) && decide (p.reportLevel ≤ 3) &&
  decide (p.responseLevel ≤ 3) && decide (p.noticeLevel ≤ 3)

/-! ## READ_STATUS (R190) -/

def Clock.code (c : Clock) : Nat :=
  match c with
  | .notSet => 0
  | .running _ => 1
  | .holding _ _ => 2

def Clock.remainder (c : Clock) : Option Nat :=
  match c with
  | .notSet => none
  | .running _ => none
  | .holding _ r => some r

def State.timeStatus (s : State) : Octets :=
  octetsOf 1 s.time.clock.code ++ optOctets 6 s.deviceTime ++ optOctets 6 s.time.clock.remainder ++
  octetsOf 1 s.params.windowLength ++ optOctets 6 s.currentWindow

def State.censusStatus (s : State) : Octets :=
  flagOctet s.census.run.isSome ++
  octetsOf 1 ((s.census.run.map (fun r => r.kind.code)).getD 0) ++
  octetsOf 1 ((s.census.run.map (fun r => r.kind.feederCode)).getD 0) ++
  flagOctet s.census.fullPending ++ flagOctet s.census.selectPending.isSome ++ optOctets 1 s.census.selectPending ++
  flagOctet s.census.published.isSome ++ optOctets 4 (s.census.published.map (fun x => x.snapshot.number))

def ActRecord.octets (r : ActRecord) : Octets :=
  octetsOf 1 r.state.code ++ flagsOctet [r.currentId.isSome, r.order.isSome] ++ octetsOf 4 r.obligation ++
  octetsOf 4 r.target ++ optOctets 4 r.currentId ++ optOctets 4 (r.order.map (fun o => o.id)) ++
  optOctets 4 (r.order.map (fun o => o.quantity)) ++ optOctets 6 (r.order.map (fun o => o.time))

def State.activationStatus (s : State) : Octets :=
  s.activation.records.toList.flatMap ActRecord.octets ++ flagsOctet [s.activation.sample.isSome] ++
  optOctets 4 (s.activation.sample.map (fun x => x.number)) ++
  optOctets 6 (s.activation.sample.map (fun x => x.time)) ++ optOctets 6 s.silence

def LastPass.octets (l : LastPass) : Octets :=
  octetsOf 4 l.target ++ octetsOf 4 l.allocatable ++ octetsOf 4 l.granted ++ flagOctet l.shortfall ++
  flagOctet l.census.isSome ++ optOctets 4 l.census

/-- R142: the number of slots whose carry-forward mark is set. -/
def State.carryMarks (s : State) : Nat := (s.allocation.records.filter (fun e => e.2.carry)).length

def State.allocationStatus (s : State) : Octets :=
  flagOctet s.allocation.pass.isSome ++ flagOctet s.allocation.passPending ++
  s.allocation.lastPass.toList.flatMap LastPass.octets ++ octetsOf 2 s.allocation.releaseCounter ++
  flagOctet s.allocation.emission.isSome ++ flagOctet s.allocation.requested ++ flagOctet s.allocation.catchUp ++
  flagOctet s.allocation.lastStart.isSome ++ optOctets 6 s.allocation.lastStart ++ octetsOf 2 s.carryMarks

def State.monitorStatus (s : State) : Octets :=
  s.monitor.products.toList.flatMap (fun m =>
    m.conditions.octet ++ octetsOf 1 (declarationCode m.declaration) ++ flagOctet m.latch) ++
  octetsOf 6 s.monitor.intervalStart ++ octetsOf 6 s.monitor.intervalExpiry ++ octetsOf 6 s.monitor.heartbeatExpiry

def Engine.statusOctets (e : Engine) : Octets := flagOctet e.up ++ flagOctet e.wasDown

/-- R190: the body of READ_STATUS, every value taken at one event. -/
def State.statusBody (s : State) : Octets :=
  s.timeStatus ++ s.censusStatus ++ s.activationStatus ++ s.allocationStatus ++ s.monitorStatus ++
  s.links.fleet.statusOctets ++ s.links.grid.statusOctets ++ s.links.meter.statusOctets ++
  octetsOf 1 s.management.queue.length ++ octetsOf 1 s.management.notices.length ++ s.params.octets

/-- R171: the body of READ_LINK_ERRORS (19 octets). -/
def State.linkErrorsBody (s : State) : Octets :=
  octetsOf 2 s.links.fleet.count ++ octetsOf 2 s.links.grid.count ++ octetsOf 2 s.links.meter.count ++
  flagOctet s.links.fleet.overflow ++ flagOctet s.links.grid.overflow ++ flagOctet s.links.meter.overflow ++
  summaryOctets s.links.fleet.summary ++ summaryOctets s.links.meter.summary ++ octetsOf 2 s.unknownSites ++
  octetsOf 2 s.activation.rejected

end Sys2Proof.Machine
end

