-- ==== Sys2Proof/Machine/Management.lean ====
section
/-! DEFINITION. The Management Unit (chapter 10): the request queue, execution one request at a time, responses, table
windows and cursors, the requests of each block, parameters and the warm restart. -/

namespace Sys2Proof.Machine

/-! ## The queue and execution (R183 to R185) -/

def State.setManagement (s : State) (m : Management) : State := { s with management := m }

/-- REQUEST_ENQUEUE (R183): a REQUEST at the head of the Grid buffer joins the queue, or is discarded with
REQUEST_OVERFLOW (R169) when eight wait. -/
def execRequestEnqueue (s : State) : Host.Outcome State Fault Refusal :=
  match s.gridHead .request with
  | none => .next s
  | some f =>
    let t := s.dropHead .grid
    if s.management.queue.length < Config.requestQueueSize then
      .next (t.setManagement { t.management with
        queue := t.management.queue ++ [{ sequence := f.sequence, payload := f.payload, flagged := f.flagged }] })
    else .next (t.reportClass .grid .requestOverflow f.flagged)

/-- The request code of a payload; none for an empty one. -/
def requestCode (o : Octets) : Option Nat := o.head?.map BitVec.toNat

/-- R183: the code names a request. -/
def codeListed (n : Nat) : Bool := decide (1 ≤ n) && decide (n ≤ 25)

/-- R184: the request whose execution may begin now: the head of the queue, while none is in execution and the
RESPONSE source is empty. -/
def State.nextRequest (s : State) : Option PendingRequest :=
  if s.management.inExecution.isNone && s.arbiter.response.isNone then s.management.queue.head? else none

/-- The next request, when its code is `code`. -/
def State.nextOf (s : State) (code : Nat) : Option PendingRequest :=
  s.nextRequest.filter (fun r => decide (requestCode r.payload = some code))

/-- R184: the head of the queue leaves it. -/
def State.takeRequest (s : State) : State :=
  s.setManagement { s.management with queue := s.management.queue.drop 1 }

/-- R184, R185: execution is complete: the response is placed and no request is in execution (code 0 for an empty
payload: DEDUCED, log entry 27). -/
def State.respond (s : State) (r : PendingRequest) (refusal : Option Reason) (body : Octets) : State :=
  (s.setManagement { s.management with inExecution := none }).placeResponse
    { sequence := r.sequence, code := (requestCode r.payload).getD 0, refusal := refusal, body := body }

/-- R183: an out-of-format request: PAYLOAD is reported, and BAD_FIELD answered. -/
def State.outOfFormat (s : State) (r : PendingRequest) : State :=
  (s.reportClass .grid .payload r.flagged).respond r (some .badField) []

/-- R184: the request of code `code` at the head is executed by `run` when its payload has `length` octets, and is
out of format otherwise; without such a request nothing happens. -/
def State.request (s : State) (code length : Nat) (run : State → PendingRequest → State) : State :=
  match s.nextOf code with
  | none => s
  | some r => if r.payload.length = length then run s.takeRequest r else s.takeRequest.outOfFormat r

/-- A request that leaves no body: DONE with the new state, or refused with nothing changed. -/
def State.answer (s : State) (r : PendingRequest) (x : Except Reason State) : State :=
  match x with
  | .ok t => t.respond r none []
  | .error e => s.respond r (some e) []

/-- REQUEST_OUT_OF_FORMAT (R183): the payload is shorter than a code, or its code names no request. -/
def execRequestOutOfFormat (s : State) : Host.Outcome State Fault Refusal :=
  .next (match s.nextRequest with
    | none => s
    | some r =>
      match requestCode r.payload with
      | none => s.takeRequest.outOfFormat r
      | some c => if codeListed c then s else s.takeRequest.outOfFormat r)

/-! ## Windows and the return limit (R187, R189) -/

/-- R187: the window a SET_WINDOW names, or none when it is refused. -/
def windowNamed (o : Octets) : Option TableWindow :=
  match TableName.ofCode (fieldAt o 1 1) with
  | none => none
  | some t =>
    if fieldAt o 2 2 ≤ fieldAt o 4 2 ∧ fieldAt o 4 2 ≤ t.lastIndex then
      some { table := t, first := fieldAt o 2 2, last := fieldAt o 4 2, readCursor := fieldAt o 2 2,
             writeCursor := fieldAt o 2 2 }
    else none

/-- R187: SET_WINDOW. -/
def State.setWindow (s : State) (r : PendingRequest) : State :=
  s.answer r (match windowNamed r.payload with
    | none => .error .badField
    | some w => .ok (s.setManagement { s.management with window := some w }))

/-- SET_WINDOW (R187). -/
def execSetWindow (s : State) : Host.Outcome State Fault Refusal := .next (s.request 1 6 State.setWindow)

/-- R189: SET_RETURN_LIMIT. -/
def State.setReturnLimit (s : State) (r : PendingRequest) : State :=
  s.answer r (if 64 ≤ fieldAt r.payload 1 2 ∧ fieldAt r.payload 1 2 ≤ 1024 then
      .ok (s.setManagement { s.management with returnLimit := fieldAt r.payload 1 2 })
    else .error .badField)

/-- SET_RETURN_LIMIT (R189). -/
def execSetReturnLimit (s : State) : Host.Outcome State Fault Refusal := .next (s.request 6 3 State.setReturnLimit)

/-! ## Writes, record by record (R188) -/

/-- R188: the body of a write: the number applied, the write cursor, and for PRODUCTS the marks removed
(DEDUCED, log entry 29). -/
def writeBody (w : TableWindow) (applied : Nat) (marks : BitVec 8) : Octets :=
  octetsOf 2 applied ++ octetsOf 2 w.writeCursor ++ (if w.table = .products then octetsOf 1 marks.toNat else [])

/-- The product set with product `p` in it, if one is named. -/
def withMark (marks : BitVec 8) (p : Option Product) : BitVec 8 :=
  match p with
  | none => marks
  | some p => marks ||| (1#8 <<< p.val)

def State.setWindowTo (s : State) (w : TableWindow) : State :=
  s.setManagement { s.management with window := some w }

/-- What is left of a number of record events after one. -/
def budgetLess (take : Option Nat) : Option Nat := take.map (fun k => k - 1)

/-- R188, step 4: the records are taken one by one, `take` of them at most in this step (log entry 5; no record
at all is DONE: DEDUCED, log entry 13). -/
def State.writeRun (rest : List Octets) (take : Option Nat) (applied : Nat) (marks : BitVec 8) (w : TableWindow)
    (r : PendingRequest) (s : State) : State :=
  match rest with
  | [] => s.respond r none (writeBody w applied marks)
  | o :: more =>
    if w.last < w.writeCursor then s.respond r (some .windowFull) (writeBody w applied marks)
    else if take = some 0 then
      s.setManagement { s.management with
        inExecution := some { request := r, progress := .writing (o :: more) applied marks } }
    else
      match s.writeRecord w.table w.writeCursor o with
      | .error e => s.respond r (some e) (writeBody w applied marks)
      | .ok (t, p) =>
        State.writeRun more (budgetLess take) (applied + 1) (withMark marks p)
          { w with writeCursor := w.writeCursor + 1 } r (t.setWindowTo { w with writeCursor := w.writeCursor + 1 })

/-- R188, steps 2 to 4, for a window already found: `fixed` octets stand before the records. -/
def State.beginWrite (s : State) (r : PendingRequest) (fixed : Nat) (take : Option Nat) (w : TableWindow) : State :=
  match w.table.writeSize with
  | none => s.respond r (some .readOnly) []
  | some size =>
    if (r.payload.length - fixed) % size = 0 then
      State.writeRun (chunks (r.payload.length - fixed) size (r.payload.drop fixed)) take 0 0 w r s
    else s.outOfFormat r

/-- R188, R189: the table that WRITE_RECORDS and READ_RECORDS name, judged against the window: none set is
WRONG_STATE, an unlisted table code BAD_FIELD, another table than the window's WRONG_STATE (DESIGN CHOICE, log entry 14). -/
def State.namedWindow (s : State) (tableCode : Nat) : Except Reason TableWindow :=
  match s.management.window with
  | none => .error .wrongState
  | some w =>
    match TableName.ofCode tableCode with
    | none => .error .badField
    | some t => if t = w.table then .ok w else .error .wrongState

/-- The window as it stands, WRONG_STATE without one. -/
def State.presentWindow (s : State) : Except Reason TableWindow :=
  match s.management.window with
  | none => .error .wrongState
  | some w => .ok w

/-- R188: a write whose window has been judged. -/
def State.judgedWrite (s : State) (r : PendingRequest) (fixed : Nat) (take : Option Nat)
    (x : Except Reason TableWindow) : State :=
  match x with
  | .error e => s.respond r (some e) []
  | .ok w => s.beginWrite r fixed take w

/-- The request of code `code` in execution, with how far it has come. -/
def State.inProgress (s : State) (code : Nat) : Option InExecution :=
  s.management.inExecution.filter (fun x => decide (requestCode x.request.payload = some code))

/-- A write in execution goes on. -/
def State.resumeWrite (s : State) (take : Option Nat) (x : InExecution) : State :=
  match x.progress, s.management.window with
  | .writing rest applied marks, some w => State.writeRun rest take applied marks w x.request s
  | _, _ => s

/-- WRITE_RECORDS (R188). -/
def execWriteRecords (take : Option Nat) (s : State) : Host.Outcome State Fault Refusal :=
  .next (match s.inProgress 2 with
    | some x => s.resumeWrite take x
    | none =>
      match s.nextOf 2 with
      | none => s
      | some r =>
        if 2 ≤ r.payload.length then
          s.takeRequest.judgedWrite r 2 take (s.namedWindow (fieldAt r.payload 1 1))
        else s.takeRequest.outOfFormat r)

/-- WRITE_CONTINUE (R188). -/
def execWriteContinue (take : Option Nat) (s : State) : Host.Outcome State Fault Refusal :=
  .next (match s.inProgress 3 with
    | some x => s.resumeWrite take x
    | none =>
      match s.nextOf 3 with
      | none => s
      | some r => s.takeRequest.judgedWrite r 1 take s.presentWindow)

/-! ## Reads, record by record (R189) -/

/-- R189: the octets of a read response ahead of its records: the seven fixed ones, first index, count and end. -/
def readOverhead : Nat := 12

/-- R189: how many records a read returns. -/
def readCount (w : TableWindow) (limit : Nat) : Nat :=
  if w.last < w.readCursor then 0
  else max 1 (min (w.last + 1 - w.readCursor) ((limit - readOverhead) / w.table.readSize))

/-- R189: the body of a read. Where it returns no record, the first index is the read cursor (DESIGN CHOICE, log
entry 43). -/
def readBody (w : TableWindow) (first count : Nat) (records : Octets) : Octets :=
  octetsOf 2 first ++ octetsOf 2 count ++ flagOctet (decide (w.last < first + count)) ++ records

/-- R189: `remaining` records are still to add; `take` of them at most in this step. The read cursor moves past
the records when the last one is added (DEDUCED, log entry 5). -/
def State.readRun (remaining : Nat) (take : Option Nat) (first count : Nat) (records : Octets) (w : TableWindow)
    (r : PendingRequest) (s : State) : State :=
  match remaining with
  | 0 =>
    (s.setWindowTo { w with readCursor := first + count }).respond r none (readBody w first count records)
  | n + 1 =>
    if take = some 0 then
      s.setManagement { s.management with
        inExecution := some { request := r, progress := .reading (n + 1) first count records } }
    else
      State.readRun n (budgetLess take) first (count + 1) (records ++ s.recordAt w.table (first + count)) w r s

/-- R189: a read whose window has been judged. -/
def State.judgedRead (s : State) (r : PendingRequest) (take : Option Nat) (x : Except Reason TableWindow) : State :=
  match x with
  | .error e => s.respond r (some e) []
  | .ok w => State.readRun (readCount w s.management.returnLimit) take w.readCursor 0 [] w r s

/-- A read in execution goes on. -/
def State.resumeRead (s : State) (take : Option Nat) (x : InExecution) : State :=
  match x.progress, s.management.window with
  | .reading remaining first count records, some w => State.readRun remaining take first count records w x.request s
  | _, _ => s

/-- READ_RECORDS (R189). -/
def execReadRecords (take : Option Nat) (s : State) : Host.Outcome State Fault Refusal :=
  .next (match s.inProgress 4 with
    | some x => s.resumeRead take x
    | none => s.request 4 2 (fun t r => t.judgedRead r take (t.namedWindow (fieldAt r.payload 1 1))))

/-- READ_CONTINUE (R189). -/
def execReadContinue (take : Option Nat) (s : State) : Host.Outcome State Fault Refusal :=
  .next (match s.inProgress 5 with
    | some x => s.resumeRead take x
    | none => s.request 5 1 (fun t r => t.judgedRead r take t.presentWindow))

/-! ## Requests about one site (R13 to R16) -/

/-- R13: the site a request names by number, with its slot. -/
def State.siteNamed (s : State) (number : Nat) : Option (Nat × Site) :=
  match s.slotOf number with
  | none => none
  | some slot => (s.siteAt slot).map (fun x => (slot, x))

/-- R13: a request about the site it names. -/
def State.siteRequest (act : State → Nat → Site → Except Reason State) (s : State) (r : PendingRequest) : State :=
  s.answer r (match s.siteNamed (fieldAt r.payload 1 4) with
    | none => .error .noSuchRecord
    | some (slot, x) => act s slot x)

/-- BAR_SITE (R14). -/
def execBarSite (s : State) : Host.Outcome State Fault Refusal :=
  .next (s.request 7 5 (State.siteRequest (fun t slot x => .ok (t.barSite slot x))))

/-- CLEAR_SITE (R15). -/
def execClearSite (s : State) : Host.Outcome State Fault Refusal :=
  .next (s.request 8 5 (State.siteRequest State.clearSite))

/-- REMOVE_SITE (R16). -/
def execRemoveSite (s : State) : Host.Outcome State Fault Refusal :=
  .next (s.request 9 5 (State.siteRequest State.removeSite))

/-! ## Requests about one product (R51, R54, R55, R57) -/

/-- R51: WRITE_PRODUCT. -/
def State.writeProduct (s : State) (r : PendingRequest) : State :=
  match productOf (fieldAt r.payload 1 1) with
  | none => s.respond r (some .badField) []
  | some p =>
    match s.writeBank p (slice r.payload 2 33) with
    | .error e => s.respond r (some e) []
    | .ok (t, removed) => t.respond r none (flagOctet removed)

/-- WRITE_PRODUCT (R51). -/
def execWriteProduct (s : State) : Host.Outcome State Fault Refusal := .next (s.request 10 35 State.writeProduct)

/-- R51: a request that names one product, refused with BAD_FIELD above 7. -/
def State.productRequest (act : State → Product → Except Reason State) (s : State) (r : PendingRequest) : State :=
  s.answer r (match productOf (fieldAt r.payload 1 1) with
    | none => .error .badField
    | some p => act s p)

/-- STAGE_PRODUCT (R54). -/
def execStageProduct (s : State) : Host.Outcome State Fault Refusal :=
  .next (s.request 11 2 (State.productRequest State.stage))

/-- CANCEL_STAGE (R55). -/
def execCancelStage (s : State) : Host.Outcome State Fault Refusal :=
  .next (s.request 12 2 (State.productRequest State.cancelStage))

/-- APPLY_NOW (R57). -/
def execApplyNow (s : State) : Host.Outcome State Fault Refusal :=
  .next (s.request 13 2 (State.productRequest State.applyNow))

/-! ## Requests about offers (R83 to R85, R93, R98, R100, R101) -/

/-- R83: CREATE_OFFER. -/
def State.createOffer (s : State) (r : PendingRequest) : State :=
  match productOf (fieldAt r.payload 1 1), OfferMode.ofCode (fieldAt r.payload 8 1) with
  | some p, some mode =>
    match s.createRefusal p (fieldAt r.payload 2 6) mode (fieldAt r.payload 9 4) with
    | some e => s.respond r (some e) []
    | none =>
      let o := s.draft p (fieldAt r.payload 2 6) mode (fieldAt r.payload 9 4) (signedAt r.payload 13 4)
      let t := s.addOffer o
      t.respond r none (octetsOf 2 o.id ++ octetsOf 2 (t.positionOf o.id))
  | _, _ => s.respond r (some .badField) []

/-- CREATE_OFFER (R83). -/
def execCreateOffer (s : State) : Host.Outcome State Fault Refusal := .next (s.request 14 17 State.createOffer)

/-- R83, check 5, over a mode octet: none when the octet is unlisted or the quantity out of range. -/
def termsOf (b : Bank) (modeCode quantity : Nat) : Option OfferMode :=
  (OfferMode.ofCode modeCode).filter (fun m => quantityOk b m quantity)

/-- R84: UPDATE_OFFER. -/
def State.updateOffer (s : State) (r : PendingRequest) : State :=
  s.answer r (match s.findOffer (fieldAt r.payload 1 2) with
    | none => .error .noSuchRecord
    | some o =>
      if o.state ≠ .draft then .error .wrongState
      else
        match termsOf (s.bank o.product) (fieldAt r.payload 11 1) (fieldAt r.payload 3 4) with
        | none => .error .badField
        | some m =>
          .ok ((s.mapOffer o.id (fun x => x.updated m (fieldAt r.payload 3 4) (signedAt r.payload 7 4))).clearReservation
            o.id))

/-- UPDATE_OFFER (R84). -/
def execUpdateOffer (s : State) : Host.Outcome State Fault Refusal := .next (s.request 15 12 State.updateOffer)

/-- R85: SUBMIT_OFFER. -/
def State.submitOffer (s : State) (r : PendingRequest) : State :=
  match s.findOffer (fieldAt r.payload 1 2) with
  | none => s.respond r (some .noSuchRecord) []
  | some o =>
    if o.state ≠ .draft then s.respond r (some .wrongState) []
    else
      match s.judgeSubmission o with
      | .error e => s.respond r (some e) []
      | .ok q => (s.queueOffer o.id q).respond r none (octetsOf 4 q)

/-- SUBMIT_OFFER (R85). -/
def execSubmitOffer (s : State) : Host.Outcome State Fault Refusal := .next (s.request 16 3 State.submitOffer)

/-- R93: a request for an offer by id. -/
def State.withdrawRequest (s : State) (r : PendingRequest) : State :=
  s.answer r (match s.findOffer (fieldAt r.payload 1 2) with
    | none => .error .noSuchRecord
    | some o => s.withdrawOffer o)

/-- WITHDRAW_OFFER (R93). -/
def execWithdrawOffer (s : State) : Host.Outcome State Fault Refusal := .next (s.request 17 3 State.withdrawRequest)

/-- R98: the range a RETIRE_OFFERS names: none within `some` for ALL; none when it is refused. -/
def retireRange (o : Octets) : Option (Option (Nat × Nat)) :=
  match optionOctet (fieldAt o 1 1) with
  | none => none
  | some true => some none
  | some false => if fieldAt o 2 6 ≤ fieldAt o 8 6 then some (some (fieldAt o 2 6, fieldAt o 8 6)) else none

/-- R98: RETIRE_OFFERS. -/
def State.retireOffers (s : State) (r : PendingRequest) : State :=
  match retireRange r.payload with
  | none => s.respond r (some .badField) []
  | some range =>
    (s.retire range).respond r none (octetsOf 2 (s.book.offers.filter (retired range)).length)

/-- RETIRE_OFFERS (R98). -/
def execRetireOffers (s : State) : Host.Outcome State Fault Refusal := .next (s.request 18 14 State.retireOffers)

/-- The reservation set to `x`. -/
def State.reserve (s : State) (x : Option Nat) : State := { s with book := { s.book with reservation := x } }

/-- R100: READ_OFFER_RESERVED. -/
def State.readReserved (s : State) (r : PendingRequest) : State :=
  match s.findOffer (fieldAt r.payload 1 2) with
  | none => (s.reserve none).respond r (some .noSuchRecord) []
  | some o => (s.reserve (some o.id)).respond r none (o.octets (s.positionOf o.id))

/-- READ_OFFER_RESERVED (R100). -/
def execReadOfferReserved (s : State) : Host.Outcome State Fault Refusal := .next (s.request 19 3 State.readReserved)

/-- Section 11.4: the body of UPDATE_OFFER_CONDITIONAL. -/
def conditionalBody (applied : Bool) (quantity : Nat) : Octets := flagOctet applied ++ octetsOf 4 quantity

/-- R101: the DRAFT record a conditional update names, when the reservation holds its id. -/
def State.reservedDraft (s : State) (id : Nat) : Option Offer :=
  if s.book.reservation = some id then (s.findOffer id).filter (fun o => decide (o.state = .draft)) else none

/-- R101: steps 3 to 5 for the record `o`, already updated in the state `s`. -/
def State.submitUpdated (s : State) (r : PendingRequest) (o : Offer) : State :=
  match s.judgeSubmission o with
  | .error e => s.respond r (some e) (conditionalBody true 0)
  | .ok q => (s.queueOffer o.id q).respond r none (conditionalBody true q)

/-- R101: UPDATE_OFFER_CONDITIONAL (an unlisted option octet at step 2: DEDUCED, log entry 15). -/
def State.updateConditional (s : State) (r : PendingRequest) : State :=
  match s.reservedDraft (fieldAt r.payload 1 2) with
  | none => (s.reserve none).respond r (some .notReserved) (conditionalBody false 0)
  | some o =>
    match termsOf (s.bank o.product) (fieldAt r.payload 11 1) (fieldAt r.payload 3 4),
        optionOctet (fieldAt r.payload 12 1) with
    | some m, some submit =>
      let y := o.updated m (fieldAt r.payload 3 4) (signedAt r.payload 7 4)
      let t := (s.mapOffer o.id (fun _ => y)).reserve none
      if submit then t.submitUpdated r y else t.respond r none (conditionalBody true 0)
    | _, _ => (s.reserve none).respond r (some .badField) (conditionalBody false 0)

/-- UPDATE_OFFER_CONDITIONAL (R101). -/
def execUpdateOfferConditional (s : State) : Host.Outcome State Fault Refusal :=
  .next (s.request 20 13 State.updateConditional)

/-! ## REQUEST_CENSUS (R62) -/

/-- R62: REQUEST_CENSUS. -/
def State.requestCensus (s : State) (r : PendingRequest) : State :=
  match optionOctet (fieldAt r.payload 1 1) with
  | none => s.respond r (some .badField) []
  | some false => s.requestFull.1.respond r none (octetsOf 1 s.requestFull.2.code)
  | some true =>
    if fieldAt r.payload 2 1 < Config.feeders then
      (s.requestSelect (fieldAt r.payload 2 1)).1.respond r none
        (octetsOf 1 (s.requestSelect (fieldAt r.payload 2 1)).2.code)
    else s.respond r (some .badField) []

/-- REQUEST_CENSUS (R62). -/
def execRequestCensus (s : State) : Host.Outcome State Fault Refusal := .next (s.request 21 3 State.requestCensus)

/-! ## Status and error reads (R171, R174, R190) -/

/-- R174: WAS_DOWN is cleared while the port is UP. -/
def Engine.statusRead (e : Engine) : Engine := { e with wasDown := e.wasDown && !e.up }

/-- R174 at the three ports. -/
def State.clearWasDown (s : State) : State :=
  { s with links := { s.links with
      fleet := s.links.fleet.statusRead, grid := s.links.grid.statusRead, meter := s.links.meter.statusRead } }

/-- R190: READ_STATUS: the response is built and placed, WAS_DOWN cleared, then the latches with the evaluation that
follows (DEDUCED, log entry 12). -/
def State.readStatus (s : State) (r : PendingRequest) : State :=
  (s.clearWasDown.respond r none s.statusBody).clearLatches

/-- READ_STATUS (R190). -/
def execReadStatus (s : State) : Host.Outcome State Fault Refusal := .next (s.request 22 1 State.readStatus)

/-- R171: the count and the overflow flag cleared. -/
def Engine.clearCount (e : Engine) : Engine := { e with count := 0, overflow := false }

/-- R171: the summary emptied as well. -/
def Engine.clearErrors (e : Engine) : Engine := { e.clearCount with summary := 0 }

/-- R171: what READ_LINK_ERRORS clears. -/
def State.clearLinkErrors (s : State) : State :=
  { s with
    unknownSites := 0
    activation := { s.activation with rejected := 0 }
    links := { s.links with
      fleet := s.links.fleet.clearErrors, grid := s.links.grid.clearCount, meter := s.links.meter.clearErrors } }

def State.readLinkErrors (s : State) (r : PendingRequest) : State :=
  s.clearLinkErrors.respond r none s.linkErrorsBody

/-- READ_LINK_ERRORS (R171). -/
def execReadLinkErrors (s : State) : Host.Outcome State Fault Refusal := .next (s.request 23 1 State.readLinkErrors)

/-! ## SET_PARAMETERS (R191 with R5, R49, R65, R119, R160, R175) -/

/-- R49: the refusal of a new window length, device time being judged under the old and the new one. -/
def State.lengthRefusal (s : State) (p : Params) : Option Reason :=
  if p.windowLength = s.params.windowLength then none
  else if s.book.offers.any (fun o => !o.state.terminal) then some .committed
  else
    match s.deviceTime with
    | none => none
    | some d => if d / p.windowMs < s.windowOf d then some .wrongState else none

/-- R191: the refusal of a parameter record. -/
def State.paramsRefusal (s : State) (p : Params) : Option Reason :=
  if !p.inRange then some .badField else s.lengthRefusal p

/-- R65: a new census interval moves the expiry, which falls at once when it has passed. -/
def State.retimeCensus (s : State) : State :=
  let t := { s with census := { s.census with
    timerExpiry := s.census.timerBase + s.params.censusInterval * 1000 } }
  if t.censusDue then t.censusTimerExpires else t

/-- R160: a new performance interval moves the expiry; the interval ends at once when it has passed. -/
def State.retimeInterval (s : State) : State :=
  let t := { s with monitor := { s.monitor with
    intervalExpiry := s.monitor.intervalStart + s.params.performanceInterval * 1000 } }
  if t.intervalDue then t.endInterval else t

/-- R160: a new heartbeat interval moves the expiry; the heartbeat falls at once when it has passed. -/
def State.retimeHeartbeat (s : State) : State :=
  let t := { s with monitor := { s.monitor with
    heartbeatExpiry := s.monitor.heartbeatBase + s.params.heartbeatInterval * 1000 } }
  if t.heartbeatDue then t.evaluate true else t

/-- R191: each block acts on the values that changed since `old`, in the order of the rule's table
(DESIGN CHOICE, log entry 22). -/
def State.actOnParams (s : State) (old : Params) : State :=
  let new := s.params
  let t := if new.fFresh = old.fFresh ∧ new.fStale = old.fStale then s else s.regradeAll
  let t := if new.windowLength = old.windowLength then t else t.changeWindowLength
  let t := if new.censusInterval = old.censusInterval then t else t.retimeCensus
  let t := if new.sampleTimeout = old.sampleTimeout ∧ new.holdTime = old.holdTime then t else t.regradeSilence
  let t := if new.performanceInterval = old.performanceInterval then t else t.retimeInterval
  let t := if new.heartbeatInterval = old.heartbeatInterval then t else t.retimeHeartbeat
  if new.linkTimeout = old.linkTimeout then t
  else ((t.retimeLink .fleet).retimeLink .grid).retimeLink .meter

/-- R191: the record replaces every parameter, and the blocks act. -/
def State.applyParams (s : State) (p : Params) : State := { s with params := p }.actOnParams s.params

/-- R191: SET_PARAMETERS. -/
def State.setParameters (s : State) (r : PendingRequest) : State :=
  match s.paramsRefusal (parseParams (r.payload.drop 1)) with
  | some e => s.respond r (some e) []
  | none =>
    (s.applyParams (parseParams (r.payload.drop 1))).respond r none
      (s.applyParams (parseParams (r.payload.drop 1))).params.octets

/-- SET_PARAMETERS (R191). -/
def execSetParameters (s : State) : Host.Outcome State Fault Refusal := .next (s.request 24 39 State.setParameters)

/-! ## RESTART (R192) -/

/-- R22: a site after a warm restart. -/
def Site.restarted (x : Site) : Site :=
  if x.state = .barred then { x with tagRun := 0 }
  else { x with state := .listed, report := none, suspectExpiry := none, tagRun := 0 }

/-- R22. -/
def State.restartFleet (s : State) : State :=
  { s with fleet := { s.fleet with sites := s.fleet.sites.map (fun e => (e.1, e.2.restarted)) } }

/-- R78. -/
def State.restartCensus (s : State) : State :=
  { s with census := { s.census with
      run := none, fullPending := false, selectPending := none, banksSwitched := false, published := none,
      timerExpiry := s.localTime + s.params.censusInterval * 1000, timerBase := s.localTime } }

/-- R144: a dispatch record after a warm restart. -/
def DispatchRecord.restarted (d : DispatchRecord) : DispatchRecord :=
  { d with allocation := PerProduct.all 0, staged := 0, run := 0, carry := false, expiry := none }

/-- R144, without its trigger. -/
def State.restartAllocation (s : State) : State :=
  { s with allocation := { s.allocation with
      records := mapRecords s.allocation.records DispatchRecord.restarted, pass := none, passPending := false,
      lastPass := PerProduct.all LastPass.reset, emission := none, requested := false, catchUp := true } }

/-- R163: a product of the Monitor after a warm restart, its sets as they stood. -/
def MonitorProduct.restarted (m : MonitorProduct) (lost : Bool) : MonitorProduct :=
  { m with intervals := 0, requested := 0, delivered := 0, current := WindowRecord.start m.current.window,
           latch := false, freqLost := lost }

/-- R163, without its evaluation; R109: FREQ_LOSS as the restarted records give it. -/
def State.restartMonitor (s : State) : State :=
  { s with monitor := { s.monitor with
      products := PerProduct.ofFn (fun p => (s.mon p).restarted (decide ((s.act p).state = .lost)))
      intervalStart := s.localTime
      intervalExpiry := s.localTime + s.params.performanceInterval * 1000
      heartbeatExpiry := s.localTime + s.params.heartbeatInterval * 1000
      heartbeatBase := s.localTime } }

/-- R109, R123: one ACTIVATION_CHANGE for each record that the restart changed since `old`, in ascending product number
(DESIGN CHOICE, log entry 42). -/
def State.postRestartChanges (s old : State) : State :=
  allProducts.foldl (fun t p => if s.changeNoted old p then t.post (s.activationNotice p .restart) else t) s

/-- R192: the warm restart: every block sets its own state, then the allocation trigger, the Monitor's evaluation and
the Activation Unit's notices follow (DEDUCED, log entry 32). -/
def State.warmRestart (s : State) : State :=
  ((s.restartFleet.restartCensus.restartBook.restartActivation.restartAllocation.restartMonitor.trigger).evaluate
    false).postRestartChanges s

/-- R192, R195: RESTART: the response with the number of requests waiting, then the emptied queue and the restart. -/
def State.restartRequest (s : State) (r : PendingRequest) : State :=
  let t := s.respond r none (octetsOf 1 s.management.queue.length)
  (t.setManagement { t.management with queue := [] }).warmRestart

/-- RESTART (R192). -/
def execRestart (s : State) : Host.Outcome State Fault Refusal := .next (s.request 25 1 State.restartRequest)

/-! ## COLD_RESET -/

/-- COLD_RESET (R21 and every chapter's reset rule): every item takes its cold-reset value. The queue of commands
and the count of free values drawn are the model's own and stay (DESIGN CHOICE, log entry 33). -/
def execColdReset (s : State) : Host.Outcome State Fault Refusal :=
  .next { State.reset with freeDraws := s.freeDraws, pending := s.pending }

end Sys2Proof.Machine
end

