-- ==== Sys2Proof/Machine/Dispatch.lean ====
section
/-! DEFINITION. One arm for each row of spec/opcode_table.json: a command's meaning. -/

namespace Sys2Proof.Machine

def exec (i : Instr) (s : State) : Host.Outcome State Fault Refusal :=
  match i with
  | .coldReset => Sys2Proof.Machine.execColdReset s
  | .signalLoss port => Sys2Proof.Machine.execSignalLoss port s
  | .signalPresence port => Sys2Proof.Machine.execSignalPresence port s
  | .frameReceived port octets => Sys2Proof.Machine.execFrameReceived port octets s
  | .linkTimeout port => Sys2Proof.Machine.execLinkTimeout port s
  | .siteReport => Sys2Proof.Machine.execSiteReport s
  | .siteAgeing slot => Sys2Proof.Machine.execSiteAgeing slot s
  | .suspectExpiry slot => Sys2Proof.Machine.execSuspectExpiry slot s
  | .clockMark => Sys2Proof.Machine.execClockMark s
  | .holdEnd => Sys2Proof.Machine.execHoldEnd s
  | .windowBoundary window => Sys2Proof.Machine.execWindowBoundary window s
  | .gateClosure product window => Sys2Proof.Machine.execGateClosure product window s
  | .effectiveTimeArrival product time => Sys2Proof.Machine.execEffectiveTimeArrival product time s
  | .offerResult => Sys2Proof.Machine.execOfferResult s
  | .activationOrder => Sys2Proof.Machine.execActivationOrder s
  | .activationEnd => Sys2Proof.Machine.execActivationEnd s
  | .freqSample => Sys2Proof.Machine.execFreqSample s
  | .sampleTimeout => Sys2Proof.Machine.execSampleTimeout s
  | .sampleLoss => Sys2Proof.Machine.execSampleLoss s
  | .censusIntervalExpiry => Sys2Proof.Machine.execCensusIntervalExpiry s
  | .censusSlotRead => Sys2Proof.Machine.execCensusSlotRead s
  | .censusPublish => Sys2Proof.Machine.execCensusPublish s
  | .allocationPassEnd => Sys2Proof.Machine.execAllocationPassEnd s
  | .releaseBegin => Sys2Proof.Machine.execReleaseBegin s
  | .fleetTransmitDone => Sys2Proof.Machine.execFleetTransmitDone s
  | .confirmationTimeout slot => Sys2Proof.Machine.execConfirmationTimeout slot s
  | .performanceIntervalEnd => Sys2Proof.Machine.execPerformanceIntervalEnd s
  | .heartbeat => Sys2Proof.Machine.execHeartbeat s
  | .gridTransmitDone => Sys2Proof.Machine.execGridTransmitDone s
  | .requestEnqueue => Sys2Proof.Machine.execRequestEnqueue s
  | .setWindow => Sys2Proof.Machine.execSetWindow s
  | .writeRecords take => Sys2Proof.Machine.execWriteRecords take s
  | .writeContinue take => Sys2Proof.Machine.execWriteContinue take s
  | .readRecords take => Sys2Proof.Machine.execReadRecords take s
  | .readContinue take => Sys2Proof.Machine.execReadContinue take s
  | .setReturnLimit => Sys2Proof.Machine.execSetReturnLimit s
  | .barSite => Sys2Proof.Machine.execBarSite s
  | .clearSite => Sys2Proof.Machine.execClearSite s
  | .removeSite => Sys2Proof.Machine.execRemoveSite s
  | .writeProduct => Sys2Proof.Machine.execWriteProduct s
  | .stageProduct => Sys2Proof.Machine.execStageProduct s
  | .cancelStage => Sys2Proof.Machine.execCancelStage s
  | .applyNow => Sys2Proof.Machine.execApplyNow s
  | .createOffer => Sys2Proof.Machine.execCreateOffer s
  | .updateOffer => Sys2Proof.Machine.execUpdateOffer s
  | .submitOffer => Sys2Proof.Machine.execSubmitOffer s
  | .withdrawOffer => Sys2Proof.Machine.execWithdrawOffer s
  | .retireOffers => Sys2Proof.Machine.execRetireOffers s
  | .readOfferReserved => Sys2Proof.Machine.execReadOfferReserved s
  | .updateOfferConditional => Sys2Proof.Machine.execUpdateOfferConditional s
  | .requestCensus => Sys2Proof.Machine.execRequestCensus s
  | .readStatus => Sys2Proof.Machine.execReadStatus s
  | .readLinkErrors => Sys2Proof.Machine.execReadLinkErrors s
  | .setParameters => Sys2Proof.Machine.execSetParameters s
  | .restart => Sys2Proof.Machine.execRestart s
  | .requestOutOfFormat => Sys2Proof.Machine.execRequestOutOfFormat s

end Sys2Proof.Machine
end

