-- ==== Sys2Proof/Machine/Timers.lean ====
section
/-! DEFINITION. What is due by the clock: the timer and calendar commands whose moment local or device time has
reached, in the order the model queues them (log entry 2). -/

namespace Sys2Proof.Machine

/-- The list with `i` when `b` holds. -/
def dueIf (b : Bool) (i : Instr) : List Instr := if b then [i] else []

/-- R46: the hold remainder has reached 0. -/
def State.holdOver (s : State) : Bool :=
  match s.time.clock with
  | .holding _ 0 => true
  | .holding _ (_ + 1) => false
  | .running _ => false
  | .notSet => false

/-- R118: a record that follows is in state `x` and the silence has reached `bound`. -/
def State.sampleOver (s : State) (x : ActState) (bound : Nat) : Bool :=
  silenceReaches s.silence bound && allProducts.any (fun p => s.follows p && decide ((s.act p).state = x))

/-- The calendar command of an event. -/
def CalendarEvent.command (e : CalendarEvent) : Instr :=
  match e with
  | .gate p w => .gateClosure p w
  | .boundary w => .windowBoundary w
  | .arrival p t => .effectiveTimeArrival p t

/-- The commands that are due now, in the order the model queues them (DESIGN CHOICE, log entry 2). -/
def State.dueEvents (s : State) : List Instr :=
  dueIf s.holdOver .holdEnd ++
  [Port.fleet, Port.grid, Port.meter].flatMap (fun p => dueIf (s.linkOver p) (.linkTimeout p)) ++
  (s.dueEvent.map CalendarEvent.command).toList ++
  s.fleet.sites.flatMap (fun e => dueIf (s.agedState e.2).isSome (.siteAgeing e.1)) ++
  s.fleet.sites.flatMap (fun e => dueIf (s.suspectOver e.2) (.suspectExpiry e.1)) ++
  dueIf (s.sampleOver .active s.params.sampleTimeout) .sampleTimeout ++
  dueIf (s.sampleOver .holding (s.params.sampleTimeout + s.params.holdTime)) .sampleLoss ++
  s.allocation.reports.map (fun slot => .confirmationTimeout slot) ++
  s.allocation.records.flatMap (fun e => dueIf (s.confirmationDue e.1) (.confirmationTimeout e.1)) ++
  dueIf s.censusDue .censusIntervalExpiry ++
  dueIf s.intervalDue .performanceIntervalEnd ++
  dueIf s.heartbeatDue .heartbeat ++
  dueIf s.releaseReady .releaseBegin

/-- Nothing waits: what is due joins the queue of commands; with nothing due, a millisecond passes
(DESIGN CHOICE, log entry 2). -/
def State.idle (s : State) : State :=
  if s.dueEvents.isEmpty then s.tick else { s with pending := s.dueEvents }

end Sys2Proof.Machine
end

