-- ==== Sys2Proof/Safety.lean ====
section
/-! DEFINITION. What counts as a safe state, and the terms the statements use: the relations the part holds at every
moment, the bounds of its stores, what placing a frame for the Grid Port may change, and when it changes nothing. -/

namespace Sys2Proof.Machine

/-! ## The relations and bounds of the state -/

/-- R104: no target is above its obligation. -/
def State.targetsHeld (s : State) : Prop := ∀ p : Product, (s.act p).target ≤ (s.act p).obligation

/-- R191: the parameter record in force lies in its ranges, F_stale above F_fresh (R19). -/
def State.paramsHeld (s : State) : Prop := s.params.inRange = true

/-- R51: both banks of every product lie in their ranges. -/
def State.banksHeld (s : State) : Prop :=
  ∀ p : Product, (s.products.get p).active.inRange = true ∧ (s.products.get p).pendingBank.inRange = true

/-- R58, R53: enabled products have unique codes, the enabled staged banks counted: no two active banks, no staged bank
and another product's active bank, and no two staged banks have one code. -/
def State.codesHeld (s : State) : Prop :=
  ∀ p q : Product, p ≠ q →
    let staged (x : Product) : Prop := (s.products.get x).staged = true ∧ (s.products.get x).pendingBank.enabled = true
    ((s.bank p).enabled = true → (s.bank q).enabled = true → (s.bank p).code ≠ (s.bank q).code) ∧
    (staged p → (s.bank q).enabled = true → (s.products.get p).pendingBank.code ≠ (s.bank q).code) ∧
    (staged p → staged q → (s.products.get p).pendingBank.code ≠ (s.products.get q).pendingBank.code)

/-- R168, R171: a Frame Engine's buffer holds at most its capacity and its error count stays within 4,095. -/
def Engine.bounded (e : Engine) (port : Port) : Prop :=
  e.buffer.length ≤ bufferSize port ∧ e.count ≤ Config.errorCountMax

/-- R168, R171, R182: the bounds of the ingress buffers, the error counts and the two queues. -/
def State.queuesHeld (s : State) : Prop :=
  s.links.fleet.bounded .fleet ∧ s.links.grid.bounded .grid ∧ s.links.meter.bounded .meter ∧
  s.management.queue.length ≤ Config.requestQueueSize ∧ s.management.notices.length ≤ Config.noticeQueueSize

/-- An OFFER entry of the OFFER source queue. -/
def OfferEntry.isOffer (e : OfferEntry) : Bool :=
  match e with
  | .offer _ => true
  | .withdraw _ => false

/-- R81, R82, R88: at most 512 records, no two with one id, at most 8 live offers of any product and window, and each
OFFER entry of the source queue names a QUEUED record, no two the same. -/
def State.bookHeld (s : State) : Prop :=
  s.book.offers.length ≤ Config.bookSize ∧ (s.book.offers.map (fun o => o.id)).Nodup ∧
  (∀ (p : Product) (w : Nat), s.liveOffers p w ≤ Config.ladderSize) ∧
  (s.arbiter.offers.filter OfferEntry.isOffer).Nodup ∧
  ∀ id : Nat, OfferEntry.offer id ∈ s.arbiter.offers → ∃ o ∈ s.book.offers, o.id = id ∧ o.state = .queued

/-- R82: the book is held in book order: no record precedes one that stands before it. -/
def State.bookOrdered (s : State) : Prop := s.book.offers.Pairwise (fun a b => Offer.before b a = false)

/-- Section 5.2: what an offer adds to the commitment of its product and window (R97): its accepted quantity in ACCEPTED,
PARTIAL or IN_DELIVERY. -/
def Offer.committed (o : Offer) : Nat :=
  match o.state with
  | .accepted | .partialAccepted | .inDelivery => o.accepted.getD 0
  | .draft | .queued | .submitted | .withdrawing | .rejected | .withdrawn | .expired | .lapsed | .closed => 0

/-- R97: the sum of the accepted quantities of (p, w). -/
def State.acceptedSum (s : State) (p : Product) (w : Nat) : Nat :=
  sumOf (s.book.offers.filter (fun o => decide (o.product = p) && decide (o.window = w))) Offer.committed

/-- R97, R47: the ring is the one the last boundary set. While device time is NOT_SET there is no ring, no offer and no
commitment. Otherwise the ring starts at the current window, or at the one before it while the boundary is still to be
delivered; no live offer lies beyond the 48 windows after the ring's first; and every commitment from the ring's first
window on is the sum of the accepted quantities of its product and window. -/
def State.ringHeld (s : State) : Prop :=
  s.book.ring = s.time.boundaryMark ∧
  match s.book.ring with
  | none => s.deviceTime = none ∧ s.book.offers = [] ∧ ∀ p : Product, s.book.commitments.get p = []
  | some base =>
    (∃ c, s.currentWindow = some c ∧ base ≤ c ∧ c ≤ base + 1) ∧
    (∀ o ∈ s.book.offers, o.state.terminal = false → o.window ≤ base + 48) ∧
    ∀ (p : Product) (w : Nat), base ≤ w → Table.readOr (s.book.commitments.get p) 0 w = s.acceptedSum p w

/-- R10, R18: the tables of the fleet are canonical, the Site Map holds exactly the numbers of the occupied slots,
and each feeder's site count is the number of occupied slots that name it. -/
def State.fleetHeld (s : State) : Prop :=
  Table.wf s.fleet.sites = true ∧ Table.wf s.fleet.siteMap = true ∧ Table.wfOr s.fleet.feeders Feeder.reset = true ∧
  (∀ number slot : Nat, s.slotOf number = some slot ↔ ∃ x, s.siteAt slot = some x ∧ x.static.siteNumber = number) ∧
  (∀ f : Nat, (s.feeder f).siteCount = (s.fleet.sites.filter (fun e => decide (e.2.static.feeder = f))).length)

/-- R127: `l` holds what a pass that starts at `s` latches: targets, banks, the Roster with its census number, and
each occupied slot's eligibility and site number. -/
structure State.LatchedBy (s : State) (l : PassLatch) : Prop where
  targets : ∀ p : Product, l.targets.get p = (s.act p).target
  banks : ∀ p : Product, l.banks.get p =
    { enabled := (s.bank p).enabled, priority := (s.bank p).priority, direction := (s.bank p).direction }
  roster : l.roster = s.census.published.map (fun x => x.roster)
  census : l.census = s.census.published.map (fun x => x.snapshot.number)
  slots : ∀ slot : Nat, Table.find l.slots slot = (s.siteAt slot).map (fun x =>
    { eligible := s.siteEligible x, siteNumber := x.static.siteNumber })

/-- R109, R126: what one trigger leaves of the Allocation Engine: it is made exactly when `changed` holds; it pends while
a pass runs, and otherwise starts a pass that latches `t`. -/
structure State.TriggersOnce (s t : State) (changed : Prop) : Prop where
  kept : ¬ changed → t.allocation = s.allocation
  pended : changed → s.allocation.pass.isSome = true → t.allocation = { s.allocation with passPending := true }
  started : changed → s.allocation.pass = none → ∃ l, t.LatchedBy l ∧
    t.allocation = { s.allocation with pass := some l, passPending := false }

/-- R53, R56: at the boundary into `w` the switch of `p` to its pending bank is barred by commitment. -/
def State.barredAt (s : State) (p : Product) (w : Nat) : Prop :=
  let old := s.bank p
  let new := (s.products.get p).pendingBank
  ((old.enabled = true ∧ new.enabled = false) ∨ new.direction ≠ old.direction ∨ new.mode ≠ old.mode) ∧
  ((∃ v, w ≤ v ∧ 0 < s.commitment p v) ∨ ∃ o ∈ s.book.offers, o.product = p ∧ w + 1 ≤ o.window ∧
    (o.state = .queued ∨ o.state = .submitted ∨ o.state = .withdrawing))

/-- R56: the boundary into `w` switches product `p` to its pending bank. -/
def State.switchesAt (s : State) (p : Product) (w : Nat) : Prop :=
  (s.products.get p).staged = true ∧ ¬ s.barredAt p w

/-- R120: that switch changes the activation mode or disables the product, and so resets its activation record. -/
def State.resetsAt (s : State) (p : Product) (w : Nat) : Prop :=
  s.switchesAt p w ∧ ((s.products.get p).pendingBank.mode ≠ (s.bank p).mode ∨
    ((s.bank p).enabled = true ∧ (s.products.get p).pendingBank.enabled = false))

/-- R58, R128: product `q` comes before product `p` in capacity-priority order. -/
def precedes (priority : Product → Nat) (q p : Product) : Prop :=
  priority q < priority p ∨ (priority q = priority p ∧ q < p)

/-- R128: no slot holds a non-zero allocation for products of both directions. -/
def oneDirection (banks : PerProduct LatchedBank) (a : PerProduct Nat) : Prop :=
  ∀ p q : Product, (banks.get p).direction = .up → (banks.get q).direction = .down → a.get p = 0 ∨ a.get q = 0

/-- The order tables keep their canonical form: keys rising, no entry that reads as an unlisted one. -/
def State.tablesHeld (s : State) : Prop :=
  Table.wfOr s.allocation.records DispatchRecord.reset = true ∧
  ∀ p : Product, Table.wfOr (s.book.commitments.get p) 0 = true

/-! ## What a frame placed for the Grid Port may change -/

/-- An offer apart from its state. -/
def Offer.terms (o : Offer) : Offer := { o with state := .draft }

/-- R178: all that placing frames and the arbiter's choices may change between `s` and `t`: the arbiter's sources, the
Grid transmitter with its two outbound sequences, the Grid error summary, the notice queue with its flag, the state
of offers handed over and the reservation. -/
structure EgressOnly (s t : State) : Prop where
  fleet : t.fleet = s.fleet
  unknownSites : t.unknownSites = s.unknownSites
  time : t.time = s.time
  products : t.products = s.products
  census : t.census = s.census
  activation : t.activation = s.activation
  allocation : t.allocation = s.allocation
  monitor : t.monitor = s.monitor
  params : t.params = s.params
  freeDraws : t.freeDraws = s.freeDraws
  pending : t.pending = s.pending
  fleetEngine : t.links.fleet = s.links.fleet
  meterEngine : t.links.meter = s.links.meter
  fleetOut : t.links.fleetOut = s.links.fleetOut
  fleetTx : t.links.fleetTx = s.links.fleetTx
  gridEngine : t.links.grid = { s.links.grid with summary := t.links.grid.summary }
  queue : t.management.queue = s.management.queue
  inExecution : t.management.inExecution = s.management.inExecution
  window : t.management.window = s.management.window
  returnLimit : t.management.returnLimit = s.management.returnLimit
  lastId : t.book.lastId = s.book.lastId
  created : t.book.created = s.book.created
  ring : t.book.ring = s.book.ring
  commitments : t.book.commitments = s.book.commitments
  offers : t.book.offers.map Offer.terms = s.book.offers.map Offer.terms

/-- As `EgressOnly`, with the Monitor's evaluation besides (R156): its products' condition sets and declarations and the
heartbeat timer. -/
structure EvaluationOnly (s t : State) : Prop where
  egress : EgressOnly s { t with monitor := s.monitor }
  intervals : t.monitor.intervalStart = s.monitor.intervalStart ∧ t.monitor.intervalExpiry = s.monitor.intervalExpiry
  portStates : t.monitor.fleetUp = s.monitor.fleetUp ∧ t.monitor.meterUp = s.monitor.meterUp
  measured : ∀ p : Product, t.mon p =
    { s.mon p with conditions := (t.mon p).conditions, declaration := (t.mon p).declaration }

/-- No choice follows a placing: the Grid Port is DOWN or its transmitter holds a frame (R178). -/
def State.gridHolds (s : State) : Bool := !(s.links.grid.up && s.links.gridTx.isNone)

end Sys2Proof.Machine
end

