-- ==== Sys2Proof/Certificates/Slice0/Obligations.lean ====
section
/-! DEFINITION. The statements about the part, for the provers: each a Prop, in the order of OBLIGATIONS.json. -/

section
open Sys2Proof Sys2Proof.Machine

/-! ## The machine -/

/-- A step executes the command at the front of the queue with the queue's rest (the model's queue, log entry 2). -/
def Obligations.StepRunsFrontCommand : Prop :=
  ∀ (c : Instr) (rest : List Instr) (s : State), s.pending = c :: rest → step s = exec c { s with pending := rest }

/-- With no command waiting: what is due is queued; with nothing due a millisecond passes, local time advancing by 1
(R40), device time with it while RUNNING (R41), the hold remainder falling by 1 while HOLDING (R46). That this happens
on an empty queue is the model's choice (log entry 2). -/
def Obligations.EmptyQueueLetsTimePass : Prop :=
  ∀ s : State, s.pending = [] →
    (s.dueEvents ≠ [] → step s = .next { s with pending := s.dueEvents }) ∧
    (s.dueEvents = [] → s.time.localTime < 281474976710655 →
      step s = .next { s with time := { s.time with
        localTime := s.time.localTime + 1
        clock := match s.time.clock with
          | .notSet => .notSet
          | .running d => .running (min (d + 1) 281474976710655)
          | .holding d r => .holding d (r - 1) } })

/-- R102: COLD_RESET and the Offer Book. -/
def Obligations.ColdResetEmptiesTheOfferBook : Prop :=
  ∀ s : State, ∃ t : State, exec .coldReset s = .next t ∧
    t.book.offers = [] ∧ (∀ (p : Product) (w : Nat), t.commitment p w = 0) ∧ t.book.ring = none ∧
    t.book.reservation = none ∧ t.arbiter.offers = [] ∧ t.book.lastId = 0 ∧ t.book.created = 0 ∧
    (∀ (p : Product) (w : Nat) (m : OfferMode) (q : Nat) (price : Int),
      (t.draft p w m q price).id = 1 ∧ (t.draft p w m q price).order = 1)

/-- R21, R39, R50, R60 with the default bank of R52, R61, R122, R124, R125, R162, R181, R182, R191: COLD_RESET at every
other block. -/
def Obligations.ColdResetSetsEveryBlock : Prop :=
  ∀ s : State, ∃ t : State, exec .coldReset s = .next t ∧
    ((∀ slot, t.siteAt slot = none) ∧ (∀ n, t.slotOf n = none) ∧
      (∀ f, t.feeder f = { capUp := 0, capDown := 0, enabled := true, siteCount := 0 }) ∧ t.unknownSites = 0) ∧
    (t.time.localTime = 0 ∧ t.time.clock = .notSet ∧ t.time.boundaryMark = none ∧ (∀ p, t.time.gateMarks.get p = none) ∧
      (∀ p, t.time.effective.get p = none)) ∧
    (∀ p, (t.products.get p).pendingBank = (t.products.get p).active ∧ (t.products.get p).staged = false ∧
      (t.products.get p).active =
        { enabled := false, code := p.val + 1, direction := .up, mode := .signalled, priority := p.val,
          endurance := 900, minBid := 1000, increment := 1000, maxBid := 1000000, margin := 0, gateLead := 0,
          deadband := 200, fullDeviation := 500, stepThreshold := 100, tolerance := 100, deficientThreshold := 10,
          mask :=
            { shortfall := true, futureShortfall := false, freqLoss := true, fleetLinkDown := true,
              meterLinkDown := true, timeNotSet := true, noCensus := true, deliveryAlarm := false } }) ∧
    (t.census.run = none ∧ t.census.fullPending = false ∧ t.census.selectPending = none ∧
      t.census.banksSwitched = false ∧ t.census.counter = 0 ∧ t.census.published = none ∧
      t.census.timerExpiry = 5000) ∧
    ((∀ p, t.act p = { state := .idle, obligation := 0, target := 0, currentId := none, order := none }) ∧
      t.activation.sample = none ∧ t.activation.rejected = 0) ∧
    ((∀ slot, t.dispatch slot =
        { allocation := ⟨0, 0, 0, 0, 0, 0, 0, 0⟩, staged := 0, sent := 0, releaseSent := none, lastRelease := none,
          sentTime := none, confirmed := true, expiry := none, run := 0, carry := false }) ∧
      (∀ p, t.allocation.lastPass.get p =
        { target := 0, allocatable := 0, granted := 0, shortfall := false, census := none }) ∧
      t.allocation.pass = none ∧ t.allocation.passPending = false ∧
      t.allocation.releaseCounter = 0 ∧ t.allocation.emission = none ∧ t.allocation.requested = false ∧
      t.allocation.catchUp = false ∧ t.allocation.lastStart = none ∧ t.allocation.reports = []) ∧
    ((∀ p, (t.mon p).intervals = 0 ∧ (t.mon p).requested = 0 ∧ (t.mon p).delivered = 0 ∧
        (t.mon p).current = WindowRecord.start none ∧ (t.mon p).history = [] ∧ (t.mon p).latch = false ∧
        (t.mon p).declaration = none ∧ (t.mon p).freqLost = false ∧
        (t.mon p).conditions = { shortfall := false, futureShortfall := false, freqLoss := false, fleetLinkDown := true,
                                 meterLinkDown := false, timeNotSet := true, noCensus := true, deliveryAlarm := false }) ∧
      t.monitor.fleetUp = false ∧ t.monitor.meterUp = false ∧
      t.monitor.intervalStart = 0 ∧ t.monitor.intervalExpiry = 4000 ∧ t.monitor.heartbeatExpiry = 10000) ∧
    (∀ port, t.engine port =
      { buffer := [], expected0 := none, expected2 := none, summary := 0, count := 0, overflow := false, up := false,
        signal := false, expiry := none, lastValid := none, wasDown := true }) ∧
    (t.links.fleetOut = 0 ∧ t.links.grid0Out = 0 ∧ t.links.grid2Out = 0 ∧ t.links.fleetTx = none ∧
      t.links.gridTx = none ∧ t.arbiter.ack = [] ∧ t.arbiter.availability = none ∧ t.arbiter.offers = [] ∧
      t.arbiter.reports = [] ∧ t.arbiter.response = none) ∧
    (t.management.queue = [] ∧ t.management.inExecution = none ∧ t.management.window = none ∧
      t.management.returnLimit = 256 ∧ t.management.notices = [] ∧ t.management.noticeDiscarded = false) ∧
    t.params =
      { fFresh := 10000, fStale := 30000, tagLimit := 4, suspectHold := 900, windowLength := 15, censusInterval := 5,
        nominal := 50000, sampleTimeout := 500, holdTime := 3000, releaseSpacing := 250, confirmTimeout := 2000,
        unconfirmedLimit := 3, performanceInterval := 4, heartbeatInterval := 10,
        conditionMask :=
          { shortfall := true, futureShortfall := false, freqLoss := true, fleetLinkDown := true,
            meterLinkDown := true, timeNotSet := true, noCensus := true, deliveryAlarm := false }
        linkTimeout := 5, ackLevel := 0, availabilityLevel := 0, offerLevel := 1, reportLevel := 2, responseLevel := 2,
        noticeLevel := 3, noticeMask := 0b10011111111111#14 }

/-! ## Links and frames -/

/-- R172 to R174, R136, R156: SIGNAL_LOSS on an UP port and LINK_TIMEOUT at its expiry take the port DOWN, each with its
cause; a signal report changes nothing else, and a signal loss on a DOWN port no more. `u` is the state but for the
Monitor's evaluation, made for the Fleet Port and the Meter Line, and the LINK_CHANGE notice. -/
def Obligations.UpPortGoesDownAndSignalsAreNoted : Prop :=
  (∀ (port : Port) (s : State),
    exec (.signalPresence port) s = .next (s.setEngine port { s.engine port with signal := true }) ∧
    ((s.engine port).up = false →
      exec (.signalLoss port) s = .next (s.setEngine port { s.engine port with signal := false }))) ∧
  ∀ (port : Port) (s : State), (s.engine port).up = true →
    let wentDown (signal : Bool) (cause : LinkCause) (t : State) : Prop :=
      let e : Engine :=
        { s.engine port with
          up := false, signal := signal, expiry := none, lastValid := none, expected0 := none, expected2 := none
          wasDown := true }
      let v := s.setEngine port e
      let u : State := { v with
        links := { v.links with
          fleetTx := if port = .fleet then none else s.links.fleetTx
          gridTx := if port = .grid then none else s.links.gridTx }
        allocation := if port = .fleet
          then { s.allocation with emission := none, catchUp := true, records := t.allocation.records }
          else s.allocation
        monitor := { s.monitor with
          fleetUp := s.monitor.fleetUp && decide (port ≠ .fleet)
          meterUp := s.monitor.meterUp && decide (port ≠ .meter) } }
      t.engine port = e ∧
      (∀ slot, port = .fleet → (t.dispatch slot).expiry = none ∧
        (s.tablesHeld → t.dispatch slot = { s.dispatch slot with expiry := none })) ∧
      (port = .grid → t = u.post (.linkChange port false cause)) ∧
      (port ≠ .grid → EvaluationOnly u t ∧
        (∀ p : Product,
          (t.mon p).conditions.fleetLinkDown = !t.monitor.fleetUp ∧
          ((t.mon p).conditions.meterLinkDown = true ↔ t.monitor.meterUp = false ∧ (s.bank p).mode = .frequency)) ∧
        ((∀ p : Product, (t.mon p).declaration = (s.mon p).declaration) →
          t.monitor.heartbeatExpiry = s.monitor.heartbeatExpiry) ∧
        (s.gridHolds = true → t.links = u.links ∧ t.book = s.book ∧
          t.arbiter = { s.arbiter with availability := t.arbiter.availability } ∧
          ((∀ p : Product, (t.mon p).declaration = (s.mon p).declaration) → t.arbiter = s.arbiter) ∧
          (s.params.noticeMask.getLsbD 13 = true → t.management.noticeDiscarded = false →
            t.management.notices.getLast? = some (.linkChange port false cause))))
    (∃ t : State, exec (.signalLoss port) s = .next t ∧ wentDown false .signalLoss t) ∧
    (∀ expiry : Nat, (s.engine port).expiry = some expiry → expiry ≤ s.localTime →
      ∃ t : State, exec (.linkTimeout port) s = .next t ∧ wentDown (s.engine port).signal .timeout t)

/-- R164, R171: a delivered frame that fails one of checks 1 to 6 is discarded: its class joins the port's summary,
the count is raised, and nothing else changes. -/
def Obligations.FrameFailingACheckIsDiscarded : Prop :=
  ∀ (port : Port) (o : Octets) (s : State),
    let outcome (c : ErrClass) : Prop :=
      exec (.frameReceived port o) s = .next (s.setEngine port ((s.engine port).record c false))
    let len := fieldAt o 3 2
    let headerGood := crc8 (o.take 5) = BitVec.ofNat 8 (fieldAt o 5 1)
    let countGood := len ≤ 1024 ∧ o.length = (if len = 0 then 6 else 6 + len + 2)
    let footerGood := len = 0 ∨ (crc16 (slice o 6 len)).toNat = fieldAt o (6 + len) 2
    (o.length < 6 → outcome .length) ∧
    (6 ≤ o.length → ¬ headerGood → outcome .headerCheck) ∧
    (6 ≤ o.length → headerGood → ¬ countGood → outcome .length) ∧
    (6 ≤ o.length → headerGood → countGood → ¬ footerGood → outcome .footerCheck) ∧
    (6 ≤ o.length → headerGood → countGood → footerGood → channelUsed port (fieldAt o 1 1) = false →
      outcome .channel) ∧
    (6 ≤ o.length → headerGood → countGood → footerGood → channelUsed port (fieldAt o 1 1) = true →
      acceptedKind port (fieldAt o 1 1) (fieldAt o 0 1) = none → outcome .unknownKind)

/-- R164, R170, R171: a frame of the Grid Port that its owner finds out of format leaves the buffer, and PAYLOAD is
reported; the frame counts in the error count unless it showed a class before. -/
def Obligations.FramesOutOfFormatAreReported : Prop :=
  ∀ (s : State) (f : Frame) (rest : List Frame) (command : Instr) (kind : FrameKind) (length : Nat),
    (command, kind, length) ∈ [(Instr.clockMark, FrameKind.clockMark, 6), (.offerResult, .offerResult, 9),
      (.activationOrder, .activationOrder, 16), (.activationEnd, .activationEnd, 6)] →
    s.links.grid.buffer = f :: rest → f.kind = kind →
    (f.payload.length ≠ length ∨ (kind = .offerResult ∧ (fieldAt f.payload 2 1 = 0 ∨ 4 < fieldAt f.payload 2 1))) →
    let e := s.links.grid
    exec command s = .next
      { s with links := { s.links with grid := { e with
          buffer := rest
          summary := e.summary ||| 0b1000000#9
          count := if f.flagged = false ∧ e.count < 4095 then e.count + 1 else e.count
          overflow := if f.flagged = false ∧ 4095 ≤ e.count then true else e.overflow } } }

/-- Section 11.1, R167 and R164: a frame the part's own framing builds, of a kind the port accepts, is judged valid and
read back whole. -/
def Obligations.EnvelopeRoundTrip : Prop :=
  ∀ (port : Port) (k : FrameKind) (channel sequence : Nat) (payload : Octets),
    acceptedKind port channel k.code = some k → sequence < 256 → payload.length ≤ 1024 →
    judgeFrame port (envelope k channel sequence payload) =
      .ok { kind := k, channel := channel, sequence := sequence, payload := payload, flagged := false }

/-- Sections 11.4 and 11.5: the parameter record, a product bank and a written site record carry every field: what
is written as octets is read back. -/
def Obligations.RecordsRoundTrip : Prop :=
  (∀ p : Params, p.inRange = true → p.octets.length = 38 ∧ parseParams p.octets = p) ∧
  (∀ b : Bank, b.inRange = true → b.octets.length = 33 ∧ parseBank b.octets = some b) ∧
  (∀ f : StaticFields, f.inRange = true →
    (f.octets (octetsOf 16 f.tag.toNat)).length = 30 ∧ parseStatic (f.octets (octetsOf 16 f.tag.toNat)) = f)

/-- R164, R166, R168, R171, R173: a valid frame joins the buffer while there is room, showing SEQUENCE_GAP when it is not
the one expected, and is discarded with OVERRUN otherwise; the class joins the summary (which a RESPONSE handed over as
the Grid Port goes UP empties). Either way it renews an UP port's link and takes a DOWN port UP while the signal is
present; the Monitor is then told, and at the Fleet Port the catch-up flag requests a release when some slot owes one
(R136). -/
def Obligations.ValidFrameIsTakenAndRenewsTheLink : Prop :=
  ∀ (port : Port) (o : Octets) (f : Frame) (s : State), judgeFrame port o = .ok f →
    let e := s.engine port
    let expected := if f.channel = 2 then e.expected2 else e.expected0
    let gap : Bool := match expected with | none => false | some n => decide (f.sequence ≠ n)
    let full : Bool := decide (bufferSize port ≤ e.buffer.length)
    let rises : Bool := !e.up && e.signal
    ∃ t : State, exec (.frameReceived port o) s = .next t ∧
      (port ≠ .grid ∨ rises = false ∨ s.arbiter.response = none →
        (t.engine port).summary =
          (if full then e.summary ||| 0b010000000#9 else if gap then e.summary ||| 0b000100000#9 else e.summary)) ∧
      (t.engine port).overflow = (if (full || gap) && decide (4095 ≤ e.count) then true else e.overflow) ∧
      (e.buffer.length < bufferSize port →
        (t.engine port).buffer = e.buffer ++ [{ f with flagged := gap }] ∧
        (if f.channel = 2 then (t.engine port).expected2 else (t.engine port).expected0) =
          some ((f.sequence + 1) % 256) ∧
        (t.engine port).count = (if gap = true ∧ e.count < 4095 then e.count + 1 else e.count)) ∧
      (bufferSize port ≤ e.buffer.length →
        (t.engine port).buffer = e.buffer ∧ (t.engine port).expected0 = e.expected0 ∧
        (t.engine port).expected2 = e.expected2 ∧
        (t.engine port).count = (if e.count < 4095 then e.count + 1 else e.count)) ∧
      (e.up = true ∨ e.signal = true →
        (t.engine port).up = true ∧ (t.engine port).expiry = some (s.localTime + s.params.linkTimeout * 1000)) ∧
      (e.up = false → e.signal = false → (t.engine port).up = false ∧ (t.engine port).expiry = e.expiry) ∧
      t.allocation = { s.allocation with
        requested := s.allocation.requested ||
          (decide (port = .fleet) && rises && s.allocation.catchUp && s.fleet.sites.any (fun x => s.owes x.1)) } ∧
      t.monitor.fleetUp = (s.monitor.fleetUp || (decide (port = .fleet) && rises)) ∧
      t.monitor.meterUp = (s.monitor.meterUp || (decide (port = .meter) && rises)) ∧
      (rises = false → t = s.setEngine port (t.engine port)) ∧
      t.fleet = s.fleet ∧ t.time = s.time ∧ t.products = s.products ∧ t.census = s.census ∧
      t.activation = s.activation ∧ t.params = s.params ∧ t.unknownSites = s.unknownSites

/-! ## Telemetry Intake -/

/-- R23, R28, R30, R32 to R36, R4, R137: a report that passes every check replaces the report fields, takes the site to its
state, hands the confirmation on, and makes an exclusion's trigger when R35 calls for one. -/
def Obligations.AcceptedReportReplacesTheFields : Prop :=
  ∀ (s : State) (f : Frame) (rest : List Frame) (r : SiteReport) (slot : Nat) (x : Site),
    s.links.fleet.buffer = f :: rest → parseSiteReport f.payload = some r → s.slotOf r.siteNumber = some slot →
    s.siteAt slot = some x → x.state ≠ .barred → x.static.tag = r.tag →
    (∀ h, x.report = some h → 1 ≤ (r.sequence + 65536 - h.sequence % 65536) % 65536 ∧
      (r.sequence + 65536 - h.sequence % 65536) % 65536 ≤ 32767) →
    s.tablesHeld →
    let stored := min r.eStored r.eUsable
    let power := max (-(x.static.chargeRating : Int)) (min r.pNow x.static.dischargeRating)
    let d := s.dispatch slot
    let confirms := d.confirmed = false ∧ r.appliedRelease ≠ 0 ∧
      ∃ sent, d.releaseSent = some sent ∧ (r.appliedRelease + 65536 - sent % 65536) % 65536 ≤ 32767
    let excluded := (∃ h, x.report = some h ∧ h.condition = .normal) ∧ r.condition ≠ .normal ∧
      ∃ p : Product, d.allocation.get p ≠ 0
    ∃ t : State, exec .siteReport s = .next t ∧
      t.siteAt slot = some { x with
        state := if x.state = .suspect then .suspect else .active
        tagRun := 0
        report := some {
          pNow := power, eStored := stored, eUsable := r.eUsable, dischargeAvail := r.dischargeAvail,
          chargeAvail := r.chargeAvail, condition := r.condition, sequence := r.sequence, receiptTime := s.localTime,
          appliedRelease := r.appliedRelease, appliedOffset := r.appliedOffset,
          clamped := decide (stored ≠ r.eStored) || decide (power ≠ r.pNow) } } ∧
      (∀ k, k ≠ slot → t.siteAt k = s.siteAt k) ∧
      (confirms → t.dispatch slot = { d with confirmed := true, run := 0, expiry := none, carry := false }) ∧
      (¬ confirms → t.dispatch slot = d) ∧ (∀ k, k ≠ slot → t.dispatch k = s.dispatch k) ∧
      State.TriggersOnce { s with allocation := { s.allocation with records := t.allocation.records } } t excluded ∧
      t.links = { s.links with fleet := { s.links.fleet with buffer := rest } } ∧
      t.fleet.siteMap = s.fleet.siteMap ∧ t.fleet.feeders = s.fleet.feeders ∧ t.unknownSites = s.unknownSites ∧
      t.time = s.time ∧ t.products = s.products ∧ t.census = s.census ∧ t.book = s.book ∧
      t.activation = s.activation ∧ t.monitor = s.monitor ∧ t.arbiter = s.arbiter ∧ t.management = s.management ∧
      t.params = s.params

/-- R24 to R31 with R8 and R9: a report that a check discards changes only what the rule of that check says. At the tag
limit the site enters BARRED, SITE_BARRED is posted, and a pass is triggered exactly when the site was eligible with a
non-zero allocation. -/
def Obligations.DiscardedReportChangesWhatItsCheckSays : Prop :=
  ∀ (s : State) (f : Frame) (rest : List Frame), s.links.fleet.buffer = f :: rest →
    let u := s.dropHead .fleet
    let discarded : State := { u with unknownSites := if s.unknownSites < 65535 then s.unknownSites + 1 else s.unknownSites }
    (parseSiteReport f.payload = none → exec .siteReport s = .next (u.reportClass .fleet .payload f.flagged)) ∧
    (∀ r : SiteReport, parseSiteReport f.payload = some r →
      (s.slotOf r.siteNumber = none → exec .siteReport s = .next discarded) ∧
      (∀ (slot : Nat) (x : Site), s.slotOf r.siteNumber = some slot → s.siteAt slot = some x →
        (x.state = .barred → exec .siteReport s = .next discarded) ∧
        (x.state ≠ .barred → x.static.tag ≠ r.tag → min (x.tagRun + 1) 15 < s.params.tagLimit →
          exec .siteReport s = .next (u.setSite slot { x with tagRun := min (x.tagRun + 1) 15 })) ∧
        (x.state ≠ .barred → x.static.tag ≠ r.tag → s.params.tagLimit ≤ min (x.tagRun + 1) 15 →
          let v := (u.setSite slot { x with
            state := .barred, barReason := some .tag, suspectExpiry := none, tagRun := min (x.tagRun + 1) 15 }).post
              (.siteBarred slot x.static.siteNumber .tag)
          exec .siteReport s = .next (
            if (x.state = .active ∨ x.state = .ageing) ∧ (∃ h, x.report = some h ∧ h.condition = .normal) ∧
                (s.feeder x.static.feeder).enabled = true ∧ ∃ p : Product, (s.dispatch slot).allocation.get p ≠ 0
            then v.trigger else v)) ∧
        (∀ h, x.report = some h → x.state ≠ .barred → x.static.tag = r.tag →
          ¬ (1 ≤ (r.sequence + 65536 - h.sequence % 65536) % 65536 ∧
            (r.sequence + 65536 - h.sequence % 65536) % 65536 ≤ 32767) →
          exec .siteReport s = .next (discarded.setSite slot { x with tagRun := 0 }))))

/-- R5, R7, R9: SITE_AGEING takes an ACTIVE site to AGEING and an AGEING site to STALE when its age reaches the bound, the
last with an exclusion when the site was eligible with a non-zero allocation; SUSPECT_EXPIRY gives the state of the
age. -/
def Obligations.SitesAgeAndSuspectHoldEnds : Prop :=
  ∀ (slot : Nat) (s : State) (x : Site) (r : ReportFields), s.siteAt slot = some x → x.report = some r →
    (x.state = .active → r.receiptTime + s.params.fFresh ≤ s.localTime →
      exec (.siteAgeing slot) s = .next (s.setSite slot { x with state := .ageing })) ∧
    (x.state = .ageing → r.receiptTime + s.params.fStale ≤ s.localTime →
      exec (.siteAgeing slot) s = .next (
        if s.siteEligible x = true ∧ s.allocated slot = true
        then (s.setSite slot { x with state := .stale }).trigger else s.setSite slot { x with state := .stale })) ∧
    (∀ expiry, x.state = .suspect → x.suspectExpiry = some expiry → expiry ≤ s.localTime →
      exec (.suspectExpiry slot) s = .next (s.setSite slot { x with
        suspectExpiry := none
        state := if s.localTime - r.receiptTime < s.params.fFresh then .active
          else if s.localTime - r.receiptTime < s.params.fStale then .ageing else .stale }))

/-! ## The Time Base -/

/-- R42 to R46: a CLOCK_MARK sets, steps forward, holds or is refused, and HOLD_END resumes at the device time held once
the remainder is 0. A step forward delivers every event it crosses (R43, R47): afterwards no event is due at the mark,
and the gate marks, the ring and the obligations are those of the mark's window. What each event does is stated of
its own command. -/
def Obligations.ClockMarkSetsStepsOrHoldsUntilHoldEnd : Prop :=
  (∀ (s : State) (d : Nat), s.time.clock = .holding d 0 →
    exec .holdEnd s = .next { s with time := { s.time with clock := .running d } }) ∧
  ∀ (s : State) (f : Frame), s.gridHead .clockMark = some f → f.payload.length = 6 →
    let m := fieldAt f.payload 0 6
    let u := s.dropHead .grid
    (s.time.clock = .notSet → ∃ t : State, exec .clockMark s = .next t ∧ t.time.clock = .running m ∧
      (∀ p, t.time.gateMarks.get p = some ((m + (s.bank p).gateLead * 60000) / s.windowMs)) ∧
      t.book.ring = some (m / s.windowMs) ∧ (∀ p w, t.commitment p w = 0) ∧
      (∀ p, (t.mon p).current = { (s.mon p).current with window := some (m / s.windowMs) }) ∧
      t.activation = s.activation ∧ t.fleet = s.fleet ∧ t.products = s.products ∧ t.census = s.census ∧
      t.allocation = s.allocation ∧ t.params = s.params) ∧
    (∀ d, s.deviceTime = some d →
      (d < m → ∃ t : State, exec .clockMark s = .next t ∧ t.time.clock = .running m ∧
        t.time.localTime = s.time.localTime ∧ t.fleet = s.fleet ∧ t.params = s.params ∧
        (s.banksHeld → s.paramsHeld → t.nextEvent m = none ∧
          (∀ p g, s.time.gateMarks.get p = some g →
            let closed := (m + (t.bank p).gateLead * 60000) / s.windowMs
            (∃ h, t.time.gateMarks.get p = some h ∧ g ≤ h ∧ closed ≤ h) ∧
            ((s.products.get p).staged = false → t.time.gateMarks.get p = some (max g closed))) ∧
          (∀ k, s.time.boundaryMark = some k → s.book.ring = some k →
            t.time.boundaryMark = some (max k (m / s.windowMs)) ∧ t.book.ring = t.time.boundaryMark ∧
            (s.tablesHeld → ∀ p v, max k (m / s.windowMs) ≤ v → v ≤ k + 47 → t.commitment p v = s.commitment p v) ∧
            (k < m / s.windowMs → ∀ p, (t.act p).obligation = t.commitment p (m / s.windowMs) ∧
              (t.mon p).current.window = some (m / s.windowMs))))) ∧
      (d < m → s.nextEvent m = none →
        exec .clockMark s = .next { u with time := { u.time with clock := .running m } }) ∧
      (m = d → exec .clockMark s = .next { u with time := { u.time with clock := .running d } }) ∧
      (m < d → d - m ≤ s.windowMs →
        exec .clockMark s = .next { u with time := { u.time with clock := .holding d (d - m) } }) ∧
      (m < d → s.windowMs < d - m →
        exec .clockMark s = .next (u.post (.clockRejected m d
          (match s.time.clock with | .holding _ _ => true | .running _ => false | .notSet => false)))))

/-- R47, R97, R106 to R109, R120, R152: a WINDOW_BOUNDARY that is next moves the ring, sets every obligation to the
commitment of the new window, and closes every current window record into its history. A record moves as R106 to R108
state under the bank the boundary leaves active; a switch that changes the mode or disables the product has reset it
first, with the acknowledgement R120 gives. Acknowledgements wait in the ACK source while the arbiter does not choose.
One trigger is made when a target changed; a reset is an event of its own, so it may make one more. That an order of a
product both disabled and put in FREQUENCY mode is refused as of a disabled one is the model's choice (log entry 45). So
is that the Product Table takes the boundary before the Activation Unit (log entry 8): a record moves under the new bank,
and ENDED_AT_WINDOW carries the code of the bank the boundary leaves active. -/
def Obligations.BoundarySetsObligationsAndClosesRecords : Prop :=
  ∀ (w : Nat) (s : State), s.dueEvent = some (.boundary w) →
    ∃ t : State, exec (.windowBoundary w) s = .next t ∧ t.book.ring = some w ∧
      (∀ p, (t.act p).obligation = t.commitment p w ∧ (t.act p).target ≤ (t.act p).obligation) ∧
      (∀ base, s.book.ring = some base → base ≤ w → s.tablesHeld →
        ∀ p v, w ≤ v → v ≤ base + 47 → t.commitment p v = s.commitment p v) ∧
      (∀ (p : Product) (r : ActRecord) (b : Bank),
        (s.resetsAt p w → r = { state := .idle, obligation := 0, target := 0, currentId := none, order := none }) →
        (¬ s.resetsAt p w → r = s.act p) →
        (s.switchesAt p w → b = (s.products.get p).pendingBank) → (¬ s.switchesAt p w → b = s.bank p) →
        let o := t.commitment p w
        let follows := b.enabled = true ∧ b.mode = .frequency
        let silent (bound : Nat) := ∀ x, s.activation.sample = some x → bound ≤ s.localTime - x.time
        (follows → o = 0 → t.act p = { r with obligation := 0, target := 0, state := .idle } ∧
          (r.state = .lost → (t.mon p).freqLost = false)) ∧
        (follows → 0 < o → r.obligation = 0 → ∃ state : ActState,
          t.act p = { r with obligation := o, target := 0, state := state } ∧
          (silent (s.params.sampleTimeout + s.params.holdTime) →
            state = .lost ∧ (r.state ≠ .lost → (t.mon p).freqLost = true)) ∧
          (¬ silent (s.params.sampleTimeout + s.params.holdTime) → silent s.params.sampleTimeout → state = .holding) ∧
          (¬ silent (s.params.sampleTimeout + s.params.holdTime) → ¬ silent s.params.sampleTimeout →
            state = .active)) ∧
        (follows → 0 < o → 0 < r.obligation → t.act p = { r with obligation := o, target := min r.target o }) ∧
        (¬ follows → r.state = .active → o = 0 →
          t.act p = { r with
            obligation := 0, target := 0, currentId := none, state := if r.order.isSome then .pending else .idle } ∧
          ∀ id, r.currentId = some id → s.gridHolds = true → ∃ a : Ack, (some p, a) ∈ t.arbiter.ack ∧
            a = { code := b.code, id := id, outcome := .endedAtWindow, target := some 0, obligation := some 0,
                  time := none }) ∧
        (¬ follows → ¬ (r.state = .active ∧ o = 0) →
          t.act p = { r with obligation := o, target := min r.target o })) ∧
      (∀ p, s.resetsAt p w →
        let b := (s.products.get p).pendingBank
        t.time.effective.get p = none ∧
        ((s.act p).state = .lost → t.commitment p w = 0 → (t.mon p).freqLost = false) ∧
        (s.gridHolds = true →
          (∀ id, (s.act p).currentId = some id → (s.act p).order = none → ∃ a : Ack, (some p, a) ∈ t.arbiter.ack ∧
            a = { code := b.code, id := id, outcome := .endedAtWindow, target := some 0, obligation := some 0,
                  time := none }) ∧
          (∀ o, (s.act p).order = some o → ∃ a : Ack, (some p, a) ∈ t.arbiter.ack ∧
            a = { code := b.code, id := o.id,
                  outcome := if b.enabled = true then .refusedMode else .refusedUnknownProduct,
                  target := some 0, obligation := some 0, time := some o.time }))) ∧
      (∀ p, ¬ s.resetsAt p w → t.time.effective.get p = s.time.effective.get p) ∧
      (∀ changed : Prop, (changed ↔ ∃ p, (t.act p).target ≠ (s.act p).target) →
        ((∀ p, ¬ s.resetsAt p w) → s.TriggersOnce t changed) ∧
        (¬ changed → t.allocation = s.allocation) ∧
        (changed → s.allocation.pass.isSome = true → t.allocation = { s.allocation with passPending := true }) ∧
        (changed → t.allocation.pass.isSome = true)) ∧
      (∀ p, (t.mon p).current =
          { window := some w, measured := 0, deficient := 0, requested := 0, delivered := 0, alarm := false } ∧
        (t.mon p).history = ((s.mon p).current :: (s.mon p).history).take 4 ∧ (t.mon p).latch = (s.mon p).latch) ∧
      t.activation.sample = s.activation.sample ∧ t.activation.rejected = s.activation.rejected ∧
      t.time.clock = s.time.clock ∧ t.time.localTime = s.time.localTime ∧ t.fleet = s.fleet ∧ t.params = s.params ∧
      t.unknownSites = s.unknownSites

/-- R48, R95: a GATE_CLOSURE that is next raises the product's gate mark, and the DRAFT and QUEUED offers of the product and
window become LAPSED: their OFFER entries leave the source queue, a reservation of one is lost, and one OFFER_LAPSED
notice is posted for each. No other offer changes, but for one that the arbiter hands over meanwhile. That the notices
stand in book order is the model's choice (log entry 26): R95 and R193 give no order among them. -/
def Obligations.GateClosureLapsesOffers : Prop :=
  ∀ (p : Product) (w : Nat) (s : State), s.dueEvent = some (.gate p w) →
    let lapses (o : Offer) : Prop := o.product = p ∧ o.window = w ∧ (o.state = .draft ∨ o.state = .queued)
    let lapsing := s.book.offers.filter (fun o => decide (lapses o))
    ∃ t : State, exec (.gateClosure p w) s = .next t ∧ t.time.gateMarks.get p = some w ∧
      (∀ q, q ≠ p → t.time.gateMarks.get q = s.time.gateMarks.get q) ∧
      (∀ o ∈ t.book.offers, o.product = p → o.window = w → o.state ≠ .draft ∧ o.state ≠ .queued) ∧
      (s.bookHeld → ∀ o ∈ s.book.offers,
        (lapses o → { o with state := .lapsed } ∈ t.book.offers) ∧
        (¬ lapses o → o ∈ t.book.offers ∨ (o.state = .queued ∧ { o with state := .submitted } ∈ t.book.offers))) ∧
      (s.bookHeld → s.gridHolds = true →
        t.book.offers = s.book.offers.map (fun o => if lapses o then { o with state := .lapsed } else o) ∧
        t.arbiter = { s.arbiter with
          offers := s.arbiter.offers.filter (fun e => decide (∀ o ∈ lapsing, e ≠ .offer o.id)) } ∧
        t.book.reservation =
          (if ∃ o ∈ lapsing, s.book.reservation = some o.id then none else s.book.reservation) ∧
        t.links = s.links ∧
        (s.params.noticeMask.getLsbD 2 = true → s.management.notices.length + lapsing.length ≤ 32 →
          t.management = { s.management with
            notices := s.management.notices ++ lapsing.map (fun o => .offerLapsed o.id p w o.state) })) ∧
      t.book.offers.map Offer.terms = s.book.offers.map Offer.terms ∧
      t.time.clock = s.time.clock ∧ t.book.commitments = s.book.commitments ∧ t.book.ring = s.book.ring ∧
      t.fleet = s.fleet ∧ t.products = s.products ∧ t.census = s.census ∧ t.activation = s.activation ∧
      t.allocation = s.allocation ∧ t.monitor = s.monitor ∧ t.params = s.params

/-- R109, R113: an EFFECTIVE_TIME_ARRIVAL that is next and matches the pending order applies it as R112 states when the
obligation is above 0, and drops it otherwise. One trigger is made when the target changed. -/
def Obligations.ArrivalAppliesOrDropsTheOrder : Prop :=
  ∀ (p : Product) (time : Nat) (s : State) (o : PendingOrder), s.dueEvent = some (.arrival p time) →
    (s.act p).order = some o → o.time = time →
    let r := s.act p
    let target := min o.quantity r.obligation
    ∃ t : State, exec (.effectiveTimeArrival p time) s = .next t ∧ t.time.effective.get p = none ∧
      (0 < r.obligation → t.act p = { r with
        order := none
        target := target
        currentId := if target = 0 then none else some o.id
        state := if target = 0 then .idle else .active }) ∧
      (r.obligation = 0 → t.act p = { r with
        order := none
        state := if r.state = .pending then .idle else r.state }) ∧
      (∀ q, q ≠ p → t.act q = s.act q ∧ t.time.effective.get q = s.time.effective.get q) ∧
      s.TriggersOnce t ((t.act p).target ≠ r.target) ∧
      t.activation.sample = s.activation.sample ∧ t.time.clock = s.time.clock ∧ t.fleet = s.fleet ∧
      t.products = s.products ∧ t.census = s.census ∧ t.params = s.params

/-! ## The Offer Book -/

/-- R48, R56, R62, R95 to R97: what a WINDOW_BOUNDARY that is next does to the banks and the offers. A staged product
not barred is switched and a barred one keeps its banks; either way the mark is gone and STAGE_APPLIED is posted. A
longer lead closes the gates it reaches, and one census request follows the switches. The offers of both windows move;
the DRAFT and QUEUED offers of the gates just closed lapse. The clauses about single offers are for a moment at which
the arbiter hands nothing over. -/
def Obligations.BanksSwitchAndOffersMoveAtBoundaries : Prop :=
  ∀ (w : Nat) (s : State), s.dueEvent = some (.boundary w) →
    ∃ t : State, exec (.windowBoundary w) s = .next t ∧
      (∀ p, let c := s.products.get p
        let posted (n : Notice) : Prop := s.gridHolds = true → s.params.noticeMask.getLsbD 10 = true →
          t.management.noticeDiscarded = false → n ∈ t.management.notices
        (s.switchesAt p w →
          t.products.get p = { active := c.pendingBank, pendingBank := c.pendingBank, staged := false } ∧
          posted (.stageApplied true p w)) ∧
        (¬ s.switchesAt p w → t.products.get p = { c with staged := false }) ∧
        (c.staged = true → s.barredAt p w → posted (.stageApplied false p w)) ∧
        (∀ g d, s.time.gateMarks.get p = some g → s.deviceTime = some d →
          let longer := s.switchesAt p w ∧ c.pendingBank.gateLead ≠ c.active.gateLead
          (longer → t.time.gateMarks.get p = some (max g ((d + c.pendingBank.gateLead * 60000) / s.windowMs))) ∧
          (¬ longer → t.time.gateMarks.get p = some g))) ∧
      ((∀ p, ¬ s.switchesAt p w) → t.census = s.census) ∧
      ((∃ p, s.switchesAt p w) →
        (s.census.run = none → t.census = { s.census with
          run := some { kind := .full, banks := PerProduct.ofFn t.bank, caps := s.latchedCaps .full, nextSlot := 0,
                        sweep := [], swept := [] }
          banksSwitched := false
          timerExpiry := s.localTime + s.params.censusInterval * 1000
          timerBase := s.localTime }) ∧
        (s.census.run.isSome = true → t.census = { s.census with
          fullPending := true, selectPending := none, banksSwitched := true })) ∧
      (s.gridHolds = true → s.bookHeld →
        (∀ o ∈ s.book.offers,
          let lapses := (o.state = .draft ∨ o.state = .queued) ∧ ∃ g h, s.time.gateMarks.get o.product = some g ∧
            t.time.gateMarks.get o.product = some h ∧ g < o.window ∧ o.window ≤ h
          let expires := o.window = w ∧ (o.state = .submitted ∨ o.state = .withdrawing)
          (lapses → { o with state := .lapsed } ∈ t.book.offers) ∧
          (¬ lapses → { o with state :=
            if o.window = w ∧ (o.state = .accepted ∨ o.state = .partialAccepted) then .inDelivery
            else if o.window = w ∧ (o.state = .submitted ∨ o.state = .withdrawing) then .expired
            else if o.window + 1 = w ∧ o.state = .inDelivery then .closed
            else o.state } ∈ t.book.offers) ∧
          (expires → OfferEntry.withdraw o.id ∉ t.arbiter.offers ∧
            (s.params.noticeMask.getLsbD 1 = true → t.management.noticeDiscarded = false →
              .offerExpired o.id o.product w o.state ∈ t.management.notices)) ∧
          (s.book.reservation = some o.id →
            (o ∈ t.book.offers → t.book.reservation = some o.id) ∧
            (o ∉ t.book.offers → t.book.reservation = none))) ∧
        t.links = s.links) ∧
      t.book.offers.map Offer.terms = s.book.offers.map Offer.terms ∧
      t.book.ring = some w ∧ (∀ p v, ¬ (w ≤ v ∧ v ≤ w + 47) → t.commitment p v = 0) ∧
      (∀ base, s.book.ring = some base → base ≤ w → s.tablesHeld →
        (∀ p v, w ≤ v → v ≤ base + 47 → t.commitment p v = s.commitment p v) ∧
        ∀ p, (∀ e ∈ s.book.commitments.get p, e.1 ≤ base + 47) → ∀ v, base + 47 < v → t.commitment p v = 0) ∧
      t.book.lastId = s.book.lastId ∧ t.book.created = s.book.created

/-- R90 to R92: an OFFER_RESULT for a SUBMITTED or WITHDRAWING offer moves it to its outcome, and an acceptance adds its
accepted quantity to the commitment; for an EXPIRED offer it posts LATE_RESULT and changes nothing else; for an offer of
another state, or an id no record has, it is discarded. -/
def Obligations.ResultMovesTheOfferAndCommits : Prop :=
  ∀ (s : State) (f : Frame) (out : ResultOutcome), s.gridHead .offerResult = some f →
    f.payload.length = 9 → ResultOutcome.ofCode (fieldAt f.payload 2 1) = some out →
    let u := s.dropHead .grid
    let reported := fieldAt f.payload 3 4
    let reason := fieldAt f.payload 7 2
    (s.findOffer (fieldAt f.payload 0 2) = none → exec .offerResult s = .next u) ∧
    ∀ o : Offer, s.findOffer (fieldAt f.payload 0 2) = some o →
    (o.state ≠ .submitted → o.state ≠ .withdrawing → o.state ≠ .expired → exec .offerResult s = .next u) ∧
    (o.state = .expired → exec .offerResult s = .next (u.post (.lateResult o.id o.product o.window out reported))) ∧
    ((o.state = .submitted ∨ o.state = .withdrawing) → s.bookHeld → s.tablesHeld →
    let late := some (decide (o.state = .withdrawing))
    let accepts (t : State) (q : Nat) : Prop :=
      ∀ base, s.book.ring = some base → base ≤ o.window → o.window ≤ base + 47 →
        ∀ p w, t.commitment p w =
          (if p = o.product ∧ w = o.window then s.commitment p w + q else s.commitment p w)
    ∃ t : State, exec .offerResult s = .next t ∧
      (out = .accepted → accepts t o.quantity ∧ t.findOffer o.id =
        some { o with state := .accepted, accepted := some o.quantity, withdrawLate := late }) ∧
      (out = .partialAccepted → 0 < reported → accepts t (min reported o.quantity) ∧ t.findOffer o.id =
        some { o with state := .partialAccepted, accepted := some (min reported o.quantity), withdrawLate := late }) ∧
      (out = .rejected ∨ (out = .partialAccepted ∧ reported = 0) →
        t.book.commitments = s.book.commitments ∧
        t.findOffer o.id = some { o with state := .rejected, reason := some reason }) ∧
      (out = .withdrawn → t.book.commitments = s.book.commitments ∧
        t.findOffer o.id = some { o with state := .withdrawn }) ∧
      (s.gridHolds = true → (∀ id, id ≠ o.id → t.findOffer id = s.findOffer id) ∧
        t.arbiter.offers = s.arbiter.offers.filter (fun e => decide (e ≠ .withdraw o.id)) ∧
        t.book.reservation = (if s.book.reservation = some o.id then none else s.book.reservation)) ∧
      t.fleet = s.fleet ∧ t.time = s.time ∧ t.products = s.products ∧ t.census = s.census ∧
      t.activation = s.activation ∧ t.allocation = s.allocation ∧ t.monitor = s.monitor ∧ t.params = s.params)

/-- R81, R83: CREATE_OFFER is judged check by check, and makes a DRAFT record with a new id when every check passes. -/
def Obligations.CreateOfferIsJudgedInOrder : Prop :=
  ∀ (s : State) (r : PendingRequest), s.nextOf 14 = some r → r.payload.length = 17 →
    let u := s.takeRequest
    let w := fieldAt r.payload 2 6
    let q := fieldAt r.payload 9 4
    let refused (e : Reason) : Prop := exec .createOffer s = .next (u.respond r (some e) [])
    (7 < fieldAt r.payload 1 1 ∨ 1 < fieldAt r.payload 8 1 → refused .badField) ∧
    (∀ (p : Product) (mode : OfferMode), p.val = fieldAt r.payload 1 1 → mode.code = fieldAt r.payload 8 1 →
      let b := s.bank p
      let termsHold : Prop :=
        match mode with
        | .fixed => 0 < q ∧ q % b.increment = 0 ∧ b.minBid ≤ q ∧ q ≤ b.maxBid
        | .follow => q ≤ 100000000
      (s.deviceTime = none → refused .noTime) ∧
      (∀ d, s.deviceTime = some d →
        let inRing := d / s.windowMs + 1 ≤ w ∧ w ≤ d / s.windowMs + 47
        (b.enabled = false → refused .wrongState) ∧
        (b.enabled = true → ¬ inRing → refused .badField) ∧
        (b.enabled = true → inRing → ¬ termsHold → refused .badField) ∧
        (b.enabled = true → inRing → termsHold → s.gateClosed p w = true → refused .gateClosed) ∧
        (b.enabled = true → inRing → termsHold → s.gateClosed p w = false → 8 ≤ s.liveOffers p w →
          refused .ladderFull) ∧
        (b.enabled = true → inRing → termsHold → s.gateClosed p w = false → s.liveOffers p w < 8 →
          512 ≤ s.book.offers.length → refused .bookFull) ∧
        (b.enabled = true → inRing → termsHold → s.gateClosed p w = false → s.liveOffers p w < 8 →
          s.book.offers.length < 512 →
          let o : Offer := { id := s.newId, order := (s.book.created + 1) % 4294967296, product := p, window := w,
                             mode := mode, quantity := q, price := signedAt r.payload 13 4, state := .draft,
                             accepted := none, reason := none, withdrawLate := none }
          s.findOffer o.id = none ∧
          exec .createOffer s = .next ((u.addOffer o).respond r none
            (octetsOf 2 o.id ++ octetsOf 2 ((u.addOffer o).positionOf o.id))))))

/-- R84, R93, R98: UPDATE_OFFER, WITHDRAW_OFFER and RETIRE_OFFERS. -/
def Obligations.OffersAreUpdatedWithdrawnAndRetired : Prop :=
  (∀ (s : State) (r : PendingRequest), s.nextOf 15 = some r → r.payload.length = 12 →
    let u := s.takeRequest
    let q := fieldAt r.payload 3 4
    let refused (e : Reason) : Prop := exec .updateOffer s = .next (u.respond r (some e) [])
    (s.findOffer (fieldAt r.payload 1 2) = none → refused .noSuchRecord) ∧
    (∀ o, s.findOffer (fieldAt r.payload 1 2) = some o →
      let b := s.bank o.product
      (o.state ≠ .draft → refused .wrongState) ∧
      (o.state = .draft → 1 < fieldAt r.payload 11 1 → refused .badField) ∧
      (∀ mode : OfferMode, o.state = .draft → mode.code = fieldAt r.payload 11 1 →
        let termsHold : Prop :=
          match mode with
          | .fixed => 0 < q ∧ q % b.increment = 0 ∧ b.minBid ≤ q ∧ q ≤ b.maxBid
          | .follow => q ≤ 100000000
        (¬ termsHold → refused .badField) ∧
        (termsHold → exec .updateOffer s = .next (((u.mapOffer o.id (fun x =>
          { x with mode := mode, quantity := q, price := signedAt r.payload 7 4 })).clearReservation o.id).respond r
            none []))))) ∧
  (∀ (s : State) (r : PendingRequest), s.nextOf 17 = some r → r.payload.length = 3 →
    let u := s.takeRequest
    (s.findOffer (fieldAt r.payload 1 2) = none →
      exec .withdrawOffer s = .next (u.respond r (some .noSuchRecord) [])) ∧
    (∀ o, s.findOffer (fieldAt r.payload 1 2) = some o →
      (o.state = .draft →
        exec .withdrawOffer s = .next (((u.deleteOffer o.id).clearReservation o.id).respond r none [])) ∧
      (o.state = .queued →
        exec .withdrawOffer s = .next ((((u.deleteOffer o.id).clearReservation o.id).removeOfferEntry
          (.offer o.id)).respond r none [])) ∧
      (o.state = .submitted →
        exec .withdrawOffer s = .next ((((u.mapOffer o.id (fun x => { x with state := .withdrawing })).clearReservation
          o.id).placeOfferEntry (.withdraw o.id)).respond r none [])) ∧
      (o.state ≠ .draft → o.state ≠ .queued → o.state ≠ .submitted →
        exec .withdrawOffer s = .next (u.respond r (some .wrongState) [])))) ∧
  (∀ (s : State) (r : PendingRequest), s.nextOf 18 = some r → r.payload.length = 14 →
    let u := s.takeRequest
    let all := fieldAt r.payload 1 1
    let first := fieldAt r.payload 2 6
    let last := fieldAt r.payload 8 6
    let gone (o : Offer) : Bool := o.state.terminal && (decide (all = 1) || (decide (first ≤ o.window) && decide (o.window ≤ last)))
    (1 < all ∨ (all = 0 ∧ last < first) → exec .retireOffers s = .next (u.respond r (some .badField) [])) ∧
    (all = 1 ∨ (all = 0 ∧ first ≤ last) → ∃ t : State,
      exec .retireOffers s = .next (t.respond r none (octetsOf 2 (s.book.offers.filter gone).length)) ∧
      t = { u with book := { u.book with
        offers := s.book.offers.filter (fun o => !(gone o)), reservation := t.book.reservation } } ∧
      (∀ id, s.book.reservation = some id → t.book.reservation =
        (if ∃ o ∈ s.book.offers, o.id = id ∧ gone o = true then none else some id)) ∧
      (s.book.reservation = none → t.book.reservation = none)))

/-- R85 to R87: SUBMIT_OFFER is judged check by check; a submission that passes makes the offer QUEUED at the quantity the
guard gives. -/
def Obligations.SubmitOfferIsJudgedInOrder : Prop :=
  ∀ (s : State) (r : PendingRequest), s.nextOf 16 = some r → r.payload.length = 3 →
    let u := s.takeRequest
    let refused (e : Reason) : Prop := exec .submitOffer s = .next (u.respond r (some e) [])
    (s.findOffer (fieldAt r.payload 1 2) = none → refused .noSuchRecord) ∧
    (∀ o, s.findOffer (fieldAt r.payload 1 2) = some o →
      let b := s.bank o.product
      let held := s.outstanding o.product o.window
      let fixedHolds := o.mode = .fixed →
        0 < o.quantity ∧ o.quantity % b.increment = 0 ∧ b.minBid ≤ o.quantity ∧ o.quantity ≤ b.maxBid
      (o.state ≠ .draft → refused .wrongState) ∧
      (o.state = .draft → s.deviceTime = none → refused .noTime) ∧
      (o.state = .draft → s.deviceTime.isSome = true → b.enabled = false → refused .wrongState) ∧
      (o.state = .draft → s.deviceTime.isSome = true → b.enabled = true → s.census.published = none →
        refused .noCensus) ∧
      (∀ x, o.state = .draft → s.deviceTime.isSome = true → b.enabled = true → s.census.published = some x →
        let offerable := (x.snapshot.products.get o.product).offerable
        let ceiling := if o.quantity = 0 then b.maxBid else min o.quantity b.maxBid
        let sized := min ceiling (offerable - held) / b.increment * b.increment
        (s.gateClosed o.product o.window = true → refused .gateClosed) ∧
        (s.gateClosed o.product o.window = false → ¬ fixedHolds → refused .badField) ∧
        (s.gateClosed o.product o.window = false → fixedHolds →
          (o.mode = .fixed → offerable < held + o.quantity → refused .overCapacity) ∧
          (o.mode = .follow → sized = 0 ∨ sized < b.minBid → refused .overCapacity) ∧
          (∀ q, (o.mode = .fixed ∧ held + o.quantity ≤ offerable ∧ q = o.quantity) ∨
              (o.mode = .follow ∧ sized ≠ 0 ∧ b.minBid ≤ sized ∧ q = sized) →
            exec .submitOffer s = .next ((((u.mapOffer o.id (fun y =>
              { y with state := .queued, quantity := q })).clearReservation o.id).placeOfferEntry
              (.offer o.id)).respond r none (octetsOf 4 q))))))

/-- R86, R87: the outstanding quantity after a successful submission is at or below the Snapshot's offerable quantity. -/
def Obligations.SubmissionStaysWithinTheOfferable : Prop :=
  ∀ (s : State) (o : Offer) (x : Publication) (q : Nat), s.bookHeld → s.findOffer o.id = some o → o.state = .draft →
    s.census.published = some x → s.judgeSubmission o = .ok q →
    (s.queueOffer o.id q).outstanding o.product o.window ≤ (x.snapshot.products.get o.product).offerable

/-- R100, R101: READ_OFFER_RESERVED sets the reservation, and UPDATE_OFFER_CONDITIONAL acts only on the DRAFT record it
holds and clears it whatever the outcome. That a submit-after octet above 1, which R198 does not list, is BAD_FIELD after
NOT_RESERVED and with nothing updated is the model's choice (log entry 15). -/
def Obligations.ReservationGuardsTheConditionalUpdate : Prop :=
  (∀ (s : State) (r : PendingRequest), s.nextOf 19 = some r → r.payload.length = 3 →
    let u := s.takeRequest
    (s.findOffer (fieldAt r.payload 1 2) = none →
      exec .readOfferReserved s = .next
        ({ u with book := { u.book with reservation := none } }.respond r (some .noSuchRecord) [])) ∧
    (∀ o, s.findOffer (fieldAt r.payload 1 2) = some o →
      exec .readOfferReserved s = .next
        ({ u with book := { u.book with reservation := some o.id } }.respond r none
          (o.octets (s.positionOf o.id))))) ∧
  (∀ (s : State) (r : PendingRequest), s.nextOf 20 = some r → r.payload.length = 13 →
    let u := s.takeRequest
    let id := fieldAt r.payload 1 2
    let q := fieldAt r.payload 3 4
    let freed : State := { u with book := { u.book with reservation := none } }
    ((s.book.reservation ≠ some id ∨ ¬ ∃ o, s.findOffer id = some o ∧ o.state = .draft) →
      exec .updateOfferConditional s = .next (freed.respond r (some .notReserved) [0, 0, 0, 0, 0])) ∧
    (∀ o, s.book.reservation = some id → s.findOffer id = some o → o.state = .draft →
      let b := s.bank o.product
      (1 < fieldAt r.payload 11 1 ∨ 1 < fieldAt r.payload 12 1 →
        exec .updateOfferConditional s = .next (freed.respond r (some .badField) [0, 0, 0, 0, 0])) ∧
      (∀ mode : OfferMode, mode.code = fieldAt r.payload 11 1 → fieldAt r.payload 12 1 ≤ 1 →
        let termsHold : Prop :=
          match mode with
          | .fixed => 0 < q ∧ q % b.increment = 0 ∧ b.minBid ≤ q ∧ q ≤ b.maxBid
          | .follow => q ≤ 100000000
        let y := { o with mode := mode, quantity := q, price := signedAt r.payload 7 4 }
        let t := freed.mapOffer o.id (fun _ => y)
        (¬ termsHold →
          exec .updateOfferConditional s = .next (freed.respond r (some .badField) [0, 0, 0, 0, 0])) ∧
        (termsHold → fieldAt r.payload 12 1 = 0 →
          exec .updateOfferConditional s = .next (t.respond r none [1, 0, 0, 0, 0])) ∧
        (∀ e, termsHold → fieldAt r.payload 12 1 = 1 → t.judgeSubmission y = .error e →
          exec .updateOfferConditional s = .next (t.respond r (some e) [1, 0, 0, 0, 0])) ∧
        (∀ n, termsHold → fieldAt r.payload 12 1 = 1 → t.judgeSubmission y = .ok n →
          exec .updateOfferConditional s = .next
            ((t.queueOffer o.id n).respond r none ([1] ++ octetsOf 4 n))))))

/-! ## Activation -/

/-- R109 to R113: an ACTIVATION_ORDER is judged check by check, refused without a change of any record, applied at once, or
made pending; its acknowledgement waits in the ACK source while the arbiter does not choose, and one trigger is made
when the target changed. -/
def Obligations.OrderIsRefusedAppliedOrMadePending : Prop :=
  ∀ (s : State) (f : Frame), s.gridHead .activationOrder = some f → f.payload.length = 16 →
    let code := fieldAt f.payload 0 2
    let id := fieldAt f.payload 2 4
    let quantity := fieldAt f.payload 6 4
    let time := fieldAt f.payload 10 6
    let acked (t : State) (place : Option Product) (outcome : AckOutcome) : Prop :=
      s.gridHolds = true → ∃ a : Ack, (place, a) ∈ t.arbiter.ack ∧ a.id = id ∧ a.outcome = outcome ∧
        a.time = some time ∧ (∀ p, place = some p → a.target = some (t.act p).target ∧
          a.obligation = some (t.act p).obligation ∧ a.code = (s.bank p).code)
    ∃ t : State, exec .activationOrder s = .next t ∧ t.fleet = s.fleet ∧ t.products = s.products ∧
      t.census = s.census ∧ t.time.clock = s.time.clock ∧ t.params = s.params ∧
      t.activation.sample = s.activation.sample ∧ s.TriggersOnce t (∃ p, (t.act p).target ≠ (s.act p).target) ∧
      (s.productWithCode code = none → t.activation = s.activation ∧ t.time = s.time ∧
        acked t none .refusedUnknownProduct) ∧
      (∀ p, s.productWithCode code = some p →
        let r := s.act p
        let target := min quantity r.obligation
        let outcome := if quantity ≤ r.obligation then AckOutcome.accepted else AckOutcome.clamped
        let due := time = 0 ∨ ∃ d, s.deviceTime = some d ∧ time ≤ d
        (∀ q, q ≠ p → t.act q = s.act q) ∧
        ((s.bank p).mode = .frequency → t.activation = s.activation ∧ t.time = s.time ∧
          acked t (some p) .refusedMode) ∧
        ((s.bank p).mode = .signalled → r.obligation = 0 → t.activation = s.activation ∧ t.time = s.time ∧
          acked t (some p) .refusedNoObligation) ∧
        ((s.bank p).mode = .signalled → 0 < r.obligation → due → t.time = s.time ∧ acked t (some p) outcome ∧
          t.act p = { r with
            target := target
            currentId := if target = 0 then none else some id
            state := if target ≠ 0 then .active else if r.order.isSome then .pending else .idle }) ∧
        ((s.bank p).mode = .signalled → 0 < r.obligation → ¬ due → t.time.effective.get p = some time ∧
          acked t (some p) outcome ∧
          t.act p = { r with
            order := some { id := id, quantity := quantity, time := time }
            state := if r.state = .active then .active else .pending }))

/-- R109, R114: an ACTIVATION_END for the current or the pending activation of a signalled product ends both, with one
trigger when the target changed; another is refused and changes no record. -/
def Obligations.EndStopsTheActivationItNames : Prop :=
  ∀ (s : State) (f : Frame), s.gridHead .activationEnd = some f → f.payload.length = 6 →
    let code := fieldAt f.payload 0 2
    let id := fieldAt f.payload 2 4
    ∃ t : State, exec .activationEnd s = .next t ∧ t.fleet = s.fleet ∧ t.products = s.products ∧
      t.census = s.census ∧ t.time.clock = s.time.clock ∧ t.params = s.params ∧
      t.activation.sample = s.activation.sample ∧ s.TriggersOnce t (∃ p, (t.act p).target ≠ (s.act p).target) ∧
      (s.productWithCode code = none → t.activation = s.activation ∧ t.time = s.time) ∧
      (∀ p, s.productWithCode code = some p →
        let r := s.act p
        let names := r.currentId = some id ∨ ∃ o, r.order = some o ∧ o.id = id
        (∀ q, q ≠ p → t.act q = s.act q) ∧
        ((s.bank p).mode = .frequency ∨ ¬ names → t.activation = s.activation ∧ t.time = s.time) ∧
        ((s.bank p).mode = .signalled → names → t.time.effective.get p = none ∧
          t.act p = { state := .idle, obligation := r.obligation, target := 0, currentId := none, order := none } ∧
          (s.gridHolds = true → ∃ a : Ack, (some p, a) ∈ t.arbiter.ack ∧ a.id = id ∧ a.outcome = .ended ∧
            a.target = some 0 ∧ a.obligation = some r.obligation)))

/-- R109, R116, R117: a valid FREQ_SAMPLE sets the sample fields and the target of every record that follows frequency,
with one trigger when some target changed; an invalid one raises the rejected-sample count alone. -/
def Obligations.FrequencySampleSetsTargets : Prop :=
  ∀ (s : State) (f : Frame) (rest : List Frame), s.links.meter.buffer = f :: rest →
    let u := s.dropHead .meter
    let number := fieldAt f.payload 0 4
    let frequency := fieldAt f.payload 4 4
    let valid := s.params.nominal ≤ frequency + 5000 ∧ frequency ≤ s.params.nominal + 5000 ∧
      ∀ x, s.activation.sample = some x → x.number < number
    (f.payload.length ≠ 8 → exec .freqSample s = .next (u.reportClass .meter .payload f.flagged)) ∧
    (f.payload.length = 8 → ¬ valid → exec .freqSample s = .next { u with activation := { u.activation with
      rejected := if s.activation.rejected < 65535 then s.activation.rejected + 1 else s.activation.rejected } }) ∧
    (f.payload.length = 8 → valid → ∃ t : State, exec .freqSample s = .next t ∧
      t.activation.sample = some { number := number, time := s.localTime } ∧
      t.activation.rejected = s.activation.rejected ∧
      (∀ p : Product,
        let b := s.bank p
        let o := (s.act p).obligation
        let x : Int := match b.direction with
          | .up => (s.params.nominal : Int) - frequency
          | .down => (frequency : Int) - s.params.nominal
        let raw : Int :=
          if x ≤ b.deadband then 0
          else if (b.fullDeviation : Int) ≤ x then o
          else (o * (x - b.deadband)) / (b.fullDeviation - b.deadband)
        let old : Int := (s.act p).target
        (b.enabled = true → b.mode = .frequency → 0 < o →
          (t.act p).state = .active ∧
          ((t.act p).target : Int) =
            (if (b.stepThreshold : Int) ≤ |raw - old| ∨ raw = 0 ∨ raw = o then raw else old) ∧
          (t.act p).obligation = o ∧ (t.act p).currentId = (s.act p).currentId ∧
          (t.act p).order = (s.act p).order) ∧
        (b.enabled = false ∨ b.mode = .signalled ∨ o = 0 → t.act p = s.act p)) ∧
      s.TriggersOnce t (∃ p, (t.act p).target ≠ (s.act p).target) ∧
      t.time = s.time ∧ t.fleet = s.fleet ∧ t.products = s.products ∧ t.census = s.census ∧ t.params = s.params)

/-- R109, R118: at the sample timeout the ACTIVE records that follow frequency hold their targets; at the sample timeout
plus the hold time the HOLDING ones are LOST with target 0, with one trigger when some target changed. -/
def Obligations.SilenceHoldsAndThenLosesTheRecords : Prop :=
  ∀ (s : State) (bound : Nat), (∀ x, s.activation.sample = some x → bound ≤ s.localTime - x.time) →
    (bound = s.params.sampleTimeout → ∃ t : State, exec .sampleTimeout s = .next t ∧
      (∀ p, t.act p =
        (if (s.bank p).enabled = true ∧ (s.bank p).mode = .frequency ∧ 0 < (s.act p).obligation ∧
            (s.act p).state = .active
         then { s.act p with state := .holding } else s.act p)) ∧ t.allocation = s.allocation ∧
      t.activation.sample = s.activation.sample ∧ t.time = s.time ∧ t.fleet = s.fleet ∧ t.products = s.products ∧
      t.census = s.census ∧ t.params = s.params) ∧
    (bound = s.params.sampleTimeout + s.params.holdTime → ∃ t : State, exec .sampleLoss s = .next t ∧
      (∀ p, let loses := (s.bank p).enabled = true ∧ (s.bank p).mode = .frequency ∧ 0 < (s.act p).obligation ∧
          (s.act p).state = .holding
        (loses → t.act p = { s.act p with state := .lost, target := 0 } ∧ (t.mon p).freqLost = true) ∧
        (¬ loses → t.act p = s.act p)) ∧
      s.TriggersOnce t (∃ p, (t.act p).target ≠ (s.act p).target) ∧
      t.activation.sample = s.activation.sample ∧ t.time = s.time ∧ t.fleet = s.fleet ∧ t.products = s.products ∧
      t.census = s.census ∧ t.params = s.params)

/-! ## The census -/

/-- R62 to R66: CENSUS_INTERVAL_EXPIRY and REQUEST_CENSUS start a run while the census state is IDLE, and are recorded in the
pending flags by R64's table while it is RUNNING. The first clause says which caps a run latches (R66). -/
def Obligations.CensusRequestsStartOrPend : Prop :=
  let started (u : State) (k : CensusKind) : State := { u with census := { u.census with
    run := some { kind := k, banks := PerProduct.ofFn u.bank, caps := u.latchedCaps k, nextSlot := 0, sweep := [],
                  swept := [] }
    banksSwitched := if k = .full then false else u.census.banksSwitched
    timerExpiry := if k = .full then u.localTime + u.params.censusInterval * 1000 else u.census.timerExpiry
    timerBase := if k = .full then u.localTime else u.census.timerBase } }
  (∀ (s : State) (f : Nat),
    let held (g : Nat) : Caps := ⟨(s.feeder g).capUp, (s.feeder g).capDown⟩
    (f < 64 → Table.readOr (s.latchedCaps .full) Caps.zero f = held f) ∧
    (∀ x, s.census.published = some x → Table.wfOr x.roster.feeders FeederRecord.zero = true →
      Table.readOr (s.latchedCaps (.select f)) Caps.zero f = held f ∧
      ∀ g, g ≠ f → Table.readOr (s.latchedCaps (.select f)) Caps.zero g =
        (Table.readOr x.roster.feeders FeederRecord.zero g).caps)) ∧
  (∀ s : State, s.census.timerExpiry ≤ s.localTime →
    (s.census.run = none → exec .censusIntervalExpiry s = .next (started s .full)) ∧
    (s.census.run.isSome = true → exec .censusIntervalExpiry s = .next { s with census := { s.census with
      fullPending := true, selectPending := none
      timerExpiry := s.localTime + s.params.censusInterval * 1000 } })) ∧
  (∀ (s : State) (r : PendingRequest), s.nextOf 21 = some r → r.payload.length = 3 →
    let u := s.takeRequest
    let present := fieldAt r.payload 1 1
    let f := fieldAt r.payload 2 1
    (1 < present ∨ (present = 1 ∧ 63 < f) →
      exec .requestCensus s = .next (u.respond r (some .badField) [])) ∧
    (present = 0 → s.census.run = none → exec .requestCensus s = .next ((started u .full).respond r none [1])) ∧
    (present = 0 → s.census.run.isSome = true → exec .requestCensus s = .next
      ({ u with census := { u.census with fullPending := true, selectPending := none } }.respond r none [3])) ∧
    (present = 1 → f ≤ 63 → s.census.run = none →
      (s.census.published = none ∨ s.census.banksSwitched = true →
        exec .requestCensus s = .next ((started u .full).respond r none [1])) ∧
      (s.census.published.isSome = true → s.census.banksSwitched = false →
        exec .requestCensus s = .next ((started u (.select f)).respond r none [2]))) ∧
    (present = 1 → f ≤ 63 → s.census.run.isSome = true →
      (s.census.fullPending = true → exec .requestCensus s = .next (u.respond r none [5])) ∧
      (s.census.fullPending = false → s.census.selectPending = none → exec .requestCensus s = .next
        ({ u with census := { u.census with selectPending := some f } }.respond r none [4])) ∧
      (s.census.fullPending = false → s.census.selectPending = some f →
        exec .requestCensus s = .next (u.respond r none [4])) ∧
      (∀ g, s.census.fullPending = false → s.census.selectPending = some g → g ≠ f →
        exec .requestCensus s = .next
          ({ u with census := { u.census with fullPending := true, selectPending := none } }.respond r none [3]))))

/-- R67, R69, R70: CENSUS_SLOT_READ reads the next slot: an eligible site of the run's kind yields one sweep record with the
headroom and budget of R69 and the shares of R70, any other slot none. Each product draws on what the products before
it in capacity-priority order left in its direction, and its contribution is derated by the report's age. The slot
counts as swept (R72) in a full census always, and in a select census when its site's feeder field names the feeder
(a VACANT slot names none: log entry 20). -/
def Obligations.SlotReadMakesOneSweepRecord : Prop :=
  ∀ (s : State) (run : CensusRun), s.census.run = some run → run.nextSlot < 4096 →
    let sweeps : Bool := match run.kind with
      | .full => true
      | .select f => (s.siteAt run.nextSlot).any (fun x => decide (x.static.feeder = f))
    let after (l : List SweepRecord) : State := { s with census := { s.census with
      run := some { run with
        nextSlot := run.nextSlot + 1
        sweep := run.sweep ++ l
        swept := if sweeps then run.swept ++ [run.nextSlot] else run.swept } } }
    let counted (x : Site) : Prop := s.siteEligible x = true ∧
      match run.kind with
      | .full => True
      | .select f => x.static.feeder = f
    (s.siteAt run.nextSlot = none → exec .censusSlotRead s = .next (after [])) ∧
    (∀ x, s.siteAt run.nextSlot = some x → ¬ counted x → exec .censusSlotRead s = .next (after [])) ∧
    (∀ (x : Site) (r : ReportFields), s.siteAt run.nextSlot = some x → x.report = some r → counted x →
      let base := r.pNow - r.appliedOffset
      ∃ c : SweepRecord, exec .censusSlotRead s = .next (after [c]) ∧ c.slot = run.nextSlot ∧
        c.siteNumber = x.static.siteNumber ∧ c.feeder = x.static.feeder ∧
        (c.headroomUp : Int) = max 0 ((min x.static.dischargeRating r.dischargeAvail : Nat) - base) ∧
        (c.headroomDown : Int) = max 0 ((min x.static.chargeRating r.chargeAvail : Nat) + base) ∧
        (c.budgetUp : Int) = max 0 ((r.eStored : Int) - (min x.static.eFloor r.eUsable : Nat)) ∧
        (c.budgetDown : Int) = max 0 ((min x.static.eCeil r.eUsable : Nat) - (r.eStored : Int)) ∧
        (∀ p : Product, (run.banks.get p).enabled = false ∨ x.static.participation.getLsbD p.val = false →
          c.shares.get p = 0) ∧
        (∀ p : Product, (run.banks.get p).enabled = true → x.static.participation.getLsbD p.val = true →
          let b := run.banks.get p
          let before := allProducts.filter (fun q => (run.banks.get q).enabled && x.static.participation.getLsbD q.val &&
            decide ((run.banks.get q).direction = b.direction) &&
            (decide ((run.banks.get q).priority < b.priority) ||
              (decide ((run.banks.get q).priority = b.priority) && decide (q < p))))
          let energy (q : Product) : Nat := (c.shares.get q * (run.banks.get q).endurance + 3599) / 3600
          let headroom := (match b.direction with | .up => c.headroomUp | .down => c.headroomDown) -
            sumOf before c.shares.get
          let budget := (match b.direction with | .up => c.budgetUp | .down => c.budgetDown) - sumOf before energy
          let raw := min headroom (budget * 3600 / b.endurance)
          let age := s.localTime - r.receiptTime
          c.shares.get p = (if age ≤ s.params.fFresh then raw
            else raw * (s.params.fStale - age) / (s.params.fStale - s.params.fFresh))))

/-- R70: at each site and direction, the shares the census draws sum to at most the headroom read, and their energies
over each product's endurance, rounded up, to at most the budget read. -/
def Obligations.SharesStayWithinHeadroomAndBudget : Prop :=
  ∀ (s : State) (run : CensusRun) (slot : Nat) (x : Site) (r : ReportFields),
    let c := s.sweepRecord run slot x r
    let along (d : Direction) := allProducts.filter (fun p => decide ((run.banks.get p).direction = d))
    let energy (p : Product) : Nat := (c.shares.get p * (run.banks.get p).endurance + 3599) / 3600
    sumOf (along .up) c.shares.get ≤ c.headroomUp ∧ sumOf (along .down) c.shares.get ≤ c.headroomDown ∧
    sumOf (along .up) energy ≤ c.budgetUp ∧ sumOf (along .down) energy ≤ c.budgetDown

/-- R71: clipping a feeder scales its sites' shares, product after product in capacity-priority order, to what the
products before left of the cap the run latched in that direction; so over the products of one direction the shares
stay within that cap, and no share rises. The feeder's record holds that cap, the totals and the clipped indications. -/
def Obligations.ClippedSharesStayWithinTheCaps : Prop :=
  ∀ (run : CensusRun) (f : Nat),
    let sites := (clipFeeder run f).1
    let record := (clipFeeder run f).2
    let counted := run.sweep.filter (fun x => decide (x.feeder = f))
    let caps := Table.readOr run.caps Caps.zero f
    let capOf (d : Direction) : Nat := match d with | .up => caps.up | .down => caps.down
    let along (d : Direction) :=
      allProducts.filter (fun p => (run.banks.get p).enabled && decide ((run.banks.get p).direction = d))
    record.caps = caps ∧
    (∀ d, sumOf (along d) (fun p => sumOf sites (fun x => x.shares.get p)) ≤ capOf d) ∧
    (∀ d, ∀ p ∈ along d,
      let before := (along d).filter (fun q =>
        decide ((run.banks.get q).priority < (run.banks.get p).priority) ||
          (decide ((run.banks.get q).priority = (run.banks.get p).priority) && decide (q < p)))
      let remaining := capOf d - sumOf before record.totals.get
      let total := sumOf counted (fun x => x.shares.get p)
      record.totals.get p = sumOf sites (fun x => x.shares.get p) ∧
      record.clipped.get p = decide (remaining < total) ∧
      List.Forall₂ (fun x y : SweepRecord => x.shares.get p =
        (if total ≤ remaining then y.shares.get p else y.shares.get p * remaining / total)) sites counted) ∧
    (∀ p, (run.banks.get p).enabled = false → record.totals.get p = 0 ∧ record.clipped.get p = false) ∧
    List.Forall₂ (fun x y : SweepRecord => x.slot = y.slot ∧ x.siteNumber = y.siteNumber ∧
      ∀ p, x.shares.get p ≤ y.shares.get p) sites counted

/-- R73, whole: a product's Snapshot figures from the Roster's feeder records and entries. -/
def Obligations.SnapshotFiguresFollowTheRoster : Prop :=
  ∀ (banks : PerProduct Bank) (r : Roster) (p : Product), (banks.get p).inRange = true →
    Table.wf r.feeders = true → (∀ e ∈ r.feeders, e.1 < 64) →
    let b := banks.get p
    let x := snapshotProduct banks r p
    let record (f : Nat) := Table.readOr r.feeders FeederRecord.zero f
    let margined := x.available * (1000 - b.margin) / 1000
    let rounded := margined / b.increment * b.increment
    (b.enabled = true →
      x.available = sumOf (List.range 64) (fun f => (record f).totals.get p) ∧
      x.offerable = (if rounded < b.minBid then 0 else if b.maxBid < rounded then b.maxBid else rounded) ∧
      x.contributing = (r.entries.filter (fun e => decide (0 < e.2.shares.get p))).length ∧
      x.clippedFeeders = ((List.range 64).filter (fun f => (record f).clipped.get p)).length) ∧
    (b.enabled = false → x.available = 0 ∧ x.offerable = 0 ∧ x.contributing = 0 ∧ x.clippedFeeders = 0) ∧
    x.offerable % b.increment = 0 ∧ (x.offerable = 0 ∨ (b.minBid ≤ x.offerable ∧ x.offerable ≤ b.maxBid)) ∧
    x.offerable ≤ x.available

/-- R64, R66, R71, R72, R74, R75: CENSUS_PUBLISH replaces the Snapshot and the Roster together under the next census number,
triggers a pass, and starts the pending run, which latches the banks and caps as they then stand, or leaves the census
state IDLE. A full census publishes every feeder's clipped records. A select census merges by R72: the entries of its
feeder and of every slot it swept leave the Roster, the latter with their shares taken from the totals of their own
feeders, and its feeder's record and entries are replaced. -/
def Obligations.PublicationReplacesBothAndStartsThePendingRun : Prop :=
  ∀ (s : State) (run : CensusRun), s.census.run = some run → 4096 ≤ run.nextSlot →
    let number := (s.census.counter + 1) % 4294967296
    let made (f : Nat) (slot : Nat) (e : RosterEntry) : Prop := ∃ y ∈ (clipFeeder run f).1, y.slot = slot ∧
      (∃ p : Product, 0 < y.shares.get p) ∧
      e = { siteNumber := y.siteNumber, feeder := f, shares := y.shares, census := number }
    let starts (t : State) (k : CensusKind) : Prop := t.census.run = some
      { kind := k, banks := PerProduct.ofFn s.bank, caps := t.latchedCaps k, nextSlot := 0, sweep := [], swept := [] }
    ∃ (t : State) (x : Publication), exec .censusPublish s = .next t ∧ t.census.published = some x ∧
      t.census.counter = number ∧ x.snapshot.number = number ∧
      x.snapshot.kind = run.kind ∧ x.snapshot.localTime = s.localTime ∧ x.snapshot.deviceTime = s.deviceTime ∧
      (∀ p, x.snapshot.products.get p = snapshotProduct run.banks x.roster p) ∧
      ((run.sweep.map (fun y => y.slot)).Nodup →
        (run.kind = .full →
          (∀ f, f < 64 → Table.readOr x.roster.feeders FeederRecord.zero f = (clipFeeder run f).2) ∧
          (∀ slot e, Table.find x.roster.entries slot = some e ↔ ∃ f, f < 64 ∧ made f slot e)) ∧
        (∀ f old, run.kind = .select f → s.census.published = some old → Table.wf old.roster.entries = true →
          Table.wfOr old.roster.feeders FeederRecord.zero = true →
          let before (g : Nat) := Table.readOr old.roster.feeders FeederRecord.zero g
          let removed (g : Nat) := old.roster.entries.filter (fun e =>
            decide (e.2.feeder = g) && run.swept.contains e.1)
          Table.readOr x.roster.feeders FeederRecord.zero f = (clipFeeder run f).2 ∧
          (∀ g, g ≠ f → Table.readOr x.roster.feeders FeederRecord.zero g =
            { before g with totals := PerProduct.ofFn (fun p =>
                (before g).totals.get p - sumOf (removed g) (fun e => e.2.shares.get p)) }) ∧
          (∀ slot e, Table.find x.roster.entries slot = some e ↔
            made f slot e ∨ ((∀ e', ¬ made f slot e') ∧ Table.find old.roster.entries slot = some e ∧ e.feeder ≠ f ∧
              slot ∉ run.swept)))) ∧
      (∀ p, (t.mon p).conditions.noCensus = false) ∧
      (s.allocation.pass.isSome = true → t.allocation.pass = s.allocation.pass ∧ t.allocation.passPending = true) ∧
      (s.allocation.pass = none → ∃ l, t.allocation.pass = some l ∧ t.LatchedBy l ∧
        t.allocation.passPending = false) ∧
      (s.census.fullPending = true → t.census.fullPending = false ∧ t.census.selectPending = none ∧
        t.census.banksSwitched = false ∧ starts t .full ∧
        t.census.timerExpiry = s.localTime + s.params.censusInterval * 1000) ∧
      (∀ f, s.census.fullPending = false → s.census.selectPending = some f → t.census.selectPending = none ∧
        starts t (if s.census.banksSwitched = true then .full else .select f) ∧ t.census.banksSwitched = false) ∧
      (s.census.fullPending = false → s.census.selectPending = none → t.census.run = none ∧
        t.census.banksSwitched = s.census.banksSwitched) ∧
      t.fleet = s.fleet ∧ t.time = s.time ∧ t.products = s.products ∧ t.activation = s.activation ∧
      t.params = s.params ∧ t.book.offers.map Offer.terms = s.book.offers.map Offer.terms

/-! ## Allocation and dispatch -/

/-- R129, R130: the division gives out exactly the granted power, no site more than its share, in slot order as given:
each site the floor of its part, and one more watt each to the sites of the largest remainders, the lower slot first
between equal remainders. -/
def Obligations.DivisionGivesOutTheGrantWithinShares : Prop :=
  ∀ (sites : Table Nat) (granted : Nat), Table.wf sites = true → granted ≤ sumOf sites (fun e => e.2) →
    let total := sumOf sites (fun e => e.2)
    let given := divide total granted sites
    let more (a : Nat × Nat) : Prop := Table.readOr given 0 a.1 = granted * a.2 / total + 1
    sumOf given (fun e => e.2) = granted ∧
    List.Forall₂ (fun x y : Nat × Nat => x.1 = y.1 ∧ x.2 ≤ y.2) given sites ∧
    (∀ a ∈ sites, ¬ more a → Table.readOr given 0 a.1 = granted * a.2 / total) ∧
    (∀ a ∈ sites, ∀ b ∈ sites, more a → ¬ more b → granted * b.2 % total < granted * a.2 % total ∨
      (granted * b.2 % total = granted * a.2 % total ∧ a.1 < b.1))

/-- R128 to R130: what a pass computes from its latched inputs. The products are taken in capacity-priority order. A
Roster entry is allocatable for a product when its share is above 0, its slot was latched eligible with the entry's
site number, and no product before it gave the slot power of the opposite direction; the granted power is the lesser of
the target and the shares of the allocatable entries, and is divided among them. A disabled product gets nothing. So
no slot comes out with non-zero allocations of both directions. -/
def Obligations.PassLocksEachSlotToOneDirection : Prop :=
  (∀ (l : PassLatch) (slot : Nat), oneDirection l.banks (givenAt (runPass l).2 slot)) ∧
  ∀ (l : PassLatch) (entries : Table RosterEntry), Table.wf entries = true →
    (l.roster.map (fun r => r.entries)).getD [] = entries →
    let given (slot : Nat) (p : Product) : Nat := (givenAt (runPass l).2 slot).get p
    let record (p : Product) : LastPass := (runPass l).1.get p
    ∀ p : Product,
      let locked (slot : Nat) : Prop := ∃ q : Product, precedes (fun x => (l.banks.get x).priority) q p ∧
        (l.banks.get q).direction ≠ (l.banks.get p).direction ∧ given slot q ≠ 0
      let allocates (slot : Nat) (e : RosterEntry) : Prop := 0 < e.shares.get p ∧
        (∃ x, Table.find l.slots slot = some x ∧ x.eligible = true ∧ x.siteNumber = e.siteNumber) ∧ ¬ locked slot
      ((l.banks.get p).enabled = false →
        record p = { target := 0, allocatable := 0, granted := 0, shortfall := false, census := l.census } ∧
        ∀ slot, given slot p = 0) ∧
      ((l.banks.get p).enabled = true → ∃ sites : Table Nat, Table.wf sites = true ∧
        (∀ slot n, Table.find sites slot = some n ↔
          ∃ e, Table.find entries slot = some e ∧ allocates slot e ∧ n = e.shares.get p) ∧
        let total := sumOf sites (fun e => e.2)
        let granted := min (l.targets.get p) total
        record p = { target := l.targets.get p, allocatable := total, granted := granted,
                     shortfall := decide (granted < l.targets.get p), census := l.census } ∧
        ∀ slot, given slot p = Table.readOr (divide total granted sites) 0 slot)

/-- R126, R127, R131, R133, R135: a trigger while a pass runs sets the pass pending flag and changes nothing else; otherwise it
starts a pass, which latches its inputs as they stand. ALLOCATION_PASS_END replaces allocations, staged offsets and
last-pass records together, keeps what was sent, requests a release when some slot owes one, and starts the next pass,
latched then, when a trigger pended. That a pass which changes a staged offset while a release emits requests the next
one besides is the model's reading of R135 (log entry 41). -/
def Obligations.PassEndReplacesAllocationsAndStages : Prop :=
  (∀ s : State,
    (s.allocation.pass.isSome = true → s.trigger = { s with allocation := { s.allocation with passPending := true } }) ∧
    (s.allocation.pass = none → ∃ l, s.LatchedBy l ∧
      s.trigger = { s with allocation := { s.allocation with pass := some l, passPending := false } })) ∧
  ∀ (s : State) (l : PassLatch), s.allocation.pass = some l → s.tablesHeld →
    let given (slot : Nat) := givenAt (runPass l).2 slot
    let along (d : Direction) := allProducts.filter (fun p => decide ((l.banks.get p).direction = d))
    ∃ t : State, exec .allocationPassEnd s = .next t ∧
      (∀ slot, t.dispatch slot = { s.dispatch slot with
        allocation := given slot
        staged := (sumOf (along .up) (given slot).get : Int) - (sumOf (along .down) (given slot).get : Int) }) ∧
      (∀ p, t.allocation.lastPass.get p = (runPass l).1.get p) ∧
      (t.allocation.requested = true ↔ s.allocation.requested = true ∨ (∃ slot, t.owes slot = true) ∨
        (s.allocation.emission.isSome = true ∧
          ∃ e ∈ s.fleet.sites, (t.dispatch e.1).staged ≠ (s.dispatch e.1).staged)) ∧
      (t.allocation.pass.isSome = true ↔ s.allocation.passPending = true ∨
        ∃ slot, (∃ p : Product, (given slot).get p ≠ 0) ∧ s.eligible slot = false) ∧
      (∀ n, t.allocation.pass = some n → t.LatchedBy n) ∧
      t.allocation.passPending = false ∧ t.allocation.emission = s.allocation.emission ∧
      t.allocation.releaseCounter = s.allocation.releaseCounter ∧ t.fleet = s.fleet ∧ t.time = s.time ∧
      t.products = s.products ∧ t.census = s.census ∧ t.activation = s.activation ∧ t.params = s.params

/-- R132 to R134, R180: the first part says when a slot owes a release (R133): it holds a site whose dispatch value, 0
for a LISTED site and the staged offset for any other, differs from its sent offset, or it is marked, or the catch-up
flag is set while it is unconfirmed. RELEASE_BEGIN, when all that a release needs holds: nothing but the request flag changes when no
slot owes a release. Otherwise the release takes the next number and an entry for every slot that owes one, in slot
order, 120 to a frame in every frame but the last. With the transmitter idle its first frame is handed over at once:
each entry of it sets its slot's dispatch record as R134 says. -/
def Obligations.ReleaseBeginsWithTheNextNumber : Prop :=
  (∀ (s : State) (slot : Nat),
    let d := s.dispatch slot
    s.owes slot = true ↔ ∃ x, s.siteAt slot = some x ∧
      ((if x.state = .listed then 0 else d.staged) ≠ d.sent ∨ d.carry = true ∨
        (s.allocation.catchUp = true ∧ d.confirmed = false))) ∧
  ∀ s : State, s.allocation.requested = true → s.links.fleet.up = true → s.allocation.emission = none →
    (∀ last, s.allocation.lastStart = some last → last + s.params.releaseSpacing ≤ s.localTime) →
    Table.wf s.fleet.sites = true →
    let number := if s.allocation.releaseCounter < 65535 then s.allocation.releaseCounter + 1 else 1
    let entries : List ReleaseEntry := (s.fleet.sites.filter (fun e => s.owes e.1)).map (fun e =>
      { slot := e.1, siteNumber := e.2.static.siteNumber,
        offset := if e.2.state = .listed then 0 else (s.dispatch e.1).staged })
    ((∀ e ∈ s.fleet.sites, s.owes e.1 = false) →
      exec .releaseBegin s = .next { s with allocation := { s.allocation with requested := false } }) ∧
    ((∃ e ∈ s.fleet.sites, s.owes e.1 = true) → ∃ (first : List ReleaseEntry) (rest : List (List ReleaseEntry)),
      (first :: rest).flatten = entries ∧ (∀ f ∈ first :: rest, f ≠ [] ∧ f.length ≤ 120) ∧
      (∀ f ∈ (first :: rest).dropLast, f.length = 120) ∧
      let begun : Allocation := { s.allocation with
        requested := false, catchUp := false, releaseCounter := number, lastStart := some s.localTime }
      (s.links.fleetTx.isSome = true →
        exec .releaseBegin s = .next { s with allocation := { begun with
          emission := some { release := number, nextIndex := 0, frames := first :: rest } } }) ∧
      (s.links.fleetTx = none → s.tablesHeld → ∃ t : State, exec .releaseBegin s = .next t ∧
        t = { s with
          links := { s.links with
            fleetTx := some (envelope .dispatchOrder 0 s.links.fleetOut
              (octetsOf 2 number ++ octetsOf 1 0 ++ [if rest.isEmpty then 1 else 0] ++ octetsOf 1 first.length ++
                first.flatMap (fun x => octetsOf 4 x.siteNumber ++ signedOctets 4 x.offset)))
            fleetOut := (s.links.fleetOut + 1) % 256 }
          allocation := { begun with
            records := t.allocation.records
            emission := if rest.isEmpty then none else some { release := number, nextIndex := 1, frames := rest } } } ∧
        (∀ x ∈ first, let d := s.dispatch x.slot
          let fresh := x.offset ≠ d.sent ∨ d.releaseSent = none
          t.dispatch x.slot = { d with
            sent := x.offset
            releaseSent := if fresh then some number else d.releaseSent
            lastRelease := some number
            sentTime := some s.localTime
            confirmed := false
            expiry := some (s.localTime + s.params.confirmTimeout)
            carry := false }) ∧
        (∀ slot, slot ∉ first.map (fun x => x.slot) → t.dispatch slot = s.dispatch slot)))

/-- R134, R167, R180: FLEET_TRANSMIT_DONE frees the transmitter and, while the port is UP, hands over the release's next
frame: each of its entries sets its slot's dispatch record as R134 says. -/
def Obligations.NextFrameOfTheReleaseIsHandedOver : Prop :=
  ∀ s : State, s.links.fleetTx.isSome = true →
    (s.links.fleet.up = false ∨ s.allocation.emission = none →
      exec .fleetTransmitDone s = .next { s with links := { s.links with fleetTx := none } }) ∧
    (∀ (e : Emission) (f : List ReleaseEntry) (rest : List (List ReleaseEntry)), s.links.fleet.up = true →
      s.allocation.emission = some e → e.frames = f :: rest → (f.map (fun x => x.slot)).Nodup → s.tablesHeld →
      ∃ t : State, exec .fleetTransmitDone s = .next t ∧
        t.links.fleetTx = some (envelope .dispatchOrder 0 s.links.fleetOut
          (octetsOf 2 e.release ++ octetsOf 1 e.nextIndex ++ [if rest.isEmpty then 1 else 0] ++ octetsOf 1 f.length ++
            f.flatMap (fun x => octetsOf 4 x.siteNumber ++ signedOctets 4 x.offset))) ∧
        t.links.fleetOut = (s.links.fleetOut + 1) % 256 ∧
        t.allocation.emission =
          (if rest.isEmpty then none else some { e with nextIndex := e.nextIndex + 1, frames := rest }) ∧
        (∀ x ∈ f, let d := s.dispatch x.slot
          let fresh := x.offset ≠ d.sent ∨ d.releaseSent = none
          t.dispatch x.slot = { d with
            sent := x.offset
            releaseSent := if fresh then some e.release else d.releaseSent
            lastRelease := some e.release
            sentTime := some s.localTime
            confirmed := false
            expiry := some (s.localTime + s.params.confirmTimeout)
            carry := false }) ∧
        (∀ slot, slot ∉ f.map (fun x => x.slot) → t.dispatch slot = s.dispatch slot) ∧
        t.fleet = s.fleet ∧ t.time = s.time ∧ t.book = s.book ∧ t.arbiter = s.arbiter ∧ t.activation = s.activation)

/-- R6, R38, R126, R138, R140: a CONFIRMATION_TIMEOUT that is due stops the timer, raises the run of a non-zero offset,
sets the carry-forward mark, makes a trigger, and at the limit reports the slot. Whether the Fleet Table takes that
report before anything else reaches the slot is a free value, `atOnce`; otherwise it waits, and the slot's next
CONFIRMATION_TIMEOUT hands it over whatever the slot's run has become since (the free value and the list of waiting
reports are the model's, log entry 48). `acts` is R6, by the site's state when the report is taken; an entry to SUSPECT that takes an eligible site's non-zero allocation triggers besides
(R9; from STALE it does not: log entry 30). -/
def Obligations.ConfirmationTimeoutMarksTheSlot : Prop :=
  ∀ (slot : Nat) (s : State),
    let atOnce := Config.limitReportAtOnce s.freeDraws
    let hold := s.localTime + s.params.suspectHold * 1000
    let acts (v t : State) : Prop :=
      (v.siteAt slot = none → t = { v with allocation := t.allocation }) ∧
      ∀ x, v.siteAt slot = some x →
        (x.state = .active ∨ x.state = .ageing ∨ x.state = .stale →
          t = { (v.setSite slot { x with state := .suspect, suspectExpiry := some hold }).post
                  (.siteSuspect slot x.static.siteNumber hold) with allocation := t.allocation }) ∧
        (x.state = .suspect →
          t = { v.setSite slot { x with suspectExpiry := some hold } with allocation := t.allocation }) ∧
        (x.state = .listed ∨ x.state = .barred → t = { v with allocation := t.allocation })
    let excluded := s.eligible slot = true ∧ s.allocated slot = true
    (slot ∉ s.allocation.reports → s.tablesHeld →
      ∀ expiry, (s.dispatch slot).expiry = some expiry → expiry ≤ s.localTime →
        let d := s.dispatch slot
        let run := if d.sent = 0 then d.run else min (d.run + 1) 8
        let reported := d.sent ≠ 0 ∧ s.params.unconfirmedLimit ≤ run
        ∃ t : State, exec (.confirmationTimeout slot) s = .next t ∧
          let kept : Allocation := { s.allocation with
            records := t.allocation.records
            reports := if reported ∧ atOnce = false then s.allocation.reports ++ [slot] else s.allocation.reports }
          t.dispatch slot = { d with expiry := none, run := run, carry := true } ∧
          (∀ k, k ≠ slot → t.dispatch k = s.dispatch k) ∧
          (reported → atOnce = true → acts { s.setDispatch slot { d with expiry := none, run := run } with
            freeDraws := s.freeDraws + 1 } t) ∧
          (reported → atOnce = false → t = { s with allocation := t.allocation, freeDraws := s.freeDraws + 1 }) ∧
          (¬ reported → t = { s with allocation := t.allocation }) ∧
          (s.allocation.pass.isSome = true → t.allocation = { kept with passPending := true }) ∧
          (s.allocation.pass = none →
            (∃ l, t.LatchedBy l ∧
              t.allocation = { kept with pass := some l, passPending := t.allocation.passPending }) ∧
            (t.allocation.passPending = true ↔ reported ∧ atOnce = true ∧ excluded))) ∧
    (slot ∈ s.allocation.reports → ∃ t : State, exec (.confirmationTimeout slot) s = .next t ∧ acts s t ∧
      State.TriggersOnce
        { s with allocation := { s.allocation with
            reports := s.allocation.reports.filter (fun k => decide (k ≠ slot)) } } t excluded)

/-! ## The Delivery Monitor -/

/-- R147 to R151, R153: PERFORMANCE_INTERVAL_END, when due, starts the next interval and measures every product whose
obligation or target is above 0, no other. The delivered power is R148's: over the slots whose staged offset is not 0, the
part of the slot's allocation that the applied offset of its report makes of the staged one, sign by sign. A measured
product's DELIVERY_REPORT waits in its source while the arbiter does not choose. -/
def Obligations.IntervalEndMeasuresActiveProducts : Prop :=
  ∀ s : State, s.monitor.intervalExpiry ≤ s.localTime →
    ∃ t : State, exec .performanceIntervalEnd s = .next t ∧ t.monitor.intervalStart = s.localTime ∧
      t.monitor.intervalExpiry = s.localTime + s.params.performanceInterval * 1000 ∧
      (∀ p : Product,
        let m := s.mon p
        let n := t.mon p
        let duration := s.localTime - s.monitor.intervalStart
        let requested := (s.act p).target
        let applied (slot : Nat) : Int := match s.siteAt slot with
          | none => 0
          | some x => match x.report with
            | none => 0
            | some r => r.appliedOffset
        let part (a b : Int) : Nat := if (0 < a ∧ 0 < b) ∨ (a < 0 ∧ b < 0) then min a.natAbs b.natAbs else 0
        let delivered := sumOf (s.allocation.records.filter (fun e => decide (e.2.staged ≠ 0)))
          (fun e => e.2.allocation.get p * part (applied e.1) e.2.staged / e.2.staged.natAbs)
        let deficient := 0 < requested ∧ delivered < requested * (1000 - (s.bank p).tolerance) / 1000
        let count := if deficient then raise16 m.current.deficient else m.current.deficient
        let alarmed := deficient ∧ (s.bank p).deficientThreshold ≤ count
        ((0 < (s.act p).obligation ∨ 0 < requested) →
          n.intervals = (m.intervals + 1) % 4294967296 ∧ n.requested = m.requested + requested * duration ∧
          n.delivered = m.delivered + delivered * duration ∧
          n.current = { m.current with
            measured := raise16 m.current.measured
            deficient := count
            requested := m.current.requested + requested * duration
            delivered := m.current.delivered + delivered * duration
            alarm := if alarmed then true else m.current.alarm } ∧
          n.latch = (if alarmed then true else m.latch) ∧
          (s.gridHolds = true → (p, { code := (s.bank p).code, id := (s.act p).currentId, requested := requested,
                                      delivered := delivered, interval := n.intervals, window := m.current.window,
                                      deficient := decide deficient, deficientCount := count }) ∈ t.arbiter.reports)) ∧
        ((s.act p).obligation = 0 → requested = 0 →
          n.intervals = m.intervals ∧ n.requested = m.requested ∧ n.delivered = m.delivered ∧
          n.current = m.current ∧ n.latch = m.latch) ∧
        n.history = m.history) ∧
      t.fleet = s.fleet ∧ t.time = s.time ∧ t.products = s.products ∧ t.census = s.census ∧
      t.activation = s.activation ∧ t.allocation = s.allocation ∧ t.params = s.params

/-- R155, R156, R158, R159: HEARTBEAT, when due, recomputes every condition set and declaration from its definition, and
queues one AVAILABILITY frame with them. -/
def Obligations.HeartbeatEvaluatesAndQueuesAvailability : Prop :=
  ∀ s : State, s.monitor.heartbeatExpiry ≤ s.localTime →
    ∃ t : State, exec .heartbeat s = .next t ∧
      t.monitor.heartbeatExpiry = s.localTime + s.params.heartbeatInterval * 1000 ∧
      (∀ p : Product,
        let c := (t.mon p).conditions
        let short (a : Nat) (w : Nat) : Prop := a < s.commitment p w
        let available (x : Publication) : Nat := (x.snapshot.products.get p).available
        (c.shortfall = true ↔ (s.allocation.lastPass.get p).shortfall = true ∨
          ∃ x w, s.census.published = some x ∧ s.currentWindow = some w ∧ short (available x) w) ∧
        (c.futureShortfall = true ↔ ∃ x w v, s.census.published = some x ∧ s.currentWindow = some w ∧
          w + 1 ≤ v ∧ v ≤ w + 47 ∧ short (available x) v) ∧
        (c.freqLoss = (s.mon p).freqLost) ∧ (c.fleetLinkDown = !s.monitor.fleetUp) ∧
        (c.meterLinkDown = true ↔ s.monitor.meterUp = false ∧ (s.bank p).mode = .frequency) ∧
        (c.timeNotSet = true ↔ s.deviceTime = none) ∧ (c.noCensus = true ↔ s.census.published = none) ∧
        (c.deliveryAlarm = (s.mon p).latch) ∧
        (t.mon p).declaration =
          (if (s.bank p).enabled = true then
            some (if (c.inter (s.bank p).mask).any = true then .unavailable else .available) else none)) ∧
      (s.gridHolds = true → t.arbiter.availability = some (allProducts.filterMap (fun p =>
        (t.mon p).declaration.map (fun d =>
          { code := (s.bank p).code, declaration := d, conditions := (t.mon p).conditions })))) ∧
      t.fleet = s.fleet ∧ t.time = s.time ∧ t.products = s.products ∧ t.census = s.census ∧
      t.activation = s.activation ∧ t.allocation = s.allocation ∧ t.params = s.params

/-! ## The Grid Egress Arbiter -/

/-- R88, R167, R178, R179, R186, R194: GRID_TRANSMIT_DONE frees the transmitter; while the port is UP, the choice takes the
lowest level among the sources that hold a frame, and of those the first in the rule's order. The first part says what
posting a notice does (R193): dropped by the mask, queued, or discarded with the flag set; that a choice follows at
once when the queue was empty is the model's reading of R178 (log entry 11). -/
def Obligations.ArbiterTakesTheLowestLevelFirst : Prop :=
  (∀ (s : State) (n : Notice),
    let masked := s.params.noticeMask.getLsbD (n.code - 1) = false
    let queued : State := { s with management := { s.management with notices := s.management.notices ++ [n] } }
    (masked → s.post n = s) ∧
    (¬ masked → 32 ≤ s.management.notices.length →
      s.post n = { s with management := { s.management with noticeDiscarded := true } }) ∧
    (¬ masked → s.management.notices.length < 32 →
      (s.management.notices ≠ [] ∨ s.gridHolds = true → s.post n = queued) ∧
      (s.management.notices = [] → s.gridHolds = false → s.post n = queued.choose))) ∧
  ∀ s : State, s.links.gridTx.isSome = true →
    let u : State := { s with links := { s.links with gridTx := none } }
    let place (x : Source) : Nat :=
      match x with
      | .ack => 0
      | .availability => 1
      | .offer => 2
      | .report => 3
      | .response => 4
      | .notice => 5
    let chosen (x : Source) : Prop := s.links.grid.up = true ∧ s.sourceHolds x = true ∧
      ∀ y, s.sourceHolds y = true → s.params.level x < s.params.level y ∨
        (s.params.level x = s.params.level y ∧ place x ≤ place y)
    let sent0 (v : State) (k : FrameKind) (payload : Octets) : State := { v with links := { v.links with
      gridTx := some (envelope k 0 s.links.grid0Out payload), grid0Out := (s.links.grid0Out + 1) % 256 } }
    let sent2 (v : State) (k : FrameKind) (payload : Octets) : State := { v with links := { v.links with
      gridTx := some (envelope k 2 s.links.grid2Out payload), grid2Out := (s.links.grid2Out + 1) % 256 } }
    (s.links.grid.up = false ∨ (∀ x, s.sourceHolds x = false) → exec .gridTransmitDone s = .next u) ∧
    (∀ k a rest, chosen .ack → s.arbiter.ack = (k, a) :: rest → exec .gridTransmitDone s =
      .next (sent0 { u with arbiter := { s.arbiter with ack := rest } } .activationAck a.payload)) ∧
    (∀ l, chosen .availability → s.arbiter.availability = some l → exec .gridTransmitDone s =
      .next (sent0 { u with arbiter := { s.arbiter with availability := none } } .availability
        (availabilityPayload l))) ∧
    (∀ id rest o, chosen .offer → s.arbiter.offers = .offer id :: rest → s.findOffer id = some o →
      exec .gridTransmitDone s = .next (((sent0 { u with arbiter := { s.arbiter with offers := rest } } .offer
        (s.offerPayload o)).mapOffer id (fun y => { y with state := .submitted })).clearReservation id)) ∧
    (∀ id rest o, chosen .offer → s.arbiter.offers = .withdraw id :: rest → s.findOffer id = some o →
      exec .gridTransmitDone s = .next (sent0 { u with arbiter := { s.arbiter with offers := rest } } .withdraw
        (s.withdrawPayload o))) ∧
    (∀ p d rest, chosen .report → s.arbiter.reports = (p, d) :: rest → exec .gridTransmitDone s =
      .next (sent0 { u with arbiter := { s.arbiter with reports := rest } } .deliveryReport d.payload)) ∧
    (∀ r, chosen .response → s.arbiter.response = some r → exec .gridTransmitDone s =
      .next (sent2 { u with
        arbiter := { s.arbiter with response := none }
        management := { s.management with noticeDiscarded := false }
        links := { u.links with grid := { s.links.grid with summary := 0 } } } .response
          (r.payload s.links.grid.summary s.management.noticeDiscarded))) ∧
    (∀ n rest, chosen .notice → s.management.notices = n :: rest → exec .gridTransmitDone s =
      .next (sent2 { u with management := { s.management with notices := rest } } .notice n.payload))

/-! ## Requests -/

/-- R183, R169, R171: REQUEST_ENQUEUE takes a REQUEST from the head of the Grid buffer: it joins the tail of the queue while
fewer than eight wait, and is discarded with REQUEST_OVERFLOW otherwise. -/
def Obligations.RequestJoinsTheQueueOrOverflows : Prop :=
  ∀ (s : State) (f : Frame) (rest : List Frame), s.links.grid.buffer = f :: rest → f.kind = .request →
    let e := s.links.grid
    (s.management.queue.length < 8 → exec .requestEnqueue s = .next
      { s with
        links := { s.links with grid := { e with buffer := rest } }
        management := { s.management with queue := s.management.queue ++
        [{ sequence := f.sequence, payload := f.payload, flagged := f.flagged }] } }) ∧
    (8 ≤ s.management.queue.length → exec .requestEnqueue s = .next
      { s with links := { s.links with grid := { e with
          buffer := rest
          summary := e.summary ||| 0b100000000#9
          count := if f.flagged = false ∧ e.count < 4095 then e.count + 1 else e.count
          overflow := if f.flagged = false ∧ 4095 ≤ e.count then true else e.overflow } } })

/-- R183, R184, R185: a request waits while another is in execution or a response waits; one out of format changes
nothing but the Grid Port's PAYLOAD class, and is answered REFUSED with BAD_FIELD. That a request command whose request
is not at hand (an empty queue, one that must wait) changes nothing is the model's choice (log entry 3). -/
def Obligations.RequestsWaitTheirTurnAndFormatsAreJudged : Prop :=
  let fixed : List (Instr × Nat × Nat) :=
    [(.setWindow, 1, 6), (.readRecords none, 4, 2), (.readContinue none, 5, 1), (.setReturnLimit, 6, 3),
     (.barSite, 7, 5), (.clearSite, 8, 5), (.removeSite, 9, 5), (.writeProduct, 10, 35), (.stageProduct, 11, 2),
     (.cancelStage, 12, 2), (.applyNow, 13, 2), (.createOffer, 14, 17), (.updateOffer, 15, 12), (.submitOffer, 16, 3),
     (.withdrawOffer, 17, 3), (.retireOffers, 18, 14), (.readOfferReserved, 19, 3), (.updateOfferConditional, 20, 13),
     (.requestCensus, 21, 3), (.readStatus, 22, 1), (.readLinkErrors, 23, 1), (.setParameters, 24, 39),
     (.restart, 25, 1)]
  let refused (s : State) (c : Instr) (r : PendingRequest) : Prop :=
    exec c s = .next ((s.takeRequest.reportClass .grid .payload r.flagged).respond r (some .badField) [])
  (∀ s : State, s.management.inExecution = none →
    s.management.queue = [] ∨ s.arbiter.response.isSome = true →
    (∀ x ∈ fixed, exec x.1 s = .next s) ∧ exec (.writeRecords none) s = .next s ∧
    exec (.writeContinue none) s = .next s ∧ exec .requestOutOfFormat s = .next s) ∧
  (∀ (s : State) (x : InExecution), s.management.inExecution = some x →
    (∀ y ∈ fixed, x.request.payload.head? ≠ some (BitVec.ofNat 8 y.2.1) → exec y.1 s = .next s) ∧
    (∀ take, x.request.payload.head? ≠ some 2 → exec (.writeRecords take) s = .next s) ∧
    (∀ take, x.request.payload.head? ≠ some 3 → exec (.writeContinue take) s = .next s) ∧
    (∀ take, x.request.payload.head? ≠ some 4 → exec (.readRecords take) s = .next s) ∧
    (∀ take, x.request.payload.head? ≠ some 5 → exec (.readContinue take) s = .next s) ∧
    exec .requestOutOfFormat s = .next s) ∧
  (∀ (s : State) (r : PendingRequest) (rest : List PendingRequest), s.management.inExecution = none →
    s.arbiter.response = none → s.management.queue = r :: rest →
    s.takeRequest = { s with management := { s.management with queue := rest } } ∧
    (∀ x ∈ fixed, r.payload ≠ [] → fieldAt r.payload 0 1 = x.2.1 → r.payload.length ≠ x.2.2 → refused s x.1 r) ∧
    (r.payload ≠ [] → fieldAt r.payload 0 1 = 2 → r.payload.length < 2 → refused s (.writeRecords none) r) ∧
    (r.payload = [] ∨ fieldAt r.payload 0 1 = 0 ∨ 25 < fieldAt r.payload 0 1 → refused s .requestOutOfFormat r)) ∧
  (∀ (s : State) (r : PendingRequest) (refusal : Option Reason) (body : Octets), s.gridHolds = true →
    r.payload ≠ [] →
    let x : Response := { sequence := r.sequence, code := fieldAt r.payload 0 1, refusal := refusal, body := body }
    s.respond r refusal body =
      { s with
        management := { s.management with inExecution := none }
        arbiter := { s.arbiter with response := some x } })

/-- R187, R189: SET_WINDOW and SET_RETURN_LIMIT: refused with BAD_FIELD and nothing changed, or taken. -/
def Obligations.WindowAndReturnLimitAreSet : Prop :=
  (∀ (s : State) (r : PendingRequest), s.nextOf 1 = some r → r.payload.length = 6 →
    let u := s.takeRequest
    let code := fieldAt r.payload 1 1
    let first := fieldAt r.payload 2 2
    let last := fieldAt r.payload 4 2
    let highest (t : TableName) : Nat :=
      match t with
      | .sites | .roster => 4095
      | .feeders => 63
      | .offers => 511
      | .products | .snapshot | .performance => 7
    (code = 0 ∨ 7 < code → exec .setWindow s = .next (u.respond r (some .badField) [])) ∧
    (∀ t : TableName, t.code = code →
      (last < first ∨ highest t < first ∨ highest t < last →
        exec .setWindow s = .next (u.respond r (some .badField) [])) ∧
      (first ≤ last → last ≤ highest t → exec .setWindow s = .next ({ u with management := { u.management with
        window := some { table := t, first := first, last := last, readCursor := first, writeCursor := first } } }.respond
          r none [])))) ∧
  (∀ (s : State) (r : PendingRequest), s.nextOf 6 = some r → r.payload.length = 3 →
    let u := s.takeRequest
    let limit := fieldAt r.payload 1 2
    (limit < 64 ∨ 1024 < limit → exec .setReturnLimit s = .next (u.respond r (some .badField) [])) ∧
    (64 ≤ limit → limit ≤ 1024 → exec .setReturnLimit s =
      .next ({ u with management := { u.management with returnLimit := limit } }.respond r none [])))

/-- R183, R188: a write is judged in order, and its records are taken one after another from the write cursor. In the
chain of states `at_`, the first `n` records have been applied, and `marks` holds the products whose staged mark they
removed. The model's choices here: `take` and a write left in execution between two records (log entry 5), a write
without records DONE (log entry 13), BAD_FIELD for an unlisted table code (log entry 14), and the empty body of the
refusals before the first record (log entry 29). -/
def Obligations.WritesTakeRecordsInOrder : Prop :=
  ∀ (command : Option Nat → Instr) (code fixed : Nat),
    (command = Instr.writeRecords ∧ code = 2 ∧ fixed = 2) ∨ (command = Instr.writeContinue ∧ code = 3 ∧ fixed = 1) →
  ∀ (s : State) (r : PendingRequest) (take : Option Nat), s.nextOf code = some r → fixed ≤ r.payload.length →
    let u := s.takeRequest
    let octets := r.payload.length - fixed
    let refused (e : Reason) : Prop := exec (command take) s = .next (u.respond r (some e) [])
    let named := fieldAt r.payload 1 1
    (s.management.window = none → refused .wrongState) ∧
    (∀ w : TableWindow, s.management.window = some w →
      (code = 2 → named = 0 ∨ 7 < named → refused .badField) ∧
      (code = 2 → 1 ≤ named → named ≤ 7 → named ≠ w.table.code → refused .wrongState) ∧
      ((code = 2 → named = w.table.code) →
        (w.table = .offers ∨ w.table = .roster ∨ w.table = .snapshot ∨ w.table = .performance → refused .readOnly) ∧
        (∀ size : Nat, (w.table = .sites ∧ size = 30) ∨ (w.table = .feeders ∧ size = 9) ∨
            (w.table = .products ∧ size = 33) →
          (octets % size ≠ 0 →
            exec (command take) s = .next ((u.reportClass .grid .payload r.flagged).respond r (some .badField) [])) ∧
          (∀ (n : Nat) (at_ : Nat → State) (marks : Nat → BitVec 8), octets % size = 0 → n ≤ octets / size →
            (∀ k, take = some k → n ≤ k) →
            let record (i : Nat) : Octets := slice r.payload (fixed + i * size) size
            let cursor := w.writeCursor + n
            let body : Octets := octetsOf 2 n ++ octetsOf 2 cursor ++
              (if w.table = .products then octetsOf 1 (marks n).toNat else [])
            at_ 0 = u → marks 0 = 0 →
            (∀ i, i < n → w.writeCursor + i ≤ w.last ∧ ∃ (v : State) (p : Option Product),
              (at_ i).writeRecord w.table (w.writeCursor + i) (record i) = .ok (v, p) ∧
              at_ (i + 1) = { v with management := { v.management with
                window := some { w with writeCursor := w.writeCursor + i + 1 } } } ∧
              marks (i + 1) = match p with
                | none => marks i
                | some q => marks i ||| (1#8 <<< q.val)) →
            (n = octets / size → exec (command take) s = .next ((at_ n).respond r none body)) ∧
            (n < octets / size → w.last < cursor →
              exec (command take) s = .next ((at_ n).respond r (some .windowFull) body)) ∧
            (n < octets / size → cursor ≤ w.last → take = some n →
              ∃ more : List Octets, exec (command take) s = .next { at_ n with management := { (at_ n).management with
                inExecution := some { request := r, progress := .writing more n (marks n) } } } ∧
                more.flatten = r.payload.drop (fixed + n * size)) ∧
            (∀ e, n < octets / size → cursor ≤ w.last → take ≠ some n →
              (at_ n).writeRecord w.table cursor (record n) = .error e →
              exec (command take) s = .next ((at_ n).respond r (some e) body))))))

/-- R184: a write or a read that stops between two records ends, when nothing else happens meanwhile, as one that does
not stop. The operand `take` that stops it and how the request goes on are the model's (log entry 5). -/
def Obligations.StoppingBetweenRecordsChangesNothing : Prop :=
  ∀ (command : Option Nat → Instr), command ∈ [Instr.writeRecords, .writeContinue, .readRecords, .readContinue] →
  ∀ (s t : State) (k : Nat), s.management.inExecution = none → exec (command (some k)) s = .next t →
    t.management.inExecution.isSome = true → exec (command none) t = exec (command none) s

/-- R2, R9, R11, R12, R17, R18, R51: a record written to SITES, FEEDERS or PRODUCTS: its refusals in order, and its effect.
One trigger is made by a load that takes eligibility from a site with a non-zero allocation, and by a write that disables
a feeder of which some site holds one; that the site need not have been eligible is the model's choice (log entry 44). -/
def Obligations.WrittenRecordsAreJudgedAndApplied : Prop :=
  (∀ (s : State) (slot : Nat) (o : Octets), s.fleetHeld →
    let f := parseStatic o
    let written := s.writeRecord .sites slot o
    let ranges := 1 ≤ f.siteNumber ∧ f.siteNumber ≤ 4294967295 ∧ f.feeder ≤ 63 ∧ f.dischargeRating ≤ 20000 ∧
      f.chargeRating ≤ 20000 ∧ f.eFloor ≤ f.eCeil ∧ f.eCeil ≤ 65535
    let elsewhere := ∃ j, s.slotOf f.siteNumber = some j ∧ j ≠ slot
    let dispatched := ¬ ((s.dispatch slot).sent = 0 ∧ (s.dispatch slot).confirmed = true ∧ s.entryWaits slot = false)
    let listed : Site := { state := .listed, static := f, report := none, barReason := none, suspectExpiry := none, tagRun := 0 }
    let others (t : State) : Prop := (∀ k, k ≠ slot → t.siteAt k = s.siteAt k) ∧ t.slotOf f.siteNumber = some slot ∧
      (∀ g, (t.feeder g).capUp = (s.feeder g).capUp ∧ (t.feeder g).capDown = (s.feeder g).capDown ∧
        (t.feeder g).enabled = (s.feeder g).enabled) ∧ t.fleetHeld ∧ t.time = s.time ∧ t.products = s.products ∧
      t.census = s.census ∧ t.book = s.book ∧ t.monitor = s.monitor ∧ t.links = s.links ∧ t.params = s.params ∧
      t.allocation.records = s.allocation.records
    (¬ ranges → written = .error .badField) ∧
    (ranges → elsewhere → written = .error .duplicateSite) ∧
    (ranges → ¬ elsewhere → s.siteAt slot = none → ∃ t, written = .ok (t, none) ∧ t.siteAt slot = some listed ∧
      (t.feeder f.feeder).siteCount = (s.feeder f.feeder).siteCount + 1 ∧ t.allocation = s.allocation ∧ others t) ∧
    (∀ x, ranges → ¬ elsewhere → s.siteAt slot = some x → x.static.siteNumber = f.siteNumber →
      ∃ t, written = .ok (t, none) ∧
        t.siteAt slot = some { x with static := f, tagRun := if x.static.tag = f.tag then x.tagRun else 0 } ∧
        s.TriggersOnce t (s.siteEligible x = true ∧ (s.feeder f.feeder).enabled = false ∧ s.allocated slot = true) ∧
        others t) ∧
    (∀ x, ranges → ¬ elsewhere → s.siteAt slot = some x → x.static.siteNumber ≠ f.siteNumber →
      (dispatched → written = .error .siteDispatched) ∧
      (¬ dispatched → ∃ t, written = .ok (t, none) ∧ t.siteAt slot = some listed ∧
        t.slotOf x.static.siteNumber = none ∧
        s.TriggersOnce t (s.siteEligible x = true ∧ s.allocated slot = true) ∧ others t))) ∧
  (∀ (s : State) (g : Nat) (o : Octets), s.fleetHeld →
    let up := fieldAt o 0 4
    let down := fieldAt o 4 4
    let disabled := fieldAt o 8 1
    let written := s.writeRecord .feeders g o
    (100000000 < up ∨ 100000000 < down ∨ 1 < disabled → written = .error .badField) ∧
    (up ≤ 100000000 → down ≤ 100000000 → disabled ≤ 1 → ∃ t, written = .ok (t, none) ∧
      t.feeder g = { capUp := up, capDown := down, enabled := decide (disabled = 0), siteCount := (s.feeder g).siteCount } ∧
      (∀ k, k ≠ g → t.feeder k = s.feeder k) ∧ t.fleet.sites = s.fleet.sites ∧ t.fleet.siteMap = s.fleet.siteMap ∧
      s.TriggersOnce t ((s.feeder g).enabled = true ∧ disabled = 1 ∧
        ∃ e ∈ s.fleet.sites, e.2.static.feeder = g ∧ s.allocated e.1 = true) ∧
      t.allocation.records = s.allocation.records ∧ t.census = s.census ∧ t.time = s.time ∧ t.params = s.params)) ∧
  (∀ (s : State) (p : Product) (o : Octets),
    let written := s.writeRecord .products p.val o
    (parseBank o = none → written = .error .badField) ∧
    (∀ b, parseBank o = some b → b.inRange = false → written = .error .badField) ∧
    (∀ b, parseBank o = some b → b.inRange = true → ∃ t, written =
        .ok (t, if (s.products.get p).staged = true then some p else none) ∧
      t.products.get p = { active := s.bank p, pendingBank := b, staged := false } ∧
      (∀ q, q ≠ p → t.products.get q = s.products.get q) ∧ t = { s with products := t.products }))

/-- R187, R189: READ_RECORDS and READ_CONTINUE return the records from the read cursor up to the window's last index, as
many as the return limit holds and at least one, and move the cursor past them; no state that is read changes. A read
stopped between two records goes on from the state it then finds. Each record has the size its table gives. The
model's choices here: that a stopped read keeps its cursor, and the count fixed at its start (log entry 5), that an
unlisted table code is BAD_FIELD (log entry 14), and that a read which returns no record carries the read cursor as its
first index (log entry 43). -/
def Obligations.ReadsReturnRecordsInOrder : Prop :=
  (∀ (command : Option Nat → Instr) (code : Nat),
      (command = Instr.readRecords ∧ code = 4) ∨ (command = Instr.readContinue ∧ code = 5) →
    let whole (u : State) (r : PendingRequest) (w : TableWindow) (first n : Nat) (records : Octets) : State :=
      { u with management := { u.management with window := some { w with readCursor := first + n } } }.respond r none
        (octetsOf 2 first ++ octetsOf 2 n ++ [if w.last < first + n then 1 else 0] ++ records)
    (∀ (s : State) (r : PendingRequest) (take : Option Nat), s.nextOf code = some r →
      r.payload.length = (if code = 4 then 2 else 1) →
      let u := s.takeRequest
      let refused (e : Reason) : Prop := exec (command take) s = .next (u.respond r (some e) [])
      let named := fieldAt r.payload 1 1
      (s.management.window = none → refused .wrongState) ∧
      (∀ w : TableWindow, s.management.window = some w →
        let size : Nat := match w.table with
          | .sites => 132
          | .feeders => 11
          | .products => 68
          | .offers => 32
          | .roster => 44
          | .snapshot => 33
          | .performance => 160
        let fitting := (s.management.returnLimit - 12) / size
        let n := if w.last < w.readCursor then 0 else max 1 (min (w.last + 1 - w.readCursor) fitting)
        let first := w.readCursor
        let records (k : Nat) : Octets := (List.range k).flatMap (fun i => s.recordAt w.table (first + i))
        (code = 4 → named = 0 ∨ 7 < named → refused .badField) ∧
        (code = 4 → 1 ≤ named → named ≤ 7 → named ≠ w.table.code → refused .wrongState) ∧
        ((code = 4 → named = w.table.code) → (∀ k, take = some k → n ≤ k) →
          exec (command take) s = .next (whole u r w first n (records n))) ∧
        (∀ k, (code = 4 → named = w.table.code) → take = some k → k < n →
          let x : InExecution := { request := r, progress := .reading (n - k) first k (records k) }
          exec (command take) s = .next { u with management := { u.management with inExecution := some x } }))) ∧
    (∀ (s : State) (r : PendingRequest) (w : TableWindow) (rest first k : Nat) (done : Octets),
      s.management.inExecution = some { request := r, progress := .reading rest first k done } →
      requestCode r.payload = some code → s.management.window = some w →
      exec (command none) s = .next (whole s r w first (k + rest)
        (done ++ (List.range rest).flatMap (fun i => s.recordAt w.table (first + k + i)))))) ∧
  (∀ (s : State) (i : Nat), (s.recordAt .sites i).length = 132 ∧ (s.recordAt .feeders i).length = 11 ∧
    (s.recordAt .offers i).length = 32 ∧ (s.recordAt .roster i).length = 44 ∧
    (i ≤ 7 → (s.recordAt .products i).length = 68 ∧ (s.recordAt .snapshot i).length = 33 ∧
      ((∀ p, (s.mon p).history.length ≤ 4) → (s.recordAt .performance i).length = 160)))

/-- R9, R13 to R16, R126: BAR_SITE, CLEAR_SITE and REMOVE_SITE about the site they name. `w` is what BAR_SITE leaves but
for an exclusion's trigger: the notice of R14 is posted unless the site was BARRED with reason HOST already. A removal
also ends a limit report that waits for the slot (R6; the waiting list is the model's, log entry 48). -/
def Obligations.SitesAreBarredClearedAndRemoved : Prop :=
  ∀ (s : State) (r : PendingRequest), s.fleetHeld → r.payload.length = 5 →
    let u := s.takeRequest
    let number := fieldAt r.payload 1 4
    (s.slotOf number = none →
      (s.nextOf 7 = some r → exec .barSite s = .next (u.respond r (some .noSuchRecord) [])) ∧
      (s.nextOf 8 = some r → exec .clearSite s = .next (u.respond r (some .noSuchRecord) [])) ∧
      (s.nextOf 9 = some r → exec .removeSite s = .next (u.respond r (some .noSuchRecord) []))) ∧
    (∀ (slot : Nat) (x : Site), s.slotOf number = some slot → s.siteAt slot = some x →
      let excluded := (x.state = .active ∨ x.state = .ageing) ∧
        (∃ h, x.report = some h ∧ h.condition = .normal) ∧ (s.feeder x.static.feeder).enabled = true ∧
        ∃ p : Product, (s.dispatch slot).allocation.get p ≠ 0
      (s.nextOf 7 = some r → ∃ t : State, exec .barSite s = .next (t.respond r none []) ∧
        let barred : Site := { x with
          state := .barred, barReason := some .host
          suspectExpiry := if x.state = .barred then x.suspectExpiry else none }
        let w := if x.state = .barred ∧ x.barReason = some .host then u
          else (u.setSite slot barred).post (.siteBarred slot number .host)
        t = { w with allocation := t.allocation } ∧ s.TriggersOnce t excluded ∧
        t.siteAt slot = some barred ∧ (∀ k, k ≠ slot → t.siteAt k = s.siteAt k)) ∧
      (s.nextOf 8 = some r →
        (x.state = .barred → exec .clearSite s = .next ((u.setSite slot
          { state := .listed, static := x.static, report := none, barReason := none, suspectExpiry := none,
            tagRun := 0 }).respond r none [])) ∧
        (x.state ≠ .barred → exec .clearSite s = .next (u.respond r (some .wrongState) []))) ∧
      (s.nextOf 9 = some r →
        let d := s.dispatch slot
        let waits := ∃ e, s.allocation.emission = some e ∧ ∃ f ∈ e.frames, ∃ y ∈ f, y.slot = slot
        let free := d.sent = 0 ∧ d.confirmed = true ∧ ¬ waits
        (¬ free → exec .removeSite s = .next (u.respond r (some .siteDispatched) [])) ∧
        (free → ∃ t : State, exec .removeSite s = .next (t.respond r none []) ∧
          t = { u with fleet := t.fleet, allocation := t.allocation } ∧
          State.TriggersOnce
            { s with allocation := { s.allocation with
                reports := s.allocation.reports.filter (fun k => decide (k ≠ slot)) } } t excluded ∧
          t.siteAt slot = none ∧ (∀ k, k ≠ slot → t.siteAt k = s.siteAt k) ∧
          t.slotOf number = none ∧ (∀ n, n ≠ number → t.slotOf n = s.slotOf n) ∧
          (t.feeder x.static.feeder).siteCount + 1 = (s.feeder x.static.feeder).siteCount ∧
          (∀ f, t.feeder f = { s.feeder f with siteCount := (t.feeder f).siteCount } ∧
            (f ≠ x.static.feeder → (t.feeder f).siteCount = (s.feeder f).siteCount)) ∧
          t.fleetHeld)))

/-- R48, R51, R53 to R55, R57, R120: WRITE_PRODUCT, STAGE_PRODUCT, CANCEL_STAGE and APPLY_NOW about the product they
name. -/
def Obligations.ProductRequestsAreJudgedInOrder : Prop :=
  ∀ (s : State) (r : PendingRequest),
    let u := s.takeRequest
    let answered (c : Instr) (e : Reason) : Prop := exec c s = .next (u.respond r (some e) [])
    (s.nextOf 10 = some r → r.payload.length = 35 → 7 < fieldAt r.payload 1 1 → answered .writeProduct .badField) ∧
    (s.nextOf 11 = some r → r.payload.length = 2 → 7 < fieldAt r.payload 1 1 → answered .stageProduct .badField) ∧
    (s.nextOf 12 = some r → r.payload.length = 2 → 7 < fieldAt r.payload 1 1 → answered .cancelStage .badField) ∧
    (s.nextOf 13 = some r → r.payload.length = 2 → 7 < fieldAt r.payload 1 1 → answered .applyNow .badField) ∧
    (∀ p : Product, p.val = fieldAt r.payload 1 1 →
      let old := s.bank p
      let new := (s.products.get p).pendingBank
      let byCode := new.enabled = true ∧ ∃ q, q ≠ p ∧
        (((s.bank q).enabled = true ∧ (s.bank q).code = new.code) ∨
          ((s.products.get q).staged = true ∧ (s.products.get q).pendingBank.enabled = true ∧
            (s.products.get q).pendingBank.code = new.code))
      let byCommitment := ((old.enabled = true ∧ new.enabled = false) ∨ new.direction ≠ old.direction ∨
          new.mode ≠ old.mode) ∧
        ((∃ w, 0 < s.commitment p w) ∨ ∃ o ∈ s.book.offers, o.product = p ∧
          (o.state = .queued ∨ o.state = .submitted ∨ o.state = .withdrawing))
      let placed (c : ProductContext) : State := { u with products := u.products.set p c }
      (s.nextOf 10 = some r → r.payload.length = 35 →
        (∀ b, parseBank (slice r.payload 2 33) = some b → b.inRange = true → exec .writeProduct s =
          .next ((placed { active := old, pendingBank := b, staged := false }).respond r none
            [if (s.products.get p).staged then 1 else 0])) ∧
        (parseBank (slice r.payload 2 33) = none → answered .writeProduct .badField) ∧
        (∀ b, parseBank (slice r.payload 2 33) = some b → b.inRange = false → answered .writeProduct .badField)) ∧
      (s.nextOf 11 = some r → r.payload.length = 2 →
        (byCode → answered .stageProduct .duplicateCode) ∧
        (¬ byCode → byCommitment → answered .stageProduct .committed) ∧
        (¬ byCode → ¬ byCommitment → exec .stageProduct s =
          .next ((placed { active := old, pendingBank := new, staged := true }).respond r none []))) ∧
      (s.nextOf 12 = some r → r.payload.length = 2 →
        ((s.products.get p).staged = false → answered .cancelStage .wrongState) ∧
        ((s.products.get p).staged = true → exec .cancelStage s =
          .next ((placed { active := old, pendingBank := new, staged := false }).respond r none []))) ∧
      (s.nextOf 13 = some r → r.payload.length = 2 →
        (old.enabled = true → answered .applyNow .wrongState) ∧
        (old.enabled = false → byCode → answered .applyNow .duplicateCode) ∧
        (old.enabled = false → ¬ byCode → byCommitment → answered .applyNow .committed) ∧
        (old.enabled = false → ¬ byCode → ¬ byCommitment → ∃ t : State,
          exec .applyNow s = .next (t.respond r none []) ∧
          t.products = u.products.set p { active := new, pendingBank := new, staged := false } ∧
          (new.mode ≠ old.mode → t.act p = ActRecord.reset ∧ t.time.effective.get p = none) ∧
          (new.mode = old.mode → t.act p = s.act p) ∧ (∀ q, q ≠ p → t.act q = s.act q) ∧
          (∀ d g, s.deviceTime = some d → s.time.gateMarks.get p = some g → t.time.gateMarks.get p =
            some (if new.gateLead = old.gateLead then g else max g ((d + new.gateLead * 60000) / s.windowMs))) ∧
          (s.census.run = none → ∃ n, t.census.run = some n ∧ n.kind = .full ∧ n.banks.get p = new) ∧
          (s.census.run.isSome = true → t.census.run = s.census.run ∧ t.census.fullPending = true ∧
            t.census.banksSwitched = true) ∧
          t.time.clock = s.time.clock ∧ t.fleet = s.fleet ∧ t.params = s.params ∧
          t.book.commitments = s.book.commitments)))

/-- R154, R156, R171, R174, R190: READ_STATUS answers with the values as they stand, then clears every latch and, at the
ports that are UP, WAS_DOWN; READ_LINK_ERRORS answers with the counts and summaries and clears them. That a READ_STATUS
which finds every latch clear makes no evaluation, and so leaves the Monitor as it was, is the model's choice (log
entry 39): R154 and R190 leave it open. -/
def Obligations.StatusReadsClearWhatTheyReport : Prop :=
  (∀ (s : State) (r : PendingRequest), s.nextOf 22 = some r → r.payload.length = 1 → ∃ t : State,
    exec .readStatus s = .next t ∧
    (s.gridHolds = true → t.arbiter.response =
      some { sequence := r.sequence, code := 22, refusal := none, body := s.takeRequest.statusBody }) ∧
    (∀ port, (t.engine port).wasDown = ((s.engine port).wasDown && !(s.engine port).up)) ∧
    (∀ p, (t.mon p).latch = false ∧ (t.mon p).current = (s.mon p).current ∧ (t.mon p).history = (s.mon p).history) ∧
    ((∃ p, (s.mon p).latch = true) → ∀ p, (t.mon p).conditions.deliveryAlarm = false) ∧
    ((∀ p, (s.mon p).latch = false) → t.monitor = s.monitor) ∧
    t.fleet = s.fleet ∧ t.time = s.time ∧ t.products = s.products ∧ t.census = s.census ∧
    t.activation = s.activation ∧ t.allocation = s.allocation ∧ t.params = s.params) ∧
  (∀ (s : State) (r : PendingRequest), s.nextOf 23 = some r → r.payload.length = 1 →
    let u := s.takeRequest
    exec .readLinkErrors s = .next ({ u with
      unknownSites := 0
      activation := { s.activation with rejected := 0 }
      links := { s.links with
        fleet := { s.links.fleet with count := 0, overflow := false, summary := 0 }
        grid := { s.links.grid with count := 0, overflow := false }
        meter := { s.links.meter with count := 0, overflow := false, summary := 0 } } }.respond r none
      (octetsOf 2 s.links.fleet.count ++ octetsOf 2 s.links.grid.count ++ octetsOf 2 s.links.meter.count ++
        [if s.links.fleet.overflow then 1 else 0, if s.links.grid.overflow then 1 else 0,
          if s.links.meter.overflow then 1 else 0] ++
        octetsOf 2 s.links.fleet.summary.toNat ++ octetsOf 2 s.links.meter.summary.toNat ++
        octetsOf 2 s.unknownSites ++ octetsOf 2 s.activation.rejected)))

/-- R5, R19, R49, R65, R119, R160, R175, R191: SET_PARAMETERS is refused whole, or replaces the whole record and answers with
it, and each block acts on the values that changed: the sites are graded again, the ring, gate marks and window start
again from the new length, the timers move, the records that follow frequency are graded again by the silence, and
the link expiries move. Nothing else moves when no value changed that a block acts on. The clauses about the census
and about frequency are for an unchanged window length. That a boundary which still waits is merged into the one of the
new length, by the window of the last boundary taken, is the model's choice (log entry 47). -/
def Obligations.ParametersAreReplacedWhole : Prop :=
  ∀ (s : State) (r : PendingRequest), s.nextOf 24 = some r → r.payload.length = 39 →
    let u := s.takeRequest
    let new := parseParams (r.payload.drop 1)
    let old := s.params
    let refused (e : Reason) : Prop := exec .setParameters s = .next (u.respond r (some e) [])
    let bounds := new.fFresh ≠ old.fFresh ∨ new.fStale ≠ old.fStale
    let ranges := (1000 ≤ new.fFresh ∧ new.fFresh ≤ 300000) ∧ (new.fFresh < new.fStale ∧ new.fStale ≤ 600000) ∧
      (1 ≤ new.tagLimit ∧ new.tagLimit ≤ 15) ∧ (60 ≤ new.suspectHold ∧ new.suspectHold ≤ 3600) ∧
      (1 ≤ new.windowLength ∧ new.windowLength ≤ 60) ∧ (1 ≤ new.censusInterval ∧ new.censusInterval ≤ 60) ∧
      (new.nominal = 50000 ∨ new.nominal = 60000) ∧ (300 ≤ new.sampleTimeout ∧ new.sampleTimeout ≤ 2000) ∧
      (1000 ≤ new.holdTime ∧ new.holdTime ≤ 10000) ∧ (100 ≤ new.releaseSpacing ∧ new.releaseSpacing ≤ 2000) ∧
      (500 ≤ new.confirmTimeout ∧ new.confirmTimeout ≤ 10000) ∧
      (1 ≤ new.unconfirmedLimit ∧ new.unconfirmedLimit ≤ 8) ∧
      (1 ≤ new.performanceInterval ∧ new.performanceInterval ≤ 60) ∧
      (1 ≤ new.heartbeatInterval ∧ new.heartbeatInterval ≤ 60) ∧ (1 ≤ new.linkTimeout ∧ new.linkTimeout ≤ 60) ∧
      new.ackLevel ≤ 3 ∧ new.availabilityLevel ≤ 3 ∧ new.offerLevel ≤ 3 ∧ new.reportLevel ≤ 3 ∧
      new.responseLevel ≤ 3 ∧ new.noticeLevel ≤ 3
    let lives := new.windowLength ≠ old.windowLength ∧ ∃ o ∈ s.book.offers, o.state.terminal = false
    let falls := new.windowLength ≠ old.windowLength ∧ ∃ d, s.deviceTime = some d ∧
      d / (new.windowLength * 60000) < d / (old.windowLength * 60000)
    (¬ ranges → refused .badField) ∧ (ranges → lives → refused .committed) ∧
    (ranges → ¬ lives → falls → refused .wrongState) ∧
    (ranges → ¬ lives → ¬ falls → ∃ t : State, exec .setParameters s = .next (t.respond r none new.octets) ∧
      t.params = new ∧ t.time.localTime = s.time.localTime ∧ t.time.clock = s.time.clock ∧
      t.fleet.siteMap = s.fleet.siteMap ∧ t.fleet.feeders = s.fleet.feeders ∧
      (bounds → ∀ (slot : Nat) (x : Site) (h : ReportFields), s.siteAt slot = some x → x.report = some h →
        t.siteAt slot = some (
          if x.state = .active ∨ x.state = .ageing ∨ x.state = .stale then
            { x with state :=
              if s.localTime - h.receiptTime < new.fFresh then .active
              else if s.localTime - h.receiptTime < new.fStale then .ageing else .stale }
          else x)) ∧
      (¬ bounds → t.fleet = s.fleet) ∧
      -- R49
      (new.windowLength ≠ old.windowLength → ∀ d, s.deviceTime = some d →
        let w := d / (new.windowLength * 60000)
        t.time.boundaryMark = some w ∧ t.book.ring = some w ∧ (∀ p v, t.commitment p v = 0) ∧
        (∀ p, t.time.gateMarks.get p = some ((d + (t.bank p).gateLead * 60000) / (new.windowLength * 60000))) ∧
        (∀ k, s.time.boundaryMark = some k → k < w → ∀ p, (t.mon p).current.window = some w ∧
          (s.book.commitments.get p = [] → (t.act p).obligation = 0 ∧ (t.act p).target = 0))) ∧
      (new.windowLength = old.windowLength ∨ s.deviceTime = none → t.time = s.time ∧ t.products = s.products ∧
        t.book.ring = s.book.ring ∧ t.book.commitments = s.book.commitments) ∧
      -- R65
      (new.windowLength = old.windowLength → new.censusInterval ≠ old.censusInterval →
        let expiry := s.census.timerBase + new.censusInterval * 1000
        (s.localTime < expiry → t.census = { s.census with timerExpiry := expiry }) ∧
        (expiry ≤ s.localTime → t.census.timerExpiry = s.localTime + new.censusInterval * 1000 ∧
          (s.census.run = none → ∃ n, t.census.run = some n ∧ n.kind = .full ∧ n.nextSlot = 0) ∧
          (s.census.run.isSome = true → t.census.run = s.census.run ∧ t.census.fullPending = true))) ∧
      -- R119
      (new.windowLength = old.windowLength →
        let silent (bound : Nat) := ∀ x, s.activation.sample = some x → bound ≤ s.localTime - x.time
        let graded (p : Product) : Prop := (new.sampleTimeout ≠ old.sampleTimeout ∨ new.holdTime ≠ old.holdTime) ∧
          (s.bank p).enabled = true ∧ (s.bank p).mode = .frequency ∧ 0 < (s.act p).obligation
        (∀ p, graded p →
          (silent (new.sampleTimeout + new.holdTime) →
            t.act p = { s.act p with state := .lost, target := 0 } ∧
            ((s.act p).state ≠ .lost → (t.mon p).freqLost = true)) ∧
          (¬ silent (new.sampleTimeout + new.holdTime) →
            t.act p = { s.act p with state := if silent new.sampleTimeout then .holding else .active } ∧
            ((s.act p).state = .lost → (t.mon p).freqLost = false))) ∧
        (∀ p, ¬ graded p → t.act p = s.act p) ∧ t.activation.sample = s.activation.sample) ∧
      -- R160
      (new.performanceInterval ≠ old.performanceInterval →
        let expiry := s.monitor.intervalStart + new.performanceInterval * 1000
        (s.localTime < expiry →
          t.monitor.intervalStart = s.monitor.intervalStart ∧ t.monitor.intervalExpiry = expiry) ∧
        (expiry ≤ s.localTime → t.monitor.intervalStart = s.localTime ∧
          t.monitor.intervalExpiry = s.localTime + new.performanceInterval * 1000)) ∧
      (new.heartbeatInterval ≠ old.heartbeatInterval →
        t.monitor.heartbeatExpiry = t.monitor.heartbeatBase + new.heartbeatInterval * 1000 ∧
        s.localTime < t.monitor.heartbeatExpiry ∧
        (t.monitor.heartbeatBase = s.monitor.heartbeatBase ∨ t.monitor.heartbeatBase = s.localTime) ∧
        (s.monitor.heartbeatBase + new.heartbeatInterval * 1000 ≤ s.localTime →
          t.monitor.heartbeatBase = s.localTime)) ∧
      -- R175
      (new.linkTimeout ≠ old.linkTimeout → ∀ port,
        (∀ v, (s.engine port).up = true → (s.engine port).lastValid = some v →
          let expiry := v + new.linkTimeout * 1000
          (s.localTime < expiry → (t.engine port).up = true ∧ (t.engine port).expiry = some expiry) ∧
          (expiry ≤ s.localTime → (t.engine port).up = false ∧ (t.engine port).wasDown = true)) ∧
        ((s.engine port).up = false →
          (t.engine port).up = false ∧ (t.engine port).expiry = (s.engine port).expiry)) ∧
      (¬ bounds → new.windowLength = old.windowLength → new.censusInterval = old.censusInterval →
        new.sampleTimeout = old.sampleTimeout → new.holdTime = old.holdTime →
        new.performanceInterval = old.performanceInterval → new.heartbeatInterval = old.heartbeatInterval →
        new.linkTimeout = old.linkTimeout → t = { u with params := new }))

/-- R22, R39, R50, R60, R78, R103, R108, R123, R144, R163, R181, R192, R195: RESTART at every block; a FREQUENCY record
whose obligation stays above 0 takes the state its silence gives. That a limit report which waits for the Fleet Table
(the model's list, log entry 48) is kept follows from R140. -/
def Obligations.RestartSetsEachBlockAndKeepsTheRest : Prop :=
  ∀ (s : State) (r : PendingRequest), s.nextOf 25 = some r → r.payload.length = 1 → s.tablesHeld → ∃ t : State,
    exec .restart s = .next t ∧
    (s.gridHolds = true →
      t.arbiter.response = some { sequence := r.sequence, code := 25, refusal := none,
                                  body := [BitVec.ofNat 8 (s.management.queue.length - 1)] } ∧
      t.book.offers = s.book.offers.filter (fun o => !(decide (o.state = .draft) || decide (o.state = .queued)))) ∧
    (∀ slot, t.siteAt slot = (s.siteAt slot).map (fun x =>
        if x.state = .barred then { x with tagRun := 0 }
        else { x with state := .listed, report := none, suspectExpiry := none, tagRun := 0 }) ∧
      t.dispatch slot = { s.dispatch slot with
        allocation := PerProduct.all 0, staged := 0, run := 0, carry := false, expiry := none }) ∧
    t.fleet.siteMap = s.fleet.siteMap ∧ t.fleet.feeders = s.fleet.feeders ∧ t.unknownSites = s.unknownSites ∧
    (t.census.run = none ∧ t.census.fullPending = false ∧ t.census.selectPending = none ∧
      t.census.banksSwitched = false ∧ t.census.published = none ∧ t.census.counter = s.census.counter ∧
      t.census.timerExpiry = s.localTime + s.params.censusInterval * 1000) ∧
    (t.book.reservation = none ∧ t.book.ring = s.book.ring ∧ t.book.commitments = s.book.commitments ∧
      t.book.lastId = s.book.lastId ∧ t.book.created = s.book.created ∧
      ∀ o ∈ t.book.offers, o.state ≠ .draft ∧ o.state ≠ .queued) ∧
    (∀ p,
      let silent (bound : Nat) := ∀ x, s.activation.sample = some x → bound ≤ s.localTime - x.time
      (t.act p).obligation = (match s.currentWindow with | none => 0 | some w => s.commitment p w) ∧
      (t.act p).target = 0 ∧ (t.act p).currentId = none ∧ (t.act p).order = none ∧
      t.time.effective.get p = none ∧
      ((s.bank p).enabled = false ∨ (s.bank p).mode = .signalled ∨ (t.act p).obligation = 0 →
        (t.act p).state = .idle) ∧
      t.allocation.lastPass.get p = { target := 0, allocatable := 0, granted := 0, shortfall := false, census := none } ∧
      ((s.bank p).enabled = true → (s.bank p).mode = .frequency → 0 < (t.act p).obligation →
        (t.act p).state =
          (if silent (s.params.sampleTimeout + s.params.holdTime) then .lost
           else if silent s.params.sampleTimeout then .holding else .active)) ∧
      ((t.mon p).freqLost = true ↔ (t.act p).state = .lost) ∧
      (t.mon p).intervals = 0 ∧ (t.mon p).requested = 0 ∧ (t.mon p).delivered = 0 ∧ (t.mon p).latch = false ∧
      (t.mon p).history = (s.mon p).history ∧
      (t.mon p).current = { window := (s.mon p).current.window, measured := 0, deficient := 0, requested := 0,
                            delivered := 0, alarm := false } ∧
      (t.mon p).conditions.noCensus = true) ∧
    (t.allocation.pass.isSome = true ∧ t.allocation.passPending = false ∧ t.allocation.emission = none ∧
      t.allocation.requested = false ∧ t.allocation.catchUp = true ∧
      t.allocation.releaseCounter = s.allocation.releaseCounter ∧ t.allocation.lastStart = s.allocation.lastStart ∧
      t.allocation.reports = s.allocation.reports) ∧
    (t.monitor.intervalStart = s.localTime ∧
      t.monitor.intervalExpiry = s.localTime + s.params.performanceInterval * 1000 ∧
      t.monitor.heartbeatExpiry = s.localTime + s.params.heartbeatInterval * 1000) ∧
    (t.management.queue = [] ∧ t.management.inExecution = none ∧ t.management.window = s.management.window ∧
      t.management.returnLimit = s.management.returnLimit) ∧
    t.links.fleet = s.links.fleet ∧ t.links.meter = s.links.meter ∧ t.links.fleetTx = s.links.fleetTx ∧
    t.time.localTime = s.time.localTime ∧ t.time.clock = s.time.clock ∧ t.time.gateMarks = s.time.gateMarks ∧
    t.products = s.products ∧ t.params = s.params ∧ t.activation.sample = s.activation.sample

/-! ## Invariants -/

/-- R104: no step takes a target above its obligation. -/
def Obligations.TargetsStayWithinObligations : Prop :=
  ∀ s t : State, s.targetsHeld → step s = .next t → t.targetsHeld

/-- R51, R58, R168, R171, R182, R191: every step keeps the parameters and both banks of every product in their ranges, the
codes of enabled products unique, and the buffers, counts and queues within their bounds. -/
def Obligations.RangesCodesAndQueuesStayHeld : Prop :=
  ∀ s t : State, step s = .next t →
    (s.paramsHeld → t.paramsHeld) ∧ (s.banksHeld → t.banksHeld) ∧ (s.codesHeld → t.codesHeld) ∧
    (s.queuesHeld → t.queuesHeld)

/-- R81, R82, R88, R97: every step keeps the Offer Book within its bounds, its ids unique, each OFFER entry of the source
naming a QUEUED record, the book in book order, and each commitment of the ring the sum of the accepted quantities of its
product and window. -/
def Obligations.OfferBookStaysHeld : Prop :=
  ∀ s t : State, step s = .next t →
    (s.bookHeld → t.bookHeld) ∧ (s.bookOrdered → t.bookOrdered) ∧
    (s.bookHeld → s.banksHeld → s.paramsHeld → s.tablesHeld → s.ringHeld → t.ringHeld)

/-- R10, R18: every step keeps the Site Map, the site counts and the canonical form of the tables. -/
def Obligations.FleetAndTablesStayHeld : Prop :=
  ∀ s t : State, step s = .next t → (s.fleetHeld → t.fleetHeld) ∧ (s.tablesHeld → t.tablesHeld)

/-- The state after a cold reset meets every invariant. -/
def Obligations.ResetMeetsTheInvariants : Prop :=
  State.reset.targetsHeld ∧ State.reset.paramsHeld ∧ State.reset.banksHeld ∧ State.reset.codesHeld ∧
  State.reset.queuesHeld ∧ State.reset.bookHeld ∧ State.reset.bookOrdered ∧ State.reset.ringHeld ∧ State.reset.fleetHeld ∧ State.reset.tablesHeld

end
end

