-- ==== Sys2Proof/Laws/State.lean ====
section
/-! SUPPORT. The small lemmas of State's updates: what each named update leaves as it was, one lemma per field, and the
eight values of a PerProduct read back. -/

namespace Sys2Proof.Machine

/-! ## Eight values, one for each product -/

@[simp] theorem PerProduct.get_ofFn {α : Type} (f : Product → α) (p : Product) : (PerProduct.ofFn f).get p = f p := by
  fin_cases p <;> rfl

@[simp] theorem PerProduct.get_all {α : Type} (a : α) (p : Product) : (PerProduct.all a).get p = a := by
  fin_cases p <;> rfl

@[simp] theorem PerProduct.get_set {α : Type} (x : PerProduct α) (p q : Product) (a : α) :
    (x.set p a).get q = if q = p then a else x.get q := by
  fin_cases p <;> fin_cases q <;> rfl

theorem PerProduct.ext_get {α : Type} {x y : PerProduct α} (h : ∀ p, x.get p = y.get p) : x = y := by
  obtain ⟨a0, a1, a2, a3, a4, a5, a6, a7⟩ := x
  obtain ⟨b0, b1, b2, b3, b4, b5, b6, b7⟩ := y
  have h0 := h 0; have h1 := h 1; have h2 := h 2; have h3 := h 3
  have h4 := h 4; have h5 := h 5; have h6 := h 6; have h7 := h 7
  simp_all [PerProduct.get]

/-! ## What each update leaves as it was -/

@[simp] theorem State.setSite_unknownSites (s : State) (slot : Nat) (x : Site) : (s.setSite slot x).unknownSites = s.unknownSites := rfl
@[simp] theorem State.setSite_time (s : State) (slot : Nat) (x : Site) : (s.setSite slot x).time = s.time := rfl
@[simp] theorem State.setSite_products (s : State) (slot : Nat) (x : Site) : (s.setSite slot x).products = s.products := rfl
@[simp] theorem State.setSite_census (s : State) (slot : Nat) (x : Site) : (s.setSite slot x).census = s.census := rfl
@[simp] theorem State.setSite_book (s : State) (slot : Nat) (x : Site) : (s.setSite slot x).book = s.book := rfl
@[simp] theorem State.setSite_activation (s : State) (slot : Nat) (x : Site) : (s.setSite slot x).activation = s.activation := rfl
@[simp] theorem State.setSite_allocation (s : State) (slot : Nat) (x : Site) : (s.setSite slot x).allocation = s.allocation := rfl
@[simp] theorem State.setSite_monitor (s : State) (slot : Nat) (x : Site) : (s.setSite slot x).monitor = s.monitor := rfl
@[simp] theorem State.setSite_links (s : State) (slot : Nat) (x : Site) : (s.setSite slot x).links = s.links := rfl
@[simp] theorem State.setSite_arbiter (s : State) (slot : Nat) (x : Site) : (s.setSite slot x).arbiter = s.arbiter := rfl
@[simp] theorem State.setSite_management (s : State) (slot : Nat) (x : Site) : (s.setSite slot x).management = s.management := rfl
@[simp] theorem State.setSite_params (s : State) (slot : Nat) (x : Site) : (s.setSite slot x).params = s.params := rfl
@[simp] theorem State.setSite_freeDraws (s : State) (slot : Nat) (x : Site) : (s.setSite slot x).freeDraws = s.freeDraws := rfl
@[simp] theorem State.setSite_pending (s : State) (slot : Nat) (x : Site) : (s.setSite slot x).pending = s.pending := rfl

@[simp] theorem State.setFeeder_unknownSites (s : State) (f : Nat) (x : Feeder) : (s.setFeeder f x).unknownSites = s.unknownSites := rfl
@[simp] theorem State.setFeeder_time (s : State) (f : Nat) (x : Feeder) : (s.setFeeder f x).time = s.time := rfl
@[simp] theorem State.setFeeder_products (s : State) (f : Nat) (x : Feeder) : (s.setFeeder f x).products = s.products := rfl
@[simp] theorem State.setFeeder_census (s : State) (f : Nat) (x : Feeder) : (s.setFeeder f x).census = s.census := rfl
@[simp] theorem State.setFeeder_book (s : State) (f : Nat) (x : Feeder) : (s.setFeeder f x).book = s.book := rfl
@[simp] theorem State.setFeeder_activation (s : State) (f : Nat) (x : Feeder) : (s.setFeeder f x).activation = s.activation := rfl
@[simp] theorem State.setFeeder_allocation (s : State) (f : Nat) (x : Feeder) : (s.setFeeder f x).allocation = s.allocation := rfl
@[simp] theorem State.setFeeder_monitor (s : State) (f : Nat) (x : Feeder) : (s.setFeeder f x).monitor = s.monitor := rfl
@[simp] theorem State.setFeeder_links (s : State) (f : Nat) (x : Feeder) : (s.setFeeder f x).links = s.links := rfl
@[simp] theorem State.setFeeder_arbiter (s : State) (f : Nat) (x : Feeder) : (s.setFeeder f x).arbiter = s.arbiter := rfl
@[simp] theorem State.setFeeder_management (s : State) (f : Nat) (x : Feeder) : (s.setFeeder f x).management = s.management := rfl
@[simp] theorem State.setFeeder_params (s : State) (f : Nat) (x : Feeder) : (s.setFeeder f x).params = s.params := rfl
@[simp] theorem State.setFeeder_freeDraws (s : State) (f : Nat) (x : Feeder) : (s.setFeeder f x).freeDraws = s.freeDraws := rfl
@[simp] theorem State.setFeeder_pending (s : State) (f : Nat) (x : Feeder) : (s.setFeeder f x).pending = s.pending := rfl

@[simp] theorem State.countUp_unknownSites (s : State) (f : Nat) : (s.countUp f).unknownSites = s.unknownSites := rfl
@[simp] theorem State.countUp_time (s : State) (f : Nat) : (s.countUp f).time = s.time := rfl
@[simp] theorem State.countUp_products (s : State) (f : Nat) : (s.countUp f).products = s.products := rfl
@[simp] theorem State.countUp_census (s : State) (f : Nat) : (s.countUp f).census = s.census := rfl
@[simp] theorem State.countUp_book (s : State) (f : Nat) : (s.countUp f).book = s.book := rfl
@[simp] theorem State.countUp_activation (s : State) (f : Nat) : (s.countUp f).activation = s.activation := rfl
@[simp] theorem State.countUp_allocation (s : State) (f : Nat) : (s.countUp f).allocation = s.allocation := rfl
@[simp] theorem State.countUp_monitor (s : State) (f : Nat) : (s.countUp f).monitor = s.monitor := rfl
@[simp] theorem State.countUp_links (s : State) (f : Nat) : (s.countUp f).links = s.links := rfl
@[simp] theorem State.countUp_arbiter (s : State) (f : Nat) : (s.countUp f).arbiter = s.arbiter := rfl
@[simp] theorem State.countUp_management (s : State) (f : Nat) : (s.countUp f).management = s.management := rfl
@[simp] theorem State.countUp_params (s : State) (f : Nat) : (s.countUp f).params = s.params := rfl
@[simp] theorem State.countUp_freeDraws (s : State) (f : Nat) : (s.countUp f).freeDraws = s.freeDraws := rfl
@[simp] theorem State.countUp_pending (s : State) (f : Nat) : (s.countUp f).pending = s.pending := rfl

@[simp] theorem State.countDown_unknownSites (s : State) (f : Nat) : (s.countDown f).unknownSites = s.unknownSites := rfl
@[simp] theorem State.countDown_time (s : State) (f : Nat) : (s.countDown f).time = s.time := rfl
@[simp] theorem State.countDown_products (s : State) (f : Nat) : (s.countDown f).products = s.products := rfl
@[simp] theorem State.countDown_census (s : State) (f : Nat) : (s.countDown f).census = s.census := rfl
@[simp] theorem State.countDown_book (s : State) (f : Nat) : (s.countDown f).book = s.book := rfl
@[simp] theorem State.countDown_activation (s : State) (f : Nat) : (s.countDown f).activation = s.activation := rfl
@[simp] theorem State.countDown_allocation (s : State) (f : Nat) : (s.countDown f).allocation = s.allocation := rfl
@[simp] theorem State.countDown_monitor (s : State) (f : Nat) : (s.countDown f).monitor = s.monitor := rfl
@[simp] theorem State.countDown_links (s : State) (f : Nat) : (s.countDown f).links = s.links := rfl
@[simp] theorem State.countDown_arbiter (s : State) (f : Nat) : (s.countDown f).arbiter = s.arbiter := rfl
@[simp] theorem State.countDown_management (s : State) (f : Nat) : (s.countDown f).management = s.management := rfl
@[simp] theorem State.countDown_params (s : State) (f : Nat) : (s.countDown f).params = s.params := rfl
@[simp] theorem State.countDown_freeDraws (s : State) (f : Nat) : (s.countDown f).freeDraws = s.freeDraws := rfl
@[simp] theorem State.countDown_pending (s : State) (f : Nat) : (s.countDown f).pending = s.pending := rfl

@[simp] theorem State.mapSite_unknownSites (s : State) (n slot : Nat) : (s.mapSite n slot).unknownSites = s.unknownSites := rfl
@[simp] theorem State.mapSite_time (s : State) (n slot : Nat) : (s.mapSite n slot).time = s.time := rfl
@[simp] theorem State.mapSite_products (s : State) (n slot : Nat) : (s.mapSite n slot).products = s.products := rfl
@[simp] theorem State.mapSite_census (s : State) (n slot : Nat) : (s.mapSite n slot).census = s.census := rfl
@[simp] theorem State.mapSite_book (s : State) (n slot : Nat) : (s.mapSite n slot).book = s.book := rfl
@[simp] theorem State.mapSite_activation (s : State) (n slot : Nat) : (s.mapSite n slot).activation = s.activation := rfl
@[simp] theorem State.mapSite_allocation (s : State) (n slot : Nat) : (s.mapSite n slot).allocation = s.allocation := rfl
@[simp] theorem State.mapSite_monitor (s : State) (n slot : Nat) : (s.mapSite n slot).monitor = s.monitor := rfl
@[simp] theorem State.mapSite_links (s : State) (n slot : Nat) : (s.mapSite n slot).links = s.links := rfl
@[simp] theorem State.mapSite_arbiter (s : State) (n slot : Nat) : (s.mapSite n slot).arbiter = s.arbiter := rfl
@[simp] theorem State.mapSite_management (s : State) (n slot : Nat) : (s.mapSite n slot).management = s.management := rfl
@[simp] theorem State.mapSite_params (s : State) (n slot : Nat) : (s.mapSite n slot).params = s.params := rfl
@[simp] theorem State.mapSite_freeDraws (s : State) (n slot : Nat) : (s.mapSite n slot).freeDraws = s.freeDraws := rfl
@[simp] theorem State.mapSite_pending (s : State) (n slot : Nat) : (s.mapSite n slot).pending = s.pending := rfl

@[simp] theorem State.unmapSite_unknownSites (s : State) (n : Nat) : (s.unmapSite n).unknownSites = s.unknownSites := rfl
@[simp] theorem State.unmapSite_time (s : State) (n : Nat) : (s.unmapSite n).time = s.time := rfl
@[simp] theorem State.unmapSite_products (s : State) (n : Nat) : (s.unmapSite n).products = s.products := rfl
@[simp] theorem State.unmapSite_census (s : State) (n : Nat) : (s.unmapSite n).census = s.census := rfl
@[simp] theorem State.unmapSite_book (s : State) (n : Nat) : (s.unmapSite n).book = s.book := rfl
@[simp] theorem State.unmapSite_activation (s : State) (n : Nat) : (s.unmapSite n).activation = s.activation := rfl
@[simp] theorem State.unmapSite_allocation (s : State) (n : Nat) : (s.unmapSite n).allocation = s.allocation := rfl
@[simp] theorem State.unmapSite_monitor (s : State) (n : Nat) : (s.unmapSite n).monitor = s.monitor := rfl
@[simp] theorem State.unmapSite_links (s : State) (n : Nat) : (s.unmapSite n).links = s.links := rfl
@[simp] theorem State.unmapSite_arbiter (s : State) (n : Nat) : (s.unmapSite n).arbiter = s.arbiter := rfl
@[simp] theorem State.unmapSite_management (s : State) (n : Nat) : (s.unmapSite n).management = s.management := rfl
@[simp] theorem State.unmapSite_params (s : State) (n : Nat) : (s.unmapSite n).params = s.params := rfl
@[simp] theorem State.unmapSite_freeDraws (s : State) (n : Nat) : (s.unmapSite n).freeDraws = s.freeDraws := rfl
@[simp] theorem State.unmapSite_pending (s : State) (n : Nat) : (s.unmapSite n).pending = s.pending := rfl

@[simp] theorem State.setDispatch_fleet (s : State) (slot : Nat) (d : DispatchRecord) : (s.setDispatch slot d).fleet = s.fleet := rfl
@[simp] theorem State.setDispatch_unknownSites (s : State) (slot : Nat) (d : DispatchRecord) : (s.setDispatch slot d).unknownSites = s.unknownSites := rfl
@[simp] theorem State.setDispatch_time (s : State) (slot : Nat) (d : DispatchRecord) : (s.setDispatch slot d).time = s.time := rfl
@[simp] theorem State.setDispatch_products (s : State) (slot : Nat) (d : DispatchRecord) : (s.setDispatch slot d).products = s.products := rfl
@[simp] theorem State.setDispatch_census (s : State) (slot : Nat) (d : DispatchRecord) : (s.setDispatch slot d).census = s.census := rfl
@[simp] theorem State.setDispatch_book (s : State) (slot : Nat) (d : DispatchRecord) : (s.setDispatch slot d).book = s.book := rfl
@[simp] theorem State.setDispatch_activation (s : State) (slot : Nat) (d : DispatchRecord) : (s.setDispatch slot d).activation = s.activation := rfl
@[simp] theorem State.setDispatch_monitor (s : State) (slot : Nat) (d : DispatchRecord) : (s.setDispatch slot d).monitor = s.monitor := rfl
@[simp] theorem State.setDispatch_links (s : State) (slot : Nat) (d : DispatchRecord) : (s.setDispatch slot d).links = s.links := rfl
@[simp] theorem State.setDispatch_arbiter (s : State) (slot : Nat) (d : DispatchRecord) : (s.setDispatch slot d).arbiter = s.arbiter := rfl
@[simp] theorem State.setDispatch_management (s : State) (slot : Nat) (d : DispatchRecord) : (s.setDispatch slot d).management = s.management := rfl
@[simp] theorem State.setDispatch_params (s : State) (slot : Nat) (d : DispatchRecord) : (s.setDispatch slot d).params = s.params := rfl
@[simp] theorem State.setDispatch_freeDraws (s : State) (slot : Nat) (d : DispatchRecord) : (s.setDispatch slot d).freeDraws = s.freeDraws := rfl
@[simp] theorem State.setDispatch_pending (s : State) (slot : Nat) (d : DispatchRecord) : (s.setDispatch slot d).pending = s.pending := rfl

@[simp] theorem State.mapOffer_fleet (s : State) (id : Nat) (f : Offer → Offer) : (s.mapOffer id f).fleet = s.fleet := rfl
@[simp] theorem State.mapOffer_unknownSites (s : State) (id : Nat) (f : Offer → Offer) : (s.mapOffer id f).unknownSites = s.unknownSites := rfl
@[simp] theorem State.mapOffer_time (s : State) (id : Nat) (f : Offer → Offer) : (s.mapOffer id f).time = s.time := rfl
@[simp] theorem State.mapOffer_products (s : State) (id : Nat) (f : Offer → Offer) : (s.mapOffer id f).products = s.products := rfl
@[simp] theorem State.mapOffer_census (s : State) (id : Nat) (f : Offer → Offer) : (s.mapOffer id f).census = s.census := rfl
@[simp] theorem State.mapOffer_activation (s : State) (id : Nat) (f : Offer → Offer) : (s.mapOffer id f).activation = s.activation := rfl
@[simp] theorem State.mapOffer_allocation (s : State) (id : Nat) (f : Offer → Offer) : (s.mapOffer id f).allocation = s.allocation := rfl
@[simp] theorem State.mapOffer_monitor (s : State) (id : Nat) (f : Offer → Offer) : (s.mapOffer id f).monitor = s.monitor := rfl
@[simp] theorem State.mapOffer_links (s : State) (id : Nat) (f : Offer → Offer) : (s.mapOffer id f).links = s.links := rfl
@[simp] theorem State.mapOffer_arbiter (s : State) (id : Nat) (f : Offer → Offer) : (s.mapOffer id f).arbiter = s.arbiter := rfl
@[simp] theorem State.mapOffer_management (s : State) (id : Nat) (f : Offer → Offer) : (s.mapOffer id f).management = s.management := rfl
@[simp] theorem State.mapOffer_params (s : State) (id : Nat) (f : Offer → Offer) : (s.mapOffer id f).params = s.params := rfl
@[simp] theorem State.mapOffer_freeDraws (s : State) (id : Nat) (f : Offer → Offer) : (s.mapOffer id f).freeDraws = s.freeDraws := rfl
@[simp] theorem State.mapOffer_pending (s : State) (id : Nat) (f : Offer → Offer) : (s.mapOffer id f).pending = s.pending := rfl

@[simp] theorem State.deleteOffer_fleet (s : State) (id : Nat) : (s.deleteOffer id).fleet = s.fleet := rfl
@[simp] theorem State.deleteOffer_unknownSites (s : State) (id : Nat) : (s.deleteOffer id).unknownSites = s.unknownSites := rfl
@[simp] theorem State.deleteOffer_time (s : State) (id : Nat) : (s.deleteOffer id).time = s.time := rfl
@[simp] theorem State.deleteOffer_products (s : State) (id : Nat) : (s.deleteOffer id).products = s.products := rfl
@[simp] theorem State.deleteOffer_census (s : State) (id : Nat) : (s.deleteOffer id).census = s.census := rfl
@[simp] theorem State.deleteOffer_activation (s : State) (id : Nat) : (s.deleteOffer id).activation = s.activation := rfl
@[simp] theorem State.deleteOffer_allocation (s : State) (id : Nat) : (s.deleteOffer id).allocation = s.allocation := rfl
@[simp] theorem State.deleteOffer_monitor (s : State) (id : Nat) : (s.deleteOffer id).monitor = s.monitor := rfl
@[simp] theorem State.deleteOffer_links (s : State) (id : Nat) : (s.deleteOffer id).links = s.links := rfl
@[simp] theorem State.deleteOffer_arbiter (s : State) (id : Nat) : (s.deleteOffer id).arbiter = s.arbiter := rfl
@[simp] theorem State.deleteOffer_management (s : State) (id : Nat) : (s.deleteOffer id).management = s.management := rfl
@[simp] theorem State.deleteOffer_params (s : State) (id : Nat) : (s.deleteOffer id).params = s.params := rfl
@[simp] theorem State.deleteOffer_freeDraws (s : State) (id : Nat) : (s.deleteOffer id).freeDraws = s.freeDraws := rfl
@[simp] theorem State.deleteOffer_pending (s : State) (id : Nat) : (s.deleteOffer id).pending = s.pending := rfl

@[simp] theorem State.clearReservation_fleet (s : State) (id : Nat) : (s.clearReservation id).fleet = s.fleet := rfl
@[simp] theorem State.clearReservation_unknownSites (s : State) (id : Nat) : (s.clearReservation id).unknownSites = s.unknownSites := rfl
@[simp] theorem State.clearReservation_time (s : State) (id : Nat) : (s.clearReservation id).time = s.time := rfl
@[simp] theorem State.clearReservation_products (s : State) (id : Nat) : (s.clearReservation id).products = s.products := rfl
@[simp] theorem State.clearReservation_census (s : State) (id : Nat) : (s.clearReservation id).census = s.census := rfl
@[simp] theorem State.clearReservation_activation (s : State) (id : Nat) : (s.clearReservation id).activation = s.activation := rfl
@[simp] theorem State.clearReservation_allocation (s : State) (id : Nat) : (s.clearReservation id).allocation = s.allocation := rfl
@[simp] theorem State.clearReservation_monitor (s : State) (id : Nat) : (s.clearReservation id).monitor = s.monitor := rfl
@[simp] theorem State.clearReservation_links (s : State) (id : Nat) : (s.clearReservation id).links = s.links := rfl
@[simp] theorem State.clearReservation_arbiter (s : State) (id : Nat) : (s.clearReservation id).arbiter = s.arbiter := rfl
@[simp] theorem State.clearReservation_management (s : State) (id : Nat) : (s.clearReservation id).management = s.management := rfl
@[simp] theorem State.clearReservation_params (s : State) (id : Nat) : (s.clearReservation id).params = s.params := rfl
@[simp] theorem State.clearReservation_freeDraws (s : State) (id : Nat) : (s.clearReservation id).freeDraws = s.freeDraws := rfl
@[simp] theorem State.clearReservation_pending (s : State) (id : Nat) : (s.clearReservation id).pending = s.pending := rfl

@[simp] theorem State.commit_fleet (s : State) (p : Product) (w q : Nat) : (s.commit p w q).fleet = s.fleet := rfl
@[simp] theorem State.commit_unknownSites (s : State) (p : Product) (w q : Nat) : (s.commit p w q).unknownSites = s.unknownSites := rfl
@[simp] theorem State.commit_time (s : State) (p : Product) (w q : Nat) : (s.commit p w q).time = s.time := rfl
@[simp] theorem State.commit_products (s : State) (p : Product) (w q : Nat) : (s.commit p w q).products = s.products := rfl
@[simp] theorem State.commit_census (s : State) (p : Product) (w q : Nat) : (s.commit p w q).census = s.census := rfl
@[simp] theorem State.commit_activation (s : State) (p : Product) (w q : Nat) : (s.commit p w q).activation = s.activation := rfl
@[simp] theorem State.commit_allocation (s : State) (p : Product) (w q : Nat) : (s.commit p w q).allocation = s.allocation := rfl
@[simp] theorem State.commit_monitor (s : State) (p : Product) (w q : Nat) : (s.commit p w q).monitor = s.monitor := rfl
@[simp] theorem State.commit_links (s : State) (p : Product) (w q : Nat) : (s.commit p w q).links = s.links := rfl
@[simp] theorem State.commit_arbiter (s : State) (p : Product) (w q : Nat) : (s.commit p w q).arbiter = s.arbiter := rfl
@[simp] theorem State.commit_management (s : State) (p : Product) (w q : Nat) : (s.commit p w q).management = s.management := rfl
@[simp] theorem State.commit_params (s : State) (p : Product) (w q : Nat) : (s.commit p w q).params = s.params := rfl
@[simp] theorem State.commit_freeDraws (s : State) (p : Product) (w q : Nat) : (s.commit p w q).freeDraws = s.freeDraws := rfl
@[simp] theorem State.commit_pending (s : State) (p : Product) (w q : Nat) : (s.commit p w q).pending = s.pending := rfl

@[simp] theorem State.freshRing_fleet (s : State) (w : Nat) : (s.freshRing w).fleet = s.fleet := rfl
@[simp] theorem State.freshRing_unknownSites (s : State) (w : Nat) : (s.freshRing w).unknownSites = s.unknownSites := rfl
@[simp] theorem State.freshRing_time (s : State) (w : Nat) : (s.freshRing w).time = s.time := rfl
@[simp] theorem State.freshRing_products (s : State) (w : Nat) : (s.freshRing w).products = s.products := rfl
@[simp] theorem State.freshRing_census (s : State) (w : Nat) : (s.freshRing w).census = s.census := rfl
@[simp] theorem State.freshRing_activation (s : State) (w : Nat) : (s.freshRing w).activation = s.activation := rfl
@[simp] theorem State.freshRing_allocation (s : State) (w : Nat) : (s.freshRing w).allocation = s.allocation := rfl
@[simp] theorem State.freshRing_monitor (s : State) (w : Nat) : (s.freshRing w).monitor = s.monitor := rfl
@[simp] theorem State.freshRing_links (s : State) (w : Nat) : (s.freshRing w).links = s.links := rfl
@[simp] theorem State.freshRing_arbiter (s : State) (w : Nat) : (s.freshRing w).arbiter = s.arbiter := rfl
@[simp] theorem State.freshRing_management (s : State) (w : Nat) : (s.freshRing w).management = s.management := rfl
@[simp] theorem State.freshRing_params (s : State) (w : Nat) : (s.freshRing w).params = s.params := rfl
@[simp] theorem State.freshRing_freeDraws (s : State) (w : Nat) : (s.freshRing w).freeDraws = s.freeDraws := rfl
@[simp] theorem State.freshRing_pending (s : State) (w : Nat) : (s.freshRing w).pending = s.pending := rfl

@[simp] theorem State.recycleRing_fleet (s : State) (w : Nat) : (s.recycleRing w).fleet = s.fleet := rfl
@[simp] theorem State.recycleRing_unknownSites (s : State) (w : Nat) : (s.recycleRing w).unknownSites = s.unknownSites := rfl
@[simp] theorem State.recycleRing_time (s : State) (w : Nat) : (s.recycleRing w).time = s.time := rfl
@[simp] theorem State.recycleRing_products (s : State) (w : Nat) : (s.recycleRing w).products = s.products := rfl
@[simp] theorem State.recycleRing_census (s : State) (w : Nat) : (s.recycleRing w).census = s.census := rfl
@[simp] theorem State.recycleRing_activation (s : State) (w : Nat) : (s.recycleRing w).activation = s.activation := rfl
@[simp] theorem State.recycleRing_allocation (s : State) (w : Nat) : (s.recycleRing w).allocation = s.allocation := rfl
@[simp] theorem State.recycleRing_monitor (s : State) (w : Nat) : (s.recycleRing w).monitor = s.monitor := rfl
@[simp] theorem State.recycleRing_links (s : State) (w : Nat) : (s.recycleRing w).links = s.links := rfl
@[simp] theorem State.recycleRing_arbiter (s : State) (w : Nat) : (s.recycleRing w).arbiter = s.arbiter := rfl
@[simp] theorem State.recycleRing_management (s : State) (w : Nat) : (s.recycleRing w).management = s.management := rfl
@[simp] theorem State.recycleRing_params (s : State) (w : Nat) : (s.recycleRing w).params = s.params := rfl
@[simp] theorem State.recycleRing_freeDraws (s : State) (w : Nat) : (s.recycleRing w).freeDraws = s.freeDraws := rfl
@[simp] theorem State.recycleRing_pending (s : State) (w : Nat) : (s.recycleRing w).pending = s.pending := rfl

@[simp] theorem State.addOffer_fleet (s : State) (o : Offer) : (s.addOffer o).fleet = s.fleet := rfl
@[simp] theorem State.addOffer_unknownSites (s : State) (o : Offer) : (s.addOffer o).unknownSites = s.unknownSites := rfl
@[simp] theorem State.addOffer_time (s : State) (o : Offer) : (s.addOffer o).time = s.time := rfl
@[simp] theorem State.addOffer_products (s : State) (o : Offer) : (s.addOffer o).products = s.products := rfl
@[simp] theorem State.addOffer_census (s : State) (o : Offer) : (s.addOffer o).census = s.census := rfl
@[simp] theorem State.addOffer_activation (s : State) (o : Offer) : (s.addOffer o).activation = s.activation := rfl
@[simp] theorem State.addOffer_allocation (s : State) (o : Offer) : (s.addOffer o).allocation = s.allocation := rfl
@[simp] theorem State.addOffer_monitor (s : State) (o : Offer) : (s.addOffer o).monitor = s.monitor := rfl
@[simp] theorem State.addOffer_links (s : State) (o : Offer) : (s.addOffer o).links = s.links := rfl
@[simp] theorem State.addOffer_arbiter (s : State) (o : Offer) : (s.addOffer o).arbiter = s.arbiter := rfl
@[simp] theorem State.addOffer_management (s : State) (o : Offer) : (s.addOffer o).management = s.management := rfl
@[simp] theorem State.addOffer_params (s : State) (o : Offer) : (s.addOffer o).params = s.params := rfl
@[simp] theorem State.addOffer_freeDraws (s : State) (o : Offer) : (s.addOffer o).freeDraws = s.freeDraws := rfl
@[simp] theorem State.addOffer_pending (s : State) (o : Offer) : (s.addOffer o).pending = s.pending := rfl

@[simp] theorem State.retire_fleet (s : State) (range : Option (Nat × Nat)) : (s.retire range).fleet = s.fleet := rfl
@[simp] theorem State.retire_unknownSites (s : State) (range : Option (Nat × Nat)) : (s.retire range).unknownSites = s.unknownSites := rfl
@[simp] theorem State.retire_time (s : State) (range : Option (Nat × Nat)) : (s.retire range).time = s.time := rfl
@[simp] theorem State.retire_products (s : State) (range : Option (Nat × Nat)) : (s.retire range).products = s.products := rfl
@[simp] theorem State.retire_census (s : State) (range : Option (Nat × Nat)) : (s.retire range).census = s.census := rfl
@[simp] theorem State.retire_activation (s : State) (range : Option (Nat × Nat)) : (s.retire range).activation = s.activation := rfl
@[simp] theorem State.retire_allocation (s : State) (range : Option (Nat × Nat)) : (s.retire range).allocation = s.allocation := rfl
@[simp] theorem State.retire_monitor (s : State) (range : Option (Nat × Nat)) : (s.retire range).monitor = s.monitor := rfl
@[simp] theorem State.retire_links (s : State) (range : Option (Nat × Nat)) : (s.retire range).links = s.links := rfl
@[simp] theorem State.retire_arbiter (s : State) (range : Option (Nat × Nat)) : (s.retire range).arbiter = s.arbiter := rfl
@[simp] theorem State.retire_management (s : State) (range : Option (Nat × Nat)) : (s.retire range).management = s.management := rfl
@[simp] theorem State.retire_params (s : State) (range : Option (Nat × Nat)) : (s.retire range).params = s.params := rfl
@[simp] theorem State.retire_freeDraws (s : State) (range : Option (Nat × Nat)) : (s.retire range).freeDraws = s.freeDraws := rfl
@[simp] theorem State.retire_pending (s : State) (range : Option (Nat × Nat)) : (s.retire range).pending = s.pending := rfl

@[simp] theorem State.reserve_fleet (s : State) (x : Option Nat) : (s.reserve x).fleet = s.fleet := rfl
@[simp] theorem State.reserve_unknownSites (s : State) (x : Option Nat) : (s.reserve x).unknownSites = s.unknownSites := rfl
@[simp] theorem State.reserve_time (s : State) (x : Option Nat) : (s.reserve x).time = s.time := rfl
@[simp] theorem State.reserve_products (s : State) (x : Option Nat) : (s.reserve x).products = s.products := rfl
@[simp] theorem State.reserve_census (s : State) (x : Option Nat) : (s.reserve x).census = s.census := rfl
@[simp] theorem State.reserve_activation (s : State) (x : Option Nat) : (s.reserve x).activation = s.activation := rfl
@[simp] theorem State.reserve_allocation (s : State) (x : Option Nat) : (s.reserve x).allocation = s.allocation := rfl
@[simp] theorem State.reserve_monitor (s : State) (x : Option Nat) : (s.reserve x).monitor = s.monitor := rfl
@[simp] theorem State.reserve_links (s : State) (x : Option Nat) : (s.reserve x).links = s.links := rfl
@[simp] theorem State.reserve_arbiter (s : State) (x : Option Nat) : (s.reserve x).arbiter = s.arbiter := rfl
@[simp] theorem State.reserve_management (s : State) (x : Option Nat) : (s.reserve x).management = s.management := rfl
@[simp] theorem State.reserve_params (s : State) (x : Option Nat) : (s.reserve x).params = s.params := rfl
@[simp] theorem State.reserve_freeDraws (s : State) (x : Option Nat) : (s.reserve x).freeDraws = s.freeDraws := rfl
@[simp] theorem State.reserve_pending (s : State) (x : Option Nat) : (s.reserve x).pending = s.pending := rfl

@[simp] theorem State.setAct_fleet (s : State) (p : Product) (r : ActRecord) : (s.setAct p r).fleet = s.fleet := rfl
@[simp] theorem State.setAct_unknownSites (s : State) (p : Product) (r : ActRecord) : (s.setAct p r).unknownSites = s.unknownSites := rfl
@[simp] theorem State.setAct_time (s : State) (p : Product) (r : ActRecord) : (s.setAct p r).time = s.time := rfl
@[simp] theorem State.setAct_products (s : State) (p : Product) (r : ActRecord) : (s.setAct p r).products = s.products := rfl
@[simp] theorem State.setAct_census (s : State) (p : Product) (r : ActRecord) : (s.setAct p r).census = s.census := rfl
@[simp] theorem State.setAct_book (s : State) (p : Product) (r : ActRecord) : (s.setAct p r).book = s.book := rfl
@[simp] theorem State.setAct_allocation (s : State) (p : Product) (r : ActRecord) : (s.setAct p r).allocation = s.allocation := rfl
@[simp] theorem State.setAct_monitor (s : State) (p : Product) (r : ActRecord) : (s.setAct p r).monitor = s.monitor := rfl
@[simp] theorem State.setAct_links (s : State) (p : Product) (r : ActRecord) : (s.setAct p r).links = s.links := rfl
@[simp] theorem State.setAct_arbiter (s : State) (p : Product) (r : ActRecord) : (s.setAct p r).arbiter = s.arbiter := rfl
@[simp] theorem State.setAct_management (s : State) (p : Product) (r : ActRecord) : (s.setAct p r).management = s.management := rfl
@[simp] theorem State.setAct_params (s : State) (p : Product) (r : ActRecord) : (s.setAct p r).params = s.params := rfl
@[simp] theorem State.setAct_freeDraws (s : State) (p : Product) (r : ActRecord) : (s.setAct p r).freeDraws = s.freeDraws := rfl
@[simp] theorem State.setAct_pending (s : State) (p : Product) (r : ActRecord) : (s.setAct p r).pending = s.pending := rfl

@[simp] theorem State.mapActs_fleet (s : State) (f : Product → ActRecord) : (s.mapActs f).fleet = s.fleet := rfl
@[simp] theorem State.mapActs_unknownSites (s : State) (f : Product → ActRecord) : (s.mapActs f).unknownSites = s.unknownSites := rfl
@[simp] theorem State.mapActs_time (s : State) (f : Product → ActRecord) : (s.mapActs f).time = s.time := rfl
@[simp] theorem State.mapActs_products (s : State) (f : Product → ActRecord) : (s.mapActs f).products = s.products := rfl
@[simp] theorem State.mapActs_census (s : State) (f : Product → ActRecord) : (s.mapActs f).census = s.census := rfl
@[simp] theorem State.mapActs_book (s : State) (f : Product → ActRecord) : (s.mapActs f).book = s.book := rfl
@[simp] theorem State.mapActs_allocation (s : State) (f : Product → ActRecord) : (s.mapActs f).allocation = s.allocation := rfl
@[simp] theorem State.mapActs_monitor (s : State) (f : Product → ActRecord) : (s.mapActs f).monitor = s.monitor := rfl
@[simp] theorem State.mapActs_links (s : State) (f : Product → ActRecord) : (s.mapActs f).links = s.links := rfl
@[simp] theorem State.mapActs_arbiter (s : State) (f : Product → ActRecord) : (s.mapActs f).arbiter = s.arbiter := rfl
@[simp] theorem State.mapActs_management (s : State) (f : Product → ActRecord) : (s.mapActs f).management = s.management := rfl
@[simp] theorem State.mapActs_params (s : State) (f : Product → ActRecord) : (s.mapActs f).params = s.params := rfl
@[simp] theorem State.mapActs_freeDraws (s : State) (f : Product → ActRecord) : (s.mapActs f).freeDraws = s.freeDraws := rfl
@[simp] theorem State.mapActs_pending (s : State) (f : Product → ActRecord) : (s.mapActs f).pending = s.pending := rfl

@[simp] theorem State.rejectSample_fleet (s : State) : (s.rejectSample).fleet = s.fleet := rfl
@[simp] theorem State.rejectSample_unknownSites (s : State) : (s.rejectSample).unknownSites = s.unknownSites := rfl
@[simp] theorem State.rejectSample_time (s : State) : (s.rejectSample).time = s.time := rfl
@[simp] theorem State.rejectSample_products (s : State) : (s.rejectSample).products = s.products := rfl
@[simp] theorem State.rejectSample_census (s : State) : (s.rejectSample).census = s.census := rfl
@[simp] theorem State.rejectSample_book (s : State) : (s.rejectSample).book = s.book := rfl
@[simp] theorem State.rejectSample_allocation (s : State) : (s.rejectSample).allocation = s.allocation := rfl
@[simp] theorem State.rejectSample_monitor (s : State) : (s.rejectSample).monitor = s.monitor := rfl
@[simp] theorem State.rejectSample_links (s : State) : (s.rejectSample).links = s.links := rfl
@[simp] theorem State.rejectSample_arbiter (s : State) : (s.rejectSample).arbiter = s.arbiter := rfl
@[simp] theorem State.rejectSample_management (s : State) : (s.rejectSample).management = s.management := rfl
@[simp] theorem State.rejectSample_params (s : State) : (s.rejectSample).params = s.params := rfl
@[simp] theorem State.rejectSample_freeDraws (s : State) : (s.rejectSample).freeDraws = s.freeDraws := rfl
@[simp] theorem State.rejectSample_pending (s : State) : (s.rejectSample).pending = s.pending := rfl

@[simp] theorem State.registerTime_fleet (s : State) (p : Product) (t : Option Nat) : (s.registerTime p t).fleet = s.fleet := rfl
@[simp] theorem State.registerTime_unknownSites (s : State) (p : Product) (t : Option Nat) : (s.registerTime p t).unknownSites = s.unknownSites := rfl
@[simp] theorem State.registerTime_products (s : State) (p : Product) (t : Option Nat) : (s.registerTime p t).products = s.products := rfl
@[simp] theorem State.registerTime_census (s : State) (p : Product) (t : Option Nat) : (s.registerTime p t).census = s.census := rfl
@[simp] theorem State.registerTime_book (s : State) (p : Product) (t : Option Nat) : (s.registerTime p t).book = s.book := rfl
@[simp] theorem State.registerTime_activation (s : State) (p : Product) (t : Option Nat) : (s.registerTime p t).activation = s.activation := rfl
@[simp] theorem State.registerTime_allocation (s : State) (p : Product) (t : Option Nat) : (s.registerTime p t).allocation = s.allocation := rfl
@[simp] theorem State.registerTime_monitor (s : State) (p : Product) (t : Option Nat) : (s.registerTime p t).monitor = s.monitor := rfl
@[simp] theorem State.registerTime_links (s : State) (p : Product) (t : Option Nat) : (s.registerTime p t).links = s.links := rfl
@[simp] theorem State.registerTime_arbiter (s : State) (p : Product) (t : Option Nat) : (s.registerTime p t).arbiter = s.arbiter := rfl
@[simp] theorem State.registerTime_management (s : State) (p : Product) (t : Option Nat) : (s.registerTime p t).management = s.management := rfl
@[simp] theorem State.registerTime_params (s : State) (p : Product) (t : Option Nat) : (s.registerTime p t).params = s.params := rfl
@[simp] theorem State.registerTime_freeDraws (s : State) (p : Product) (t : Option Nat) : (s.registerTime p t).freeDraws = s.freeDraws := rfl
@[simp] theorem State.registerTime_pending (s : State) (p : Product) (t : Option Nat) : (s.registerTime p t).pending = s.pending := rfl

@[simp] theorem State.runAt_fleet (s : State) (d : Nat) : (s.runAt d).fleet = s.fleet := rfl
@[simp] theorem State.runAt_unknownSites (s : State) (d : Nat) : (s.runAt d).unknownSites = s.unknownSites := rfl
@[simp] theorem State.runAt_products (s : State) (d : Nat) : (s.runAt d).products = s.products := rfl
@[simp] theorem State.runAt_census (s : State) (d : Nat) : (s.runAt d).census = s.census := rfl
@[simp] theorem State.runAt_book (s : State) (d : Nat) : (s.runAt d).book = s.book := rfl
@[simp] theorem State.runAt_activation (s : State) (d : Nat) : (s.runAt d).activation = s.activation := rfl
@[simp] theorem State.runAt_allocation (s : State) (d : Nat) : (s.runAt d).allocation = s.allocation := rfl
@[simp] theorem State.runAt_monitor (s : State) (d : Nat) : (s.runAt d).monitor = s.monitor := rfl
@[simp] theorem State.runAt_links (s : State) (d : Nat) : (s.runAt d).links = s.links := rfl
@[simp] theorem State.runAt_arbiter (s : State) (d : Nat) : (s.runAt d).arbiter = s.arbiter := rfl
@[simp] theorem State.runAt_management (s : State) (d : Nat) : (s.runAt d).management = s.management := rfl
@[simp] theorem State.runAt_params (s : State) (d : Nat) : (s.runAt d).params = s.params := rfl
@[simp] theorem State.runAt_freeDraws (s : State) (d : Nat) : (s.runAt d).freeDraws = s.freeDraws := rfl
@[simp] theorem State.runAt_pending (s : State) (d : Nat) : (s.runAt d).pending = s.pending := rfl

@[simp] theorem State.setMon_fleet (s : State) (p : Product) (m : MonitorProduct) : (s.setMon p m).fleet = s.fleet := rfl
@[simp] theorem State.setMon_unknownSites (s : State) (p : Product) (m : MonitorProduct) : (s.setMon p m).unknownSites = s.unknownSites := rfl
@[simp] theorem State.setMon_time (s : State) (p : Product) (m : MonitorProduct) : (s.setMon p m).time = s.time := rfl
@[simp] theorem State.setMon_products (s : State) (p : Product) (m : MonitorProduct) : (s.setMon p m).products = s.products := rfl
@[simp] theorem State.setMon_census (s : State) (p : Product) (m : MonitorProduct) : (s.setMon p m).census = s.census := rfl
@[simp] theorem State.setMon_book (s : State) (p : Product) (m : MonitorProduct) : (s.setMon p m).book = s.book := rfl
@[simp] theorem State.setMon_activation (s : State) (p : Product) (m : MonitorProduct) : (s.setMon p m).activation = s.activation := rfl
@[simp] theorem State.setMon_allocation (s : State) (p : Product) (m : MonitorProduct) : (s.setMon p m).allocation = s.allocation := rfl
@[simp] theorem State.setMon_links (s : State) (p : Product) (m : MonitorProduct) : (s.setMon p m).links = s.links := rfl
@[simp] theorem State.setMon_arbiter (s : State) (p : Product) (m : MonitorProduct) : (s.setMon p m).arbiter = s.arbiter := rfl
@[simp] theorem State.setMon_management (s : State) (p : Product) (m : MonitorProduct) : (s.setMon p m).management = s.management := rfl
@[simp] theorem State.setMon_params (s : State) (p : Product) (m : MonitorProduct) : (s.setMon p m).params = s.params := rfl
@[simp] theorem State.setMon_freeDraws (s : State) (p : Product) (m : MonitorProduct) : (s.setMon p m).freeDraws = s.freeDraws := rfl
@[simp] theorem State.setMon_pending (s : State) (p : Product) (m : MonitorProduct) : (s.setMon p m).pending = s.pending := rfl

@[simp] theorem State.raiseUnknown_fleet (s : State) : (s.raiseUnknown).fleet = s.fleet := rfl
@[simp] theorem State.raiseUnknown_time (s : State) : (s.raiseUnknown).time = s.time := rfl
@[simp] theorem State.raiseUnknown_products (s : State) : (s.raiseUnknown).products = s.products := rfl
@[simp] theorem State.raiseUnknown_census (s : State) : (s.raiseUnknown).census = s.census := rfl
@[simp] theorem State.raiseUnknown_book (s : State) : (s.raiseUnknown).book = s.book := rfl
@[simp] theorem State.raiseUnknown_activation (s : State) : (s.raiseUnknown).activation = s.activation := rfl
@[simp] theorem State.raiseUnknown_allocation (s : State) : (s.raiseUnknown).allocation = s.allocation := rfl
@[simp] theorem State.raiseUnknown_monitor (s : State) : (s.raiseUnknown).monitor = s.monitor := rfl
@[simp] theorem State.raiseUnknown_links (s : State) : (s.raiseUnknown).links = s.links := rfl
@[simp] theorem State.raiseUnknown_arbiter (s : State) : (s.raiseUnknown).arbiter = s.arbiter := rfl
@[simp] theorem State.raiseUnknown_management (s : State) : (s.raiseUnknown).management = s.management := rfl
@[simp] theorem State.raiseUnknown_params (s : State) : (s.raiseUnknown).params = s.params := rfl
@[simp] theorem State.raiseUnknown_freeDraws (s : State) : (s.raiseUnknown).freeDraws = s.freeDraws := rfl
@[simp] theorem State.raiseUnknown_pending (s : State) : (s.raiseUnknown).pending = s.pending := rfl

@[simp] theorem State.setProduct_fleet (s : State) (p : Product) (c : ProductContext) : (s.setProduct p c).fleet = s.fleet := rfl
@[simp] theorem State.setProduct_unknownSites (s : State) (p : Product) (c : ProductContext) : (s.setProduct p c).unknownSites = s.unknownSites := rfl
@[simp] theorem State.setProduct_time (s : State) (p : Product) (c : ProductContext) : (s.setProduct p c).time = s.time := rfl
@[simp] theorem State.setProduct_census (s : State) (p : Product) (c : ProductContext) : (s.setProduct p c).census = s.census := rfl
@[simp] theorem State.setProduct_book (s : State) (p : Product) (c : ProductContext) : (s.setProduct p c).book = s.book := rfl
@[simp] theorem State.setProduct_activation (s : State) (p : Product) (c : ProductContext) : (s.setProduct p c).activation = s.activation := rfl
@[simp] theorem State.setProduct_allocation (s : State) (p : Product) (c : ProductContext) : (s.setProduct p c).allocation = s.allocation := rfl
@[simp] theorem State.setProduct_monitor (s : State) (p : Product) (c : ProductContext) : (s.setProduct p c).monitor = s.monitor := rfl
@[simp] theorem State.setProduct_links (s : State) (p : Product) (c : ProductContext) : (s.setProduct p c).links = s.links := rfl
@[simp] theorem State.setProduct_arbiter (s : State) (p : Product) (c : ProductContext) : (s.setProduct p c).arbiter = s.arbiter := rfl
@[simp] theorem State.setProduct_management (s : State) (p : Product) (c : ProductContext) : (s.setProduct p c).management = s.management := rfl
@[simp] theorem State.setProduct_params (s : State) (p : Product) (c : ProductContext) : (s.setProduct p c).params = s.params := rfl
@[simp] theorem State.setProduct_freeDraws (s : State) (p : Product) (c : ProductContext) : (s.setProduct p c).freeDraws = s.freeDraws := rfl
@[simp] theorem State.setProduct_pending (s : State) (p : Product) (c : ProductContext) : (s.setProduct p c).pending = s.pending := rfl

@[simp] theorem State.copyBank_fleet (s : State) (p : Product) : (s.copyBank p).fleet = s.fleet := rfl
@[simp] theorem State.copyBank_unknownSites (s : State) (p : Product) : (s.copyBank p).unknownSites = s.unknownSites := rfl
@[simp] theorem State.copyBank_time (s : State) (p : Product) : (s.copyBank p).time = s.time := rfl
@[simp] theorem State.copyBank_census (s : State) (p : Product) : (s.copyBank p).census = s.census := rfl
@[simp] theorem State.copyBank_book (s : State) (p : Product) : (s.copyBank p).book = s.book := rfl
@[simp] theorem State.copyBank_activation (s : State) (p : Product) : (s.copyBank p).activation = s.activation := rfl
@[simp] theorem State.copyBank_allocation (s : State) (p : Product) : (s.copyBank p).allocation = s.allocation := rfl
@[simp] theorem State.copyBank_monitor (s : State) (p : Product) : (s.copyBank p).monitor = s.monitor := rfl
@[simp] theorem State.copyBank_links (s : State) (p : Product) : (s.copyBank p).links = s.links := rfl
@[simp] theorem State.copyBank_arbiter (s : State) (p : Product) : (s.copyBank p).arbiter = s.arbiter := rfl
@[simp] theorem State.copyBank_management (s : State) (p : Product) : (s.copyBank p).management = s.management := rfl
@[simp] theorem State.copyBank_params (s : State) (p : Product) : (s.copyBank p).params = s.params := rfl
@[simp] theorem State.copyBank_freeDraws (s : State) (p : Product) : (s.copyBank p).freeDraws = s.freeDraws := rfl
@[simp] theorem State.copyBank_pending (s : State) (p : Product) : (s.copyBank p).pending = s.pending := rfl

@[simp] theorem State.writePending_fleet (s : State) (p : Product) (b : Bank) : (s.writePending p b).fleet = s.fleet := rfl
@[simp] theorem State.writePending_unknownSites (s : State) (p : Product) (b : Bank) : (s.writePending p b).unknownSites = s.unknownSites := rfl
@[simp] theorem State.writePending_time (s : State) (p : Product) (b : Bank) : (s.writePending p b).time = s.time := rfl
@[simp] theorem State.writePending_census (s : State) (p : Product) (b : Bank) : (s.writePending p b).census = s.census := rfl
@[simp] theorem State.writePending_book (s : State) (p : Product) (b : Bank) : (s.writePending p b).book = s.book := rfl
@[simp] theorem State.writePending_activation (s : State) (p : Product) (b : Bank) : (s.writePending p b).activation = s.activation := rfl
@[simp] theorem State.writePending_allocation (s : State) (p : Product) (b : Bank) : (s.writePending p b).allocation = s.allocation := rfl
@[simp] theorem State.writePending_monitor (s : State) (p : Product) (b : Bank) : (s.writePending p b).monitor = s.monitor := rfl
@[simp] theorem State.writePending_links (s : State) (p : Product) (b : Bank) : (s.writePending p b).links = s.links := rfl
@[simp] theorem State.writePending_arbiter (s : State) (p : Product) (b : Bank) : (s.writePending p b).arbiter = s.arbiter := rfl
@[simp] theorem State.writePending_management (s : State) (p : Product) (b : Bank) : (s.writePending p b).management = s.management := rfl
@[simp] theorem State.writePending_params (s : State) (p : Product) (b : Bank) : (s.writePending p b).params = s.params := rfl
@[simp] theorem State.writePending_freeDraws (s : State) (p : Product) (b : Bank) : (s.writePending p b).freeDraws = s.freeDraws := rfl
@[simp] theorem State.writePending_pending (s : State) (p : Product) (b : Bank) : (s.writePending p b).pending = s.pending := rfl

@[simp] theorem State.startPass_fleet (s : State) : (s.startPass).fleet = s.fleet := rfl
@[simp] theorem State.startPass_unknownSites (s : State) : (s.startPass).unknownSites = s.unknownSites := rfl
@[simp] theorem State.startPass_time (s : State) : (s.startPass).time = s.time := rfl
@[simp] theorem State.startPass_products (s : State) : (s.startPass).products = s.products := rfl
@[simp] theorem State.startPass_census (s : State) : (s.startPass).census = s.census := rfl
@[simp] theorem State.startPass_book (s : State) : (s.startPass).book = s.book := rfl
@[simp] theorem State.startPass_activation (s : State) : (s.startPass).activation = s.activation := rfl
@[simp] theorem State.startPass_monitor (s : State) : (s.startPass).monitor = s.monitor := rfl
@[simp] theorem State.startPass_links (s : State) : (s.startPass).links = s.links := rfl
@[simp] theorem State.startPass_arbiter (s : State) : (s.startPass).arbiter = s.arbiter := rfl
@[simp] theorem State.startPass_management (s : State) : (s.startPass).management = s.management := rfl
@[simp] theorem State.startPass_params (s : State) : (s.startPass).params = s.params := rfl
@[simp] theorem State.startPass_freeDraws (s : State) : (s.startPass).freeDraws = s.freeDraws := rfl
@[simp] theorem State.startPass_pending (s : State) : (s.startPass).pending = s.pending := rfl

@[simp] theorem State.setManagement_fleet (s : State) (m : Management) : (s.setManagement m).fleet = s.fleet := rfl
@[simp] theorem State.setManagement_unknownSites (s : State) (m : Management) : (s.setManagement m).unknownSites = s.unknownSites := rfl
@[simp] theorem State.setManagement_time (s : State) (m : Management) : (s.setManagement m).time = s.time := rfl
@[simp] theorem State.setManagement_products (s : State) (m : Management) : (s.setManagement m).products = s.products := rfl
@[simp] theorem State.setManagement_census (s : State) (m : Management) : (s.setManagement m).census = s.census := rfl
@[simp] theorem State.setManagement_book (s : State) (m : Management) : (s.setManagement m).book = s.book := rfl
@[simp] theorem State.setManagement_activation (s : State) (m : Management) : (s.setManagement m).activation = s.activation := rfl
@[simp] theorem State.setManagement_allocation (s : State) (m : Management) : (s.setManagement m).allocation = s.allocation := rfl
@[simp] theorem State.setManagement_monitor (s : State) (m : Management) : (s.setManagement m).monitor = s.monitor := rfl
@[simp] theorem State.setManagement_links (s : State) (m : Management) : (s.setManagement m).links = s.links := rfl
@[simp] theorem State.setManagement_arbiter (s : State) (m : Management) : (s.setManagement m).arbiter = s.arbiter := rfl
@[simp] theorem State.setManagement_params (s : State) (m : Management) : (s.setManagement m).params = s.params := rfl
@[simp] theorem State.setManagement_freeDraws (s : State) (m : Management) : (s.setManagement m).freeDraws = s.freeDraws := rfl
@[simp] theorem State.setManagement_pending (s : State) (m : Management) : (s.setManagement m).pending = s.pending := rfl

@[simp] theorem State.takeRequest_fleet (s : State) : (s.takeRequest).fleet = s.fleet := rfl
@[simp] theorem State.takeRequest_unknownSites (s : State) : (s.takeRequest).unknownSites = s.unknownSites := rfl
@[simp] theorem State.takeRequest_time (s : State) : (s.takeRequest).time = s.time := rfl
@[simp] theorem State.takeRequest_products (s : State) : (s.takeRequest).products = s.products := rfl
@[simp] theorem State.takeRequest_census (s : State) : (s.takeRequest).census = s.census := rfl
@[simp] theorem State.takeRequest_book (s : State) : (s.takeRequest).book = s.book := rfl
@[simp] theorem State.takeRequest_activation (s : State) : (s.takeRequest).activation = s.activation := rfl
@[simp] theorem State.takeRequest_allocation (s : State) : (s.takeRequest).allocation = s.allocation := rfl
@[simp] theorem State.takeRequest_monitor (s : State) : (s.takeRequest).monitor = s.monitor := rfl
@[simp] theorem State.takeRequest_links (s : State) : (s.takeRequest).links = s.links := rfl
@[simp] theorem State.takeRequest_arbiter (s : State) : (s.takeRequest).arbiter = s.arbiter := rfl
@[simp] theorem State.takeRequest_params (s : State) : (s.takeRequest).params = s.params := rfl
@[simp] theorem State.takeRequest_freeDraws (s : State) : (s.takeRequest).freeDraws = s.freeDraws := rfl
@[simp] theorem State.takeRequest_pending (s : State) : (s.takeRequest).pending = s.pending := rfl

@[simp] theorem State.setWindowTo_fleet (s : State) (w : TableWindow) : (s.setWindowTo w).fleet = s.fleet := rfl
@[simp] theorem State.setWindowTo_unknownSites (s : State) (w : TableWindow) : (s.setWindowTo w).unknownSites = s.unknownSites := rfl
@[simp] theorem State.setWindowTo_time (s : State) (w : TableWindow) : (s.setWindowTo w).time = s.time := rfl
@[simp] theorem State.setWindowTo_products (s : State) (w : TableWindow) : (s.setWindowTo w).products = s.products := rfl
@[simp] theorem State.setWindowTo_census (s : State) (w : TableWindow) : (s.setWindowTo w).census = s.census := rfl
@[simp] theorem State.setWindowTo_book (s : State) (w : TableWindow) : (s.setWindowTo w).book = s.book := rfl
@[simp] theorem State.setWindowTo_activation (s : State) (w : TableWindow) : (s.setWindowTo w).activation = s.activation := rfl
@[simp] theorem State.setWindowTo_allocation (s : State) (w : TableWindow) : (s.setWindowTo w).allocation = s.allocation := rfl
@[simp] theorem State.setWindowTo_monitor (s : State) (w : TableWindow) : (s.setWindowTo w).monitor = s.monitor := rfl
@[simp] theorem State.setWindowTo_links (s : State) (w : TableWindow) : (s.setWindowTo w).links = s.links := rfl
@[simp] theorem State.setWindowTo_arbiter (s : State) (w : TableWindow) : (s.setWindowTo w).arbiter = s.arbiter := rfl
@[simp] theorem State.setWindowTo_params (s : State) (w : TableWindow) : (s.setWindowTo w).params = s.params := rfl
@[simp] theorem State.setWindowTo_freeDraws (s : State) (w : TableWindow) : (s.setWindowTo w).freeDraws = s.freeDraws := rfl
@[simp] theorem State.setWindowTo_pending (s : State) (w : TableWindow) : (s.setWindowTo w).pending = s.pending := rfl

@[simp] theorem State.removeOfferEntry_fleet (s : State) (e : OfferEntry) : (s.removeOfferEntry e).fleet = s.fleet := rfl
@[simp] theorem State.removeOfferEntry_unknownSites (s : State) (e : OfferEntry) : (s.removeOfferEntry e).unknownSites = s.unknownSites := rfl
@[simp] theorem State.removeOfferEntry_time (s : State) (e : OfferEntry) : (s.removeOfferEntry e).time = s.time := rfl
@[simp] theorem State.removeOfferEntry_products (s : State) (e : OfferEntry) : (s.removeOfferEntry e).products = s.products := rfl
@[simp] theorem State.removeOfferEntry_census (s : State) (e : OfferEntry) : (s.removeOfferEntry e).census = s.census := rfl
@[simp] theorem State.removeOfferEntry_book (s : State) (e : OfferEntry) : (s.removeOfferEntry e).book = s.book := rfl
@[simp] theorem State.removeOfferEntry_activation (s : State) (e : OfferEntry) : (s.removeOfferEntry e).activation = s.activation := rfl
@[simp] theorem State.removeOfferEntry_allocation (s : State) (e : OfferEntry) : (s.removeOfferEntry e).allocation = s.allocation := rfl
@[simp] theorem State.removeOfferEntry_monitor (s : State) (e : OfferEntry) : (s.removeOfferEntry e).monitor = s.monitor := rfl
@[simp] theorem State.removeOfferEntry_links (s : State) (e : OfferEntry) : (s.removeOfferEntry e).links = s.links := rfl
@[simp] theorem State.removeOfferEntry_management (s : State) (e : OfferEntry) : (s.removeOfferEntry e).management = s.management := rfl
@[simp] theorem State.removeOfferEntry_params (s : State) (e : OfferEntry) : (s.removeOfferEntry e).params = s.params := rfl
@[simp] theorem State.removeOfferEntry_freeDraws (s : State) (e : OfferEntry) : (s.removeOfferEntry e).freeDraws = s.freeDraws := rfl
@[simp] theorem State.removeOfferEntry_pending (s : State) (e : OfferEntry) : (s.removeOfferEntry e).pending = s.pending := rfl

@[simp] theorem State.sendGrid0_fleet (s : State) (k : FrameKind) (o : Octets) : (s.sendGrid0 k o).fleet = s.fleet := rfl
@[simp] theorem State.sendGrid0_unknownSites (s : State) (k : FrameKind) (o : Octets) : (s.sendGrid0 k o).unknownSites = s.unknownSites := rfl
@[simp] theorem State.sendGrid0_time (s : State) (k : FrameKind) (o : Octets) : (s.sendGrid0 k o).time = s.time := rfl
@[simp] theorem State.sendGrid0_products (s : State) (k : FrameKind) (o : Octets) : (s.sendGrid0 k o).products = s.products := rfl
@[simp] theorem State.sendGrid0_census (s : State) (k : FrameKind) (o : Octets) : (s.sendGrid0 k o).census = s.census := rfl
@[simp] theorem State.sendGrid0_book (s : State) (k : FrameKind) (o : Octets) : (s.sendGrid0 k o).book = s.book := rfl
@[simp] theorem State.sendGrid0_activation (s : State) (k : FrameKind) (o : Octets) : (s.sendGrid0 k o).activation = s.activation := rfl
@[simp] theorem State.sendGrid0_allocation (s : State) (k : FrameKind) (o : Octets) : (s.sendGrid0 k o).allocation = s.allocation := rfl
@[simp] theorem State.sendGrid0_monitor (s : State) (k : FrameKind) (o : Octets) : (s.sendGrid0 k o).monitor = s.monitor := rfl
@[simp] theorem State.sendGrid0_arbiter (s : State) (k : FrameKind) (o : Octets) : (s.sendGrid0 k o).arbiter = s.arbiter := rfl
@[simp] theorem State.sendGrid0_management (s : State) (k : FrameKind) (o : Octets) : (s.sendGrid0 k o).management = s.management := rfl
@[simp] theorem State.sendGrid0_params (s : State) (k : FrameKind) (o : Octets) : (s.sendGrid0 k o).params = s.params := rfl
@[simp] theorem State.sendGrid0_freeDraws (s : State) (k : FrameKind) (o : Octets) : (s.sendGrid0 k o).freeDraws = s.freeDraws := rfl
@[simp] theorem State.sendGrid0_pending (s : State) (k : FrameKind) (o : Octets) : (s.sendGrid0 k o).pending = s.pending := rfl

@[simp] theorem State.sendGrid2_fleet (s : State) (k : FrameKind) (o : Octets) : (s.sendGrid2 k o).fleet = s.fleet := rfl
@[simp] theorem State.sendGrid2_unknownSites (s : State) (k : FrameKind) (o : Octets) : (s.sendGrid2 k o).unknownSites = s.unknownSites := rfl
@[simp] theorem State.sendGrid2_time (s : State) (k : FrameKind) (o : Octets) : (s.sendGrid2 k o).time = s.time := rfl
@[simp] theorem State.sendGrid2_products (s : State) (k : FrameKind) (o : Octets) : (s.sendGrid2 k o).products = s.products := rfl
@[simp] theorem State.sendGrid2_census (s : State) (k : FrameKind) (o : Octets) : (s.sendGrid2 k o).census = s.census := rfl
@[simp] theorem State.sendGrid2_book (s : State) (k : FrameKind) (o : Octets) : (s.sendGrid2 k o).book = s.book := rfl
@[simp] theorem State.sendGrid2_activation (s : State) (k : FrameKind) (o : Octets) : (s.sendGrid2 k o).activation = s.activation := rfl
@[simp] theorem State.sendGrid2_allocation (s : State) (k : FrameKind) (o : Octets) : (s.sendGrid2 k o).allocation = s.allocation := rfl
@[simp] theorem State.sendGrid2_monitor (s : State) (k : FrameKind) (o : Octets) : (s.sendGrid2 k o).monitor = s.monitor := rfl
@[simp] theorem State.sendGrid2_arbiter (s : State) (k : FrameKind) (o : Octets) : (s.sendGrid2 k o).arbiter = s.arbiter := rfl
@[simp] theorem State.sendGrid2_management (s : State) (k : FrameKind) (o : Octets) : (s.sendGrid2 k o).management = s.management := rfl
@[simp] theorem State.sendGrid2_params (s : State) (k : FrameKind) (o : Octets) : (s.sendGrid2 k o).params = s.params := rfl
@[simp] theorem State.sendGrid2_freeDraws (s : State) (k : FrameKind) (o : Octets) : (s.sendGrid2 k o).freeDraws = s.freeDraws := rfl
@[simp] theorem State.sendGrid2_pending (s : State) (k : FrameKind) (o : Octets) : (s.sendGrid2 k o).pending = s.pending := rfl

@[simp] theorem State.sendFleet_fleet (s : State) (o : Octets) : (s.sendFleet o).fleet = s.fleet := rfl
@[simp] theorem State.sendFleet_unknownSites (s : State) (o : Octets) : (s.sendFleet o).unknownSites = s.unknownSites := rfl
@[simp] theorem State.sendFleet_time (s : State) (o : Octets) : (s.sendFleet o).time = s.time := rfl
@[simp] theorem State.sendFleet_products (s : State) (o : Octets) : (s.sendFleet o).products = s.products := rfl
@[simp] theorem State.sendFleet_census (s : State) (o : Octets) : (s.sendFleet o).census = s.census := rfl
@[simp] theorem State.sendFleet_book (s : State) (o : Octets) : (s.sendFleet o).book = s.book := rfl
@[simp] theorem State.sendFleet_activation (s : State) (o : Octets) : (s.sendFleet o).activation = s.activation := rfl
@[simp] theorem State.sendFleet_allocation (s : State) (o : Octets) : (s.sendFleet o).allocation = s.allocation := rfl
@[simp] theorem State.sendFleet_monitor (s : State) (o : Octets) : (s.sendFleet o).monitor = s.monitor := rfl
@[simp] theorem State.sendFleet_arbiter (s : State) (o : Octets) : (s.sendFleet o).arbiter = s.arbiter := rfl
@[simp] theorem State.sendFleet_management (s : State) (o : Octets) : (s.sendFleet o).management = s.management := rfl
@[simp] theorem State.sendFleet_params (s : State) (o : Octets) : (s.sendFleet o).params = s.params := rfl
@[simp] theorem State.sendFleet_freeDraws (s : State) (o : Octets) : (s.sendFleet o).freeDraws = s.freeDraws := rfl
@[simp] theorem State.sendFleet_pending (s : State) (o : Octets) : (s.sendFleet o).pending = s.pending := rfl

@[simp] theorem State.replaceByPass_fleet (s : State) (l : PassLatch) : (s.replaceByPass l).fleet = s.fleet := rfl
@[simp] theorem State.replaceByPass_unknownSites (s : State) (l : PassLatch) : (s.replaceByPass l).unknownSites = s.unknownSites := rfl
@[simp] theorem State.replaceByPass_time (s : State) (l : PassLatch) : (s.replaceByPass l).time = s.time := rfl
@[simp] theorem State.replaceByPass_products (s : State) (l : PassLatch) : (s.replaceByPass l).products = s.products := rfl
@[simp] theorem State.replaceByPass_census (s : State) (l : PassLatch) : (s.replaceByPass l).census = s.census := rfl
@[simp] theorem State.replaceByPass_book (s : State) (l : PassLatch) : (s.replaceByPass l).book = s.book := rfl
@[simp] theorem State.replaceByPass_activation (s : State) (l : PassLatch) : (s.replaceByPass l).activation = s.activation := rfl
@[simp] theorem State.replaceByPass_monitor (s : State) (l : PassLatch) : (s.replaceByPass l).monitor = s.monitor := rfl
@[simp] theorem State.replaceByPass_links (s : State) (l : PassLatch) : (s.replaceByPass l).links = s.links := rfl
@[simp] theorem State.replaceByPass_arbiter (s : State) (l : PassLatch) : (s.replaceByPass l).arbiter = s.arbiter := rfl
@[simp] theorem State.replaceByPass_management (s : State) (l : PassLatch) : (s.replaceByPass l).management = s.management := rfl
@[simp] theorem State.replaceByPass_params (s : State) (l : PassLatch) : (s.replaceByPass l).params = s.params := rfl
@[simp] theorem State.replaceByPass_freeDraws (s : State) (l : PassLatch) : (s.replaceByPass l).freeDraws = s.freeDraws := rfl
@[simp] theorem State.replaceByPass_pending (s : State) (l : PassLatch) : (s.replaceByPass l).pending = s.pending := rfl

@[simp] theorem State.fleetWentDown_fleet (s : State) : (s.fleetWentDown).fleet = s.fleet := rfl
@[simp] theorem State.fleetWentDown_unknownSites (s : State) : (s.fleetWentDown).unknownSites = s.unknownSites := rfl
@[simp] theorem State.fleetWentDown_time (s : State) : (s.fleetWentDown).time = s.time := rfl
@[simp] theorem State.fleetWentDown_products (s : State) : (s.fleetWentDown).products = s.products := rfl
@[simp] theorem State.fleetWentDown_census (s : State) : (s.fleetWentDown).census = s.census := rfl
@[simp] theorem State.fleetWentDown_book (s : State) : (s.fleetWentDown).book = s.book := rfl
@[simp] theorem State.fleetWentDown_activation (s : State) : (s.fleetWentDown).activation = s.activation := rfl
@[simp] theorem State.fleetWentDown_monitor (s : State) : (s.fleetWentDown).monitor = s.monitor := rfl
@[simp] theorem State.fleetWentDown_links (s : State) : (s.fleetWentDown).links = s.links := rfl
@[simp] theorem State.fleetWentDown_arbiter (s : State) : (s.fleetWentDown).arbiter = s.arbiter := rfl
@[simp] theorem State.fleetWentDown_management (s : State) : (s.fleetWentDown).management = s.management := rfl
@[simp] theorem State.fleetWentDown_params (s : State) : (s.fleetWentDown).params = s.params := rfl
@[simp] theorem State.fleetWentDown_freeDraws (s : State) : (s.fleetWentDown).freeDraws = s.freeDraws := rfl
@[simp] theorem State.fleetWentDown_pending (s : State) : (s.fleetWentDown).pending = s.pending := rfl

@[simp] theorem State.regradeSites_unknownSites (s : State) : (s.regradeSites).unknownSites = s.unknownSites := rfl
@[simp] theorem State.regradeSites_time (s : State) : (s.regradeSites).time = s.time := rfl
@[simp] theorem State.regradeSites_products (s : State) : (s.regradeSites).products = s.products := rfl
@[simp] theorem State.regradeSites_census (s : State) : (s.regradeSites).census = s.census := rfl
@[simp] theorem State.regradeSites_book (s : State) : (s.regradeSites).book = s.book := rfl
@[simp] theorem State.regradeSites_activation (s : State) : (s.regradeSites).activation = s.activation := rfl
@[simp] theorem State.regradeSites_allocation (s : State) : (s.regradeSites).allocation = s.allocation := rfl
@[simp] theorem State.regradeSites_monitor (s : State) : (s.regradeSites).monitor = s.monitor := rfl
@[simp] theorem State.regradeSites_links (s : State) : (s.regradeSites).links = s.links := rfl
@[simp] theorem State.regradeSites_arbiter (s : State) : (s.regradeSites).arbiter = s.arbiter := rfl
@[simp] theorem State.regradeSites_management (s : State) : (s.regradeSites).management = s.management := rfl
@[simp] theorem State.regradeSites_params (s : State) : (s.regradeSites).params = s.params := rfl
@[simp] theorem State.regradeSites_freeDraws (s : State) : (s.regradeSites).freeDraws = s.freeDraws := rfl
@[simp] theorem State.regradeSites_pending (s : State) : (s.regradeSites).pending = s.pending := rfl

@[simp] theorem State.restartFleet_unknownSites (s : State) : (s.restartFleet).unknownSites = s.unknownSites := rfl
@[simp] theorem State.restartFleet_time (s : State) : (s.restartFleet).time = s.time := rfl
@[simp] theorem State.restartFleet_products (s : State) : (s.restartFleet).products = s.products := rfl
@[simp] theorem State.restartFleet_census (s : State) : (s.restartFleet).census = s.census := rfl
@[simp] theorem State.restartFleet_book (s : State) : (s.restartFleet).book = s.book := rfl
@[simp] theorem State.restartFleet_activation (s : State) : (s.restartFleet).activation = s.activation := rfl
@[simp] theorem State.restartFleet_allocation (s : State) : (s.restartFleet).allocation = s.allocation := rfl
@[simp] theorem State.restartFleet_monitor (s : State) : (s.restartFleet).monitor = s.monitor := rfl
@[simp] theorem State.restartFleet_links (s : State) : (s.restartFleet).links = s.links := rfl
@[simp] theorem State.restartFleet_arbiter (s : State) : (s.restartFleet).arbiter = s.arbiter := rfl
@[simp] theorem State.restartFleet_management (s : State) : (s.restartFleet).management = s.management := rfl
@[simp] theorem State.restartFleet_params (s : State) : (s.restartFleet).params = s.params := rfl
@[simp] theorem State.restartFleet_freeDraws (s : State) : (s.restartFleet).freeDraws = s.freeDraws := rfl
@[simp] theorem State.restartFleet_pending (s : State) : (s.restartFleet).pending = s.pending := rfl

@[simp] theorem State.restartCensus_fleet (s : State) : (s.restartCensus).fleet = s.fleet := rfl
@[simp] theorem State.restartCensus_unknownSites (s : State) : (s.restartCensus).unknownSites = s.unknownSites := rfl
@[simp] theorem State.restartCensus_time (s : State) : (s.restartCensus).time = s.time := rfl
@[simp] theorem State.restartCensus_products (s : State) : (s.restartCensus).products = s.products := rfl
@[simp] theorem State.restartCensus_book (s : State) : (s.restartCensus).book = s.book := rfl
@[simp] theorem State.restartCensus_activation (s : State) : (s.restartCensus).activation = s.activation := rfl
@[simp] theorem State.restartCensus_allocation (s : State) : (s.restartCensus).allocation = s.allocation := rfl
@[simp] theorem State.restartCensus_monitor (s : State) : (s.restartCensus).monitor = s.monitor := rfl
@[simp] theorem State.restartCensus_links (s : State) : (s.restartCensus).links = s.links := rfl
@[simp] theorem State.restartCensus_arbiter (s : State) : (s.restartCensus).arbiter = s.arbiter := rfl
@[simp] theorem State.restartCensus_management (s : State) : (s.restartCensus).management = s.management := rfl
@[simp] theorem State.restartCensus_params (s : State) : (s.restartCensus).params = s.params := rfl
@[simp] theorem State.restartCensus_freeDraws (s : State) : (s.restartCensus).freeDraws = s.freeDraws := rfl
@[simp] theorem State.restartCensus_pending (s : State) : (s.restartCensus).pending = s.pending := rfl

@[simp] theorem State.restartAllocation_fleet (s : State) : (s.restartAllocation).fleet = s.fleet := rfl
@[simp] theorem State.restartAllocation_unknownSites (s : State) : (s.restartAllocation).unknownSites = s.unknownSites := rfl
@[simp] theorem State.restartAllocation_time (s : State) : (s.restartAllocation).time = s.time := rfl
@[simp] theorem State.restartAllocation_products (s : State) : (s.restartAllocation).products = s.products := rfl
@[simp] theorem State.restartAllocation_census (s : State) : (s.restartAllocation).census = s.census := rfl
@[simp] theorem State.restartAllocation_book (s : State) : (s.restartAllocation).book = s.book := rfl
@[simp] theorem State.restartAllocation_activation (s : State) : (s.restartAllocation).activation = s.activation := rfl
@[simp] theorem State.restartAllocation_monitor (s : State) : (s.restartAllocation).monitor = s.monitor := rfl
@[simp] theorem State.restartAllocation_links (s : State) : (s.restartAllocation).links = s.links := rfl
@[simp] theorem State.restartAllocation_arbiter (s : State) : (s.restartAllocation).arbiter = s.arbiter := rfl
@[simp] theorem State.restartAllocation_management (s : State) : (s.restartAllocation).management = s.management := rfl
@[simp] theorem State.restartAllocation_params (s : State) : (s.restartAllocation).params = s.params := rfl
@[simp] theorem State.restartAllocation_freeDraws (s : State) : (s.restartAllocation).freeDraws = s.freeDraws := rfl
@[simp] theorem State.restartAllocation_pending (s : State) : (s.restartAllocation).pending = s.pending := rfl

@[simp] theorem State.restartMonitor_fleet (s : State) : (s.restartMonitor).fleet = s.fleet := rfl
@[simp] theorem State.restartMonitor_unknownSites (s : State) : (s.restartMonitor).unknownSites = s.unknownSites := rfl
@[simp] theorem State.restartMonitor_time (s : State) : (s.restartMonitor).time = s.time := rfl
@[simp] theorem State.restartMonitor_products (s : State) : (s.restartMonitor).products = s.products := rfl
@[simp] theorem State.restartMonitor_census (s : State) : (s.restartMonitor).census = s.census := rfl
@[simp] theorem State.restartMonitor_book (s : State) : (s.restartMonitor).book = s.book := rfl
@[simp] theorem State.restartMonitor_activation (s : State) : (s.restartMonitor).activation = s.activation := rfl
@[simp] theorem State.restartMonitor_allocation (s : State) : (s.restartMonitor).allocation = s.allocation := rfl
@[simp] theorem State.restartMonitor_links (s : State) : (s.restartMonitor).links = s.links := rfl
@[simp] theorem State.restartMonitor_arbiter (s : State) : (s.restartMonitor).arbiter = s.arbiter := rfl
@[simp] theorem State.restartMonitor_management (s : State) : (s.restartMonitor).management = s.management := rfl
@[simp] theorem State.restartMonitor_params (s : State) : (s.restartMonitor).params = s.params := rfl
@[simp] theorem State.restartMonitor_freeDraws (s : State) : (s.restartMonitor).freeDraws = s.freeDraws := rfl
@[simp] theorem State.restartMonitor_pending (s : State) : (s.restartMonitor).pending = s.pending := rfl

@[simp] theorem State.restartBook_fleet (s : State) : (s.restartBook).fleet = s.fleet := rfl
@[simp] theorem State.restartBook_unknownSites (s : State) : (s.restartBook).unknownSites = s.unknownSites := rfl
@[simp] theorem State.restartBook_time (s : State) : (s.restartBook).time = s.time := rfl
@[simp] theorem State.restartBook_products (s : State) : (s.restartBook).products = s.products := rfl
@[simp] theorem State.restartBook_census (s : State) : (s.restartBook).census = s.census := rfl
@[simp] theorem State.restartBook_activation (s : State) : (s.restartBook).activation = s.activation := rfl
@[simp] theorem State.restartBook_allocation (s : State) : (s.restartBook).allocation = s.allocation := rfl
@[simp] theorem State.restartBook_monitor (s : State) : (s.restartBook).monitor = s.monitor := rfl
@[simp] theorem State.restartBook_links (s : State) : (s.restartBook).links = s.links := rfl
@[simp] theorem State.restartBook_management (s : State) : (s.restartBook).management = s.management := rfl
@[simp] theorem State.restartBook_params (s : State) : (s.restartBook).params = s.params := rfl
@[simp] theorem State.restartBook_freeDraws (s : State) : (s.restartBook).freeDraws = s.freeDraws := rfl
@[simp] theorem State.restartBook_pending (s : State) : (s.restartBook).pending = s.pending := rfl

@[simp] theorem State.restartActivation_fleet (s : State) : (s.restartActivation).fleet = s.fleet := rfl
@[simp] theorem State.restartActivation_unknownSites (s : State) : (s.restartActivation).unknownSites = s.unknownSites := rfl
@[simp] theorem State.restartActivation_products (s : State) : (s.restartActivation).products = s.products := rfl
@[simp] theorem State.restartActivation_census (s : State) : (s.restartActivation).census = s.census := rfl
@[simp] theorem State.restartActivation_book (s : State) : (s.restartActivation).book = s.book := rfl
@[simp] theorem State.restartActivation_allocation (s : State) : (s.restartActivation).allocation = s.allocation := rfl
@[simp] theorem State.restartActivation_monitor (s : State) : (s.restartActivation).monitor = s.monitor := rfl
@[simp] theorem State.restartActivation_links (s : State) : (s.restartActivation).links = s.links := rfl
@[simp] theorem State.restartActivation_arbiter (s : State) : (s.restartActivation).arbiter = s.arbiter := rfl
@[simp] theorem State.restartActivation_management (s : State) : (s.restartActivation).management = s.management := rfl
@[simp] theorem State.restartActivation_params (s : State) : (s.restartActivation).params = s.params := rfl
@[simp] theorem State.restartActivation_freeDraws (s : State) : (s.restartActivation).freeDraws = s.freeDraws := rfl
@[simp] theorem State.restartActivation_pending (s : State) : (s.restartActivation).pending = s.pending := rfl

@[simp] theorem State.clearWasDown_fleet (s : State) : (s.clearWasDown).fleet = s.fleet := rfl
@[simp] theorem State.clearWasDown_unknownSites (s : State) : (s.clearWasDown).unknownSites = s.unknownSites := rfl
@[simp] theorem State.clearWasDown_time (s : State) : (s.clearWasDown).time = s.time := rfl
@[simp] theorem State.clearWasDown_products (s : State) : (s.clearWasDown).products = s.products := rfl
@[simp] theorem State.clearWasDown_census (s : State) : (s.clearWasDown).census = s.census := rfl
@[simp] theorem State.clearWasDown_book (s : State) : (s.clearWasDown).book = s.book := rfl
@[simp] theorem State.clearWasDown_activation (s : State) : (s.clearWasDown).activation = s.activation := rfl
@[simp] theorem State.clearWasDown_allocation (s : State) : (s.clearWasDown).allocation = s.allocation := rfl
@[simp] theorem State.clearWasDown_monitor (s : State) : (s.clearWasDown).monitor = s.monitor := rfl
@[simp] theorem State.clearWasDown_arbiter (s : State) : (s.clearWasDown).arbiter = s.arbiter := rfl
@[simp] theorem State.clearWasDown_management (s : State) : (s.clearWasDown).management = s.management := rfl
@[simp] theorem State.clearWasDown_params (s : State) : (s.clearWasDown).params = s.params := rfl
@[simp] theorem State.clearWasDown_freeDraws (s : State) : (s.clearWasDown).freeDraws = s.freeDraws := rfl
@[simp] theorem State.clearWasDown_pending (s : State) : (s.clearWasDown).pending = s.pending := rfl

@[simp] theorem State.clearLinkErrors_fleet (s : State) : (s.clearLinkErrors).fleet = s.fleet := rfl
@[simp] theorem State.clearLinkErrors_time (s : State) : (s.clearLinkErrors).time = s.time := rfl
@[simp] theorem State.clearLinkErrors_products (s : State) : (s.clearLinkErrors).products = s.products := rfl
@[simp] theorem State.clearLinkErrors_census (s : State) : (s.clearLinkErrors).census = s.census := rfl
@[simp] theorem State.clearLinkErrors_book (s : State) : (s.clearLinkErrors).book = s.book := rfl
@[simp] theorem State.clearLinkErrors_allocation (s : State) : (s.clearLinkErrors).allocation = s.allocation := rfl
@[simp] theorem State.clearLinkErrors_monitor (s : State) : (s.clearLinkErrors).monitor = s.monitor := rfl
@[simp] theorem State.clearLinkErrors_arbiter (s : State) : (s.clearLinkErrors).arbiter = s.arbiter := rfl
@[simp] theorem State.clearLinkErrors_management (s : State) : (s.clearLinkErrors).management = s.management := rfl
@[simp] theorem State.clearLinkErrors_params (s : State) : (s.clearLinkErrors).params = s.params := rfl
@[simp] theorem State.clearLinkErrors_freeDraws (s : State) : (s.clearLinkErrors).freeDraws = s.freeDraws := rfl
@[simp] theorem State.clearLinkErrors_pending (s : State) : (s.clearLinkErrors).pending = s.pending := rfl

@[simp] theorem State.recomputed_fleet (s : State) : (s.recomputed).fleet = s.fleet := rfl
@[simp] theorem State.recomputed_unknownSites (s : State) : (s.recomputed).unknownSites = s.unknownSites := rfl
@[simp] theorem State.recomputed_time (s : State) : (s.recomputed).time = s.time := rfl
@[simp] theorem State.recomputed_products (s : State) : (s.recomputed).products = s.products := rfl
@[simp] theorem State.recomputed_census (s : State) : (s.recomputed).census = s.census := rfl
@[simp] theorem State.recomputed_book (s : State) : (s.recomputed).book = s.book := rfl
@[simp] theorem State.recomputed_activation (s : State) : (s.recomputed).activation = s.activation := rfl
@[simp] theorem State.recomputed_allocation (s : State) : (s.recomputed).allocation = s.allocation := rfl
@[simp] theorem State.recomputed_links (s : State) : (s.recomputed).links = s.links := rfl
@[simp] theorem State.recomputed_arbiter (s : State) : (s.recomputed).arbiter = s.arbiter := rfl
@[simp] theorem State.recomputed_management (s : State) : (s.recomputed).management = s.management := rfl
@[simp] theorem State.recomputed_params (s : State) : (s.recomputed).params = s.params := rfl
@[simp] theorem State.recomputed_freeDraws (s : State) : (s.recomputed).freeDraws = s.freeDraws := rfl
@[simp] theorem State.recomputed_pending (s : State) : (s.recomputed).pending = s.pending := rfl

@[simp] theorem State.redeclared_fleet (s : State) : (s.redeclared).fleet = s.fleet := rfl
@[simp] theorem State.redeclared_unknownSites (s : State) : (s.redeclared).unknownSites = s.unknownSites := rfl
@[simp] theorem State.redeclared_time (s : State) : (s.redeclared).time = s.time := rfl
@[simp] theorem State.redeclared_products (s : State) : (s.redeclared).products = s.products := rfl
@[simp] theorem State.redeclared_census (s : State) : (s.redeclared).census = s.census := rfl
@[simp] theorem State.redeclared_book (s : State) : (s.redeclared).book = s.book := rfl
@[simp] theorem State.redeclared_activation (s : State) : (s.redeclared).activation = s.activation := rfl
@[simp] theorem State.redeclared_allocation (s : State) : (s.redeclared).allocation = s.allocation := rfl
@[simp] theorem State.redeclared_links (s : State) : (s.redeclared).links = s.links := rfl
@[simp] theorem State.redeclared_arbiter (s : State) : (s.redeclared).arbiter = s.arbiter := rfl
@[simp] theorem State.redeclared_management (s : State) : (s.redeclared).management = s.management := rfl
@[simp] theorem State.redeclared_params (s : State) : (s.redeclared).params = s.params := rfl
@[simp] theorem State.redeclared_freeDraws (s : State) : (s.redeclared).freeDraws = s.freeDraws := rfl
@[simp] theorem State.redeclared_pending (s : State) : (s.redeclared).pending = s.pending := rfl

@[simp] theorem State.setEngine_fleet (s : State) (port : Port) (e : Engine) : (s.setEngine port e).fleet = s.fleet := by cases port <;> rfl
@[simp] theorem State.setEngine_unknownSites (s : State) (port : Port) (e : Engine) : (s.setEngine port e).unknownSites = s.unknownSites := by cases port <;> rfl
@[simp] theorem State.setEngine_time (s : State) (port : Port) (e : Engine) : (s.setEngine port e).time = s.time := by cases port <;> rfl
@[simp] theorem State.setEngine_products (s : State) (port : Port) (e : Engine) : (s.setEngine port e).products = s.products := by cases port <;> rfl
@[simp] theorem State.setEngine_census (s : State) (port : Port) (e : Engine) : (s.setEngine port e).census = s.census := by cases port <;> rfl
@[simp] theorem State.setEngine_book (s : State) (port : Port) (e : Engine) : (s.setEngine port e).book = s.book := by cases port <;> rfl
@[simp] theorem State.setEngine_activation (s : State) (port : Port) (e : Engine) : (s.setEngine port e).activation = s.activation := by cases port <;> rfl
@[simp] theorem State.setEngine_allocation (s : State) (port : Port) (e : Engine) : (s.setEngine port e).allocation = s.allocation := by cases port <;> rfl
@[simp] theorem State.setEngine_monitor (s : State) (port : Port) (e : Engine) : (s.setEngine port e).monitor = s.monitor := by cases port <;> rfl
@[simp] theorem State.setEngine_arbiter (s : State) (port : Port) (e : Engine) : (s.setEngine port e).arbiter = s.arbiter := by cases port <;> rfl
@[simp] theorem State.setEngine_management (s : State) (port : Port) (e : Engine) : (s.setEngine port e).management = s.management := by cases port <;> rfl
@[simp] theorem State.setEngine_params (s : State) (port : Port) (e : Engine) : (s.setEngine port e).params = s.params := by cases port <;> rfl
@[simp] theorem State.setEngine_freeDraws (s : State) (port : Port) (e : Engine) : (s.setEngine port e).freeDraws = s.freeDraws := by cases port <;> rfl
@[simp] theorem State.setEngine_pending (s : State) (port : Port) (e : Engine) : (s.setEngine port e).pending = s.pending := by cases port <;> rfl

@[simp] theorem State.reportClass_fleet (s : State) (port : Port) (c : ErrClass) (b : Bool) : (s.reportClass port c b).fleet = s.fleet := by cases port <;> rfl
@[simp] theorem State.reportClass_unknownSites (s : State) (port : Port) (c : ErrClass) (b : Bool) : (s.reportClass port c b).unknownSites = s.unknownSites := by cases port <;> rfl
@[simp] theorem State.reportClass_time (s : State) (port : Port) (c : ErrClass) (b : Bool) : (s.reportClass port c b).time = s.time := by cases port <;> rfl
@[simp] theorem State.reportClass_products (s : State) (port : Port) (c : ErrClass) (b : Bool) : (s.reportClass port c b).products = s.products := by cases port <;> rfl
@[simp] theorem State.reportClass_census (s : State) (port : Port) (c : ErrClass) (b : Bool) : (s.reportClass port c b).census = s.census := by cases port <;> rfl
@[simp] theorem State.reportClass_book (s : State) (port : Port) (c : ErrClass) (b : Bool) : (s.reportClass port c b).book = s.book := by cases port <;> rfl
@[simp] theorem State.reportClass_activation (s : State) (port : Port) (c : ErrClass) (b : Bool) : (s.reportClass port c b).activation = s.activation := by cases port <;> rfl
@[simp] theorem State.reportClass_allocation (s : State) (port : Port) (c : ErrClass) (b : Bool) : (s.reportClass port c b).allocation = s.allocation := by cases port <;> rfl
@[simp] theorem State.reportClass_monitor (s : State) (port : Port) (c : ErrClass) (b : Bool) : (s.reportClass port c b).monitor = s.monitor := by cases port <;> rfl
@[simp] theorem State.reportClass_arbiter (s : State) (port : Port) (c : ErrClass) (b : Bool) : (s.reportClass port c b).arbiter = s.arbiter := by cases port <;> rfl
@[simp] theorem State.reportClass_management (s : State) (port : Port) (c : ErrClass) (b : Bool) : (s.reportClass port c b).management = s.management := by cases port <;> rfl
@[simp] theorem State.reportClass_params (s : State) (port : Port) (c : ErrClass) (b : Bool) : (s.reportClass port c b).params = s.params := by cases port <;> rfl
@[simp] theorem State.reportClass_freeDraws (s : State) (port : Port) (c : ErrClass) (b : Bool) : (s.reportClass port c b).freeDraws = s.freeDraws := by cases port <;> rfl
@[simp] theorem State.reportClass_pending (s : State) (port : Port) (c : ErrClass) (b : Bool) : (s.reportClass port c b).pending = s.pending := by cases port <;> rfl

@[simp] theorem State.dropHead_fleet (s : State) (port : Port) : (s.dropHead port).fleet = s.fleet := by cases port <;> rfl
@[simp] theorem State.dropHead_unknownSites (s : State) (port : Port) : (s.dropHead port).unknownSites = s.unknownSites := by cases port <;> rfl
@[simp] theorem State.dropHead_time (s : State) (port : Port) : (s.dropHead port).time = s.time := by cases port <;> rfl
@[simp] theorem State.dropHead_products (s : State) (port : Port) : (s.dropHead port).products = s.products := by cases port <;> rfl
@[simp] theorem State.dropHead_census (s : State) (port : Port) : (s.dropHead port).census = s.census := by cases port <;> rfl
@[simp] theorem State.dropHead_book (s : State) (port : Port) : (s.dropHead port).book = s.book := by cases port <;> rfl
@[simp] theorem State.dropHead_activation (s : State) (port : Port) : (s.dropHead port).activation = s.activation := by cases port <;> rfl
@[simp] theorem State.dropHead_allocation (s : State) (port : Port) : (s.dropHead port).allocation = s.allocation := by cases port <;> rfl
@[simp] theorem State.dropHead_monitor (s : State) (port : Port) : (s.dropHead port).monitor = s.monitor := by cases port <;> rfl
@[simp] theorem State.dropHead_arbiter (s : State) (port : Port) : (s.dropHead port).arbiter = s.arbiter := by cases port <;> rfl
@[simp] theorem State.dropHead_management (s : State) (port : Port) : (s.dropHead port).management = s.management := by cases port <;> rfl
@[simp] theorem State.dropHead_params (s : State) (port : Port) : (s.dropHead port).params = s.params := by cases port <;> rfl
@[simp] theorem State.dropHead_freeDraws (s : State) (port : Port) : (s.dropHead port).freeDraws = s.freeDraws := by cases port <;> rfl
@[simp] theorem State.dropHead_pending (s : State) (port : Port) : (s.dropHead port).pending = s.pending := by cases port <;> rfl

@[simp] theorem State.emptyTransmitter_fleet (s : State) (port : Port) : (s.emptyTransmitter port).fleet = s.fleet := by cases port <;> rfl
@[simp] theorem State.emptyTransmitter_unknownSites (s : State) (port : Port) : (s.emptyTransmitter port).unknownSites = s.unknownSites := by cases port <;> rfl
@[simp] theorem State.emptyTransmitter_time (s : State) (port : Port) : (s.emptyTransmitter port).time = s.time := by cases port <;> rfl
@[simp] theorem State.emptyTransmitter_products (s : State) (port : Port) : (s.emptyTransmitter port).products = s.products := by cases port <;> rfl
@[simp] theorem State.emptyTransmitter_census (s : State) (port : Port) : (s.emptyTransmitter port).census = s.census := by cases port <;> rfl
@[simp] theorem State.emptyTransmitter_book (s : State) (port : Port) : (s.emptyTransmitter port).book = s.book := by cases port <;> rfl
@[simp] theorem State.emptyTransmitter_activation (s : State) (port : Port) : (s.emptyTransmitter port).activation = s.activation := by cases port <;> rfl
@[simp] theorem State.emptyTransmitter_allocation (s : State) (port : Port) : (s.emptyTransmitter port).allocation = s.allocation := by cases port <;> rfl
@[simp] theorem State.emptyTransmitter_monitor (s : State) (port : Port) : (s.emptyTransmitter port).monitor = s.monitor := by cases port <;> rfl
@[simp] theorem State.emptyTransmitter_arbiter (s : State) (port : Port) : (s.emptyTransmitter port).arbiter = s.arbiter := by cases port <;> rfl
@[simp] theorem State.emptyTransmitter_management (s : State) (port : Port) : (s.emptyTransmitter port).management = s.management := by cases port <;> rfl
@[simp] theorem State.emptyTransmitter_params (s : State) (port : Port) : (s.emptyTransmitter port).params = s.params := by cases port <;> rfl
@[simp] theorem State.emptyTransmitter_freeDraws (s : State) (port : Port) : (s.emptyTransmitter port).freeDraws = s.freeDraws := by cases port <;> rfl
@[simp] theorem State.emptyTransmitter_pending (s : State) (port : Port) : (s.emptyTransmitter port).pending = s.pending := by cases port <;> rfl

@[simp] theorem State.dropReport_fleet (s : State) (slot : Nat) : (s.dropReport slot).fleet = s.fleet := rfl
@[simp] theorem State.dropReport_unknownSites (s : State) (slot : Nat) : (s.dropReport slot).unknownSites = s.unknownSites := rfl
@[simp] theorem State.dropReport_time (s : State) (slot : Nat) : (s.dropReport slot).time = s.time := rfl
@[simp] theorem State.dropReport_products (s : State) (slot : Nat) : (s.dropReport slot).products = s.products := rfl
@[simp] theorem State.dropReport_census (s : State) (slot : Nat) : (s.dropReport slot).census = s.census := rfl
@[simp] theorem State.dropReport_book (s : State) (slot : Nat) : (s.dropReport slot).book = s.book := rfl
@[simp] theorem State.dropReport_activation (s : State) (slot : Nat) : (s.dropReport slot).activation = s.activation := rfl
@[simp] theorem State.dropReport_monitor (s : State) (slot : Nat) : (s.dropReport slot).monitor = s.monitor := rfl
@[simp] theorem State.dropReport_links (s : State) (slot : Nat) : (s.dropReport slot).links = s.links := rfl
@[simp] theorem State.dropReport_arbiter (s : State) (slot : Nat) : (s.dropReport slot).arbiter = s.arbiter := rfl
@[simp] theorem State.dropReport_management (s : State) (slot : Nat) : (s.dropReport slot).management = s.management := rfl
@[simp] theorem State.dropReport_params (s : State) (slot : Nat) : (s.dropReport slot).params = s.params := rfl
@[simp] theorem State.dropReport_freeDraws (s : State) (slot : Nat) : (s.dropReport slot).freeDraws = s.freeDraws := rfl
@[simp] theorem State.dropReport_pending (s : State) (slot : Nat) : (s.dropReport slot).pending = s.pending := rfl
@[simp] theorem State.dropReport_records (s : State) (slot : Nat) : (s.dropReport slot).allocation.records = s.allocation.records := rfl
@[simp] theorem State.dropReport_pass (s : State) (slot : Nat) : (s.dropReport slot).allocation.pass = s.allocation.pass := rfl
@[simp] theorem State.dropReport_siteAt (s : State) (slot k : Nat) : (s.dropReport slot).siteAt k = s.siteAt k := rfl
@[simp] theorem State.dropReport_dispatch (s : State) (slot k : Nat) : (s.dropReport slot).dispatch k = s.dispatch k := rfl

@[simp] theorem State.waitReport_fleet (s : State) (slot : Nat) : (s.waitReport slot).fleet = s.fleet := rfl
@[simp] theorem State.waitReport_unknownSites (s : State) (slot : Nat) : (s.waitReport slot).unknownSites = s.unknownSites := rfl
@[simp] theorem State.waitReport_time (s : State) (slot : Nat) : (s.waitReport slot).time = s.time := rfl
@[simp] theorem State.waitReport_products (s : State) (slot : Nat) : (s.waitReport slot).products = s.products := rfl
@[simp] theorem State.waitReport_census (s : State) (slot : Nat) : (s.waitReport slot).census = s.census := rfl
@[simp] theorem State.waitReport_book (s : State) (slot : Nat) : (s.waitReport slot).book = s.book := rfl
@[simp] theorem State.waitReport_activation (s : State) (slot : Nat) : (s.waitReport slot).activation = s.activation := rfl
@[simp] theorem State.waitReport_monitor (s : State) (slot : Nat) : (s.waitReport slot).monitor = s.monitor := rfl
@[simp] theorem State.waitReport_links (s : State) (slot : Nat) : (s.waitReport slot).links = s.links := rfl
@[simp] theorem State.waitReport_arbiter (s : State) (slot : Nat) : (s.waitReport slot).arbiter = s.arbiter := rfl
@[simp] theorem State.waitReport_management (s : State) (slot : Nat) : (s.waitReport slot).management = s.management := rfl
@[simp] theorem State.waitReport_params (s : State) (slot : Nat) : (s.waitReport slot).params = s.params := rfl
@[simp] theorem State.waitReport_freeDraws (s : State) (slot : Nat) : (s.waitReport slot).freeDraws = s.freeDraws := rfl
@[simp] theorem State.waitReport_pending (s : State) (slot : Nat) : (s.waitReport slot).pending = s.pending := rfl
@[simp] theorem State.waitReport_records (s : State) (slot : Nat) : (s.waitReport slot).allocation.records = s.allocation.records := rfl
@[simp] theorem State.waitReport_pass (s : State) (slot : Nat) : (s.waitReport slot).allocation.pass = s.allocation.pass := rfl
@[simp] theorem State.waitReport_siteAt (s : State) (slot k : Nat) : (s.waitReport slot).siteAt k = s.siteAt k := rfl
@[simp] theorem State.waitReport_dispatch (s : State) (slot k : Nat) : (s.waitReport slot).dispatch k = s.dispatch k := rfl

@[simp] theorem State.mem_dropReport (s : State) (slot k : Nat) :
    k ∈ (s.dropReport slot).allocation.reports ↔ k ∈ s.allocation.reports ∧ k ≠ slot := by simp [State.dropReport]

@[simp] theorem State.mem_waitReport (s : State) (slot k : Nat) :
    k ∈ (s.waitReport slot).allocation.reports ↔ k ∈ s.allocation.reports ∨ k = slot := by simp [State.waitReport]

end Sys2Proof.Machine
end

