-- ==== Sys2Proof/Laws/Egress.lean ====
section
/-! SUPPORT. What placing a frame, posting a notice and the arbiter's choice can do: nothing outside the Grid Port's
egress (R178, R193), and what evaluating the conditions can do besides (R156). -/

namespace Sys2Proof.Machine

/-! ## The relation -/

theorem EgressOnly.refl (s : State) : EgressOnly s s := by constructor <;> rfl

theorem EgressOnly.trans {s t u : State} (h : EgressOnly s t) (k : EgressOnly t u) : EgressOnly s u where
  fleet := k.fleet.trans h.fleet
  unknownSites := k.unknownSites.trans h.unknownSites
  time := k.time.trans h.time
  products := k.products.trans h.products
  census := k.census.trans h.census
  activation := k.activation.trans h.activation
  allocation := k.allocation.trans h.allocation
  monitor := k.monitor.trans h.monitor
  params := k.params.trans h.params
  freeDraws := k.freeDraws.trans h.freeDraws
  pending := k.pending.trans h.pending
  fleetEngine := k.fleetEngine.trans h.fleetEngine
  meterEngine := k.meterEngine.trans h.meterEngine
  fleetOut := k.fleetOut.trans h.fleetOut
  fleetTx := k.fleetTx.trans h.fleetTx
  gridEngine := by rw [k.gridEngine, h.gridEngine]
  queue := k.queue.trans h.queue
  inExecution := k.inExecution.trans h.inExecution
  window := k.window.trans h.window
  returnLimit := k.returnLimit.trans h.returnLimit
  lastId := k.lastId.trans h.lastId
  created := k.created.trans h.created
  ring := k.ring.trans h.ring
  commitments := k.commitments.trans h.commitments
  offers := k.offers.trans h.offers

/-- A fold of steps each of which stays within the relation. -/
theorem EgressOnly.foldl {α : Type} (f : State → α → State) (h : ∀ s a, EgressOnly s (f s a)) (l : List α) (s : State) :
    EgressOnly s (l.foldl f s) := by
  induction l generalizing s with
  | nil => exact .refl s
  | cons a l ih => exact (h s a).trans (ih _)

/-! ## Handing over and choosing (R88, R178) -/

theorem sendGrid0_egress (s : State) (k : FrameKind) (o : Octets) : EgressOnly s (s.sendGrid0 k o) := by
  constructor <;> rfl

theorem sendGrid2_egress (s : State) (k : FrameKind) (o : Octets) : EgressOnly s (s.sendGrid2 k o) := by
  constructor <;> rfl

theorem clearReservation_egress (s : State) (id : Nat) : EgressOnly s (s.clearReservation id) := by
  constructor <;> rfl

theorem mapOffer_egress (s : State) (id : Nat) (f : Offer → Offer) (h : ∀ o, (f o).terms = o.terms) :
    EgressOnly s (s.mapOffer id f) := by
  constructor <;> try rfl
  simp only [State.mapOffer, List.map_map]
  refine List.map_congr_left (fun o _ => ?_)
  simp only [Function.comp]
  split
  · exact h o
  · rfl

theorem handOverOffer_egress (s : State) (id : Nat) : EgressOnly s (s.handOverOffer id) := by
  unfold State.handOverOffer
  split
  · exact .refl s
  · exact ((sendGrid0_egress s _ _).trans
      (mapOffer_egress _ id (fun x => { x with state := .submitted }) (fun _ => rfl))).trans (clearReservation_egress _ id)

theorem handOverWithdraw_egress (s : State) (id : Nat) : EgressOnly s (s.handOverWithdraw id) := by
  unfold State.handOverWithdraw
  split
  · exact .refl s
  · exact sendGrid0_egress s _ _

theorem arbiter_egress (s : State) (a : Arbiter) : EgressOnly s { s with arbiter := a } := by constructor <;> rfl

/-- R178: handing over the first frame of a source stays within the Grid Port's egress. -/
theorem handOver_egress (s : State) (x : Source) : EgressOnly s (s.handOver x) := by
  cases x <;> unfold State.handOver <;> dsimp only <;> split
  all_goals first
    | exact .refl s
    | exact (arbiter_egress s _).trans (sendGrid0_egress _ _ _)
    | exact (arbiter_egress s _).trans (handOverOffer_egress _ _)
    | exact (arbiter_egress s _).trans (handOverWithdraw_egress _ _)
    | (constructor <;> rfl)

/-- R178, R179: a choice stays within the Grid Port's egress. -/
theorem choose_egress (s : State) : EgressOnly s s.choose := by
  unfold State.choose
  split
  · split
    · exact .refl s
    · exact handOver_egress s _
  · exact .refl s

/-- R178, R179: no choice while the port is DOWN or the transmitter holds a frame. -/
theorem choose_of_gridHolds {s : State} (h : s.gridHolds = true) : s.choose = s := by
  unfold State.choose
  split
  · simp_all [State.gridHolds]
  · rfl

theorem afterPlacing_egress (s : State) (b : Bool) : EgressOnly s (s.afterPlacing b) := by
  unfold State.afterPlacing
  split
  · exact choose_egress s
  · exact .refl s

theorem afterPlacing_of_gridHolds {s : State} (h : s.gridHolds = true) (b : Bool) : s.afterPlacing b = s := by
  unfold State.afterPlacing
  split
  · exact choose_of_gridHolds h
  · rfl

/-! ## Placing frames -/

theorem placeAck_egress (s : State) (k : Option Product) (a : Ack) : EgressOnly s (s.placeAck k a) :=
  (arbiter_egress s _).trans (afterPlacing_egress _ _)

theorem placeReport_egress (s : State) (p : Product) (r : DeliveryReport) : EgressOnly s (s.placeReport p r) :=
  (arbiter_egress s _).trans (afterPlacing_egress _ _)

theorem placeAvailability_egress (s : State) (l : List AvailEntry) : EgressOnly s (s.placeAvailability l) :=
  (arbiter_egress s _).trans (afterPlacing_egress _ _)

theorem placeOfferEntry_egress (s : State) (e : OfferEntry) : EgressOnly s (s.placeOfferEntry e) :=
  (arbiter_egress s _).trans (afterPlacing_egress _ _)

theorem placeResponse_egress (s : State) (r : Response) : EgressOnly s (s.placeResponse r) :=
  (arbiter_egress s _).trans (afterPlacing_egress _ _)

theorem removeOfferEntry_egress (s : State) (e : OfferEntry) : EgressOnly s (s.removeOfferEntry e) :=
  arbiter_egress s _

/-- R193: posting a notice stays within the Grid Port's egress. -/
theorem post_egress (s : State) (n : Notice) : EgressOnly s (s.post n) := by
  unfold State.post
  split
  · split
    · exact EgressOnly.trans (by constructor <;> rfl) (afterPlacing_egress _ _)
    · constructor <;> rfl
  · exact .refl s

theorem ackFor_egress (s : State) (p : Product) (id : Nat) (o : AckOutcome) (t : Option Nat) :
    EgressOnly s (s.ackFor p id o t) := placeAck_egress s _ _

theorem ackUnknown_egress (s : State) (code id : Nat) (t : Option Nat) : EgressOnly s (s.ackUnknown code id t) :=
  placeAck_egress s _ _

/-! ## Evaluating the conditions (R156) -/

theorem EvaluationOnly.refl (s : State) : EvaluationOnly s s :=
  ⟨.refl s, ⟨rfl, rfl⟩, ⟨rfl, rfl⟩, fun _ => rfl⟩

theorem EgressOnly.evaluation {s t : State} (h : EgressOnly s t) : EvaluationOnly s t := by
  have hm := h.monitor
  refine ⟨?_, by simp [hm], by simp [hm], fun p => by simp [State.mon, hm]⟩
  rw [← hm]
  exact h

theorem EvaluationOnly.trans {s t u : State} (h : EvaluationOnly s t) (k : EvaluationOnly t u) : EvaluationOnly s u where
  egress := by
    have a := h.egress
    have b := k.egress
    exact { fleet := b.fleet.trans a.fleet, unknownSites := b.unknownSites.trans a.unknownSites,
            time := b.time.trans a.time, products := b.products.trans a.products, census := b.census.trans a.census,
            activation := b.activation.trans a.activation, allocation := b.allocation.trans a.allocation,
            monitor := rfl, params := b.params.trans a.params, freeDraws := b.freeDraws.trans a.freeDraws,
            pending := b.pending.trans a.pending, fleetEngine := b.fleetEngine.trans a.fleetEngine,
            meterEngine := b.meterEngine.trans a.meterEngine, fleetOut := b.fleetOut.trans a.fleetOut,
            fleetTx := b.fleetTx.trans a.fleetTx,
            gridEngine := by have x := a.gridEngine; have y := b.gridEngine; dsimp at x y ⊢; rw [y, x]
            queue := b.queue.trans a.queue, inExecution := b.inExecution.trans a.inExecution,
            window := b.window.trans a.window, returnLimit := b.returnLimit.trans a.returnLimit,
            lastId := b.lastId.trans a.lastId, created := b.created.trans a.created, ring := b.ring.trans a.ring,
            commitments := b.commitments.trans a.commitments, offers := b.offers.trans a.offers }
  intervals := ⟨k.intervals.1.trans h.intervals.1, k.intervals.2.trans h.intervals.2⟩
  portStates := ⟨k.portStates.1.trans h.portStates.1, k.portStates.2.trans h.portStates.2⟩
  measured := fun p => by rw [k.measured p, h.measured p]

theorem EvaluationOnly.foldl {α : Type} (f : State → α → State) (h : ∀ s a, EvaluationOnly s (f s a)) (l : List α)
    (s : State) : EvaluationOnly s (l.foldl f s) := by
  induction l generalizing s with
  | nil => exact .refl s
  | cons a l ih => exact (h s a).trans (ih _)

theorem noteChange_egress (s : State) (p : Product) (a b c : CondSet) : EgressOnly s (s.noteChange p a b c) := by
  unfold State.noteChange
  split
  · exact post_egress s _
  · exact .refl s

theorem noteShort_egress (s : State) (p : Product) (b : Bool) : EgressOnly s (s.noteShort p b) := by
  unfold State.noteShort
  split
  · split
    · exact post_egress s _
    · exact .refl s
  · exact .refl s

theorem noteCleared_egress (s : State) (p : Product) (b : Bool) : EgressOnly s (s.noteCleared p b) := by
  unfold State.noteCleared
  split
  · exact post_egress s _
  · exact .refl s

theorem postConditionChange_egress (s : State) (p : Product) (a b : CondSet) :
    EgressOnly s (s.postConditionChange p a b) :=
  ((noteChange_egress s p _ _ _).trans (noteShort_egress _ p _)).trans (noteCleared_egress _ p _)

theorem queueAvailability_evaluation (s : State) : EvaluationOnly s s.queueAvailability := by
  unfold State.queueAvailability
  refine EvaluationOnly.trans ?_ (placeAvailability_egress _ _).evaluation
  exact ⟨by constructor <;> rfl, ⟨rfl, rfl⟩, ⟨rfl, rfl⟩, fun _ => rfl⟩

/-- R156: an evaluation changes the Monitor's condition sets, declarations and heartbeat, and what placing the frames
it makes changes. -/
theorem evaluate_evaluation (s : State) (b : Bool) : EvaluationOnly s (s.evaluate b) := by
  unfold State.evaluate
  dsimp only
  have hr : EvaluationOnly s s.recomputed :=
    ⟨by constructor <;> rfl, ⟨rfl, rfl⟩, ⟨rfl, rfl⟩, fun p => by simp [State.recomputed, State.mon]⟩
  have hf : ∀ u, EvaluationOnly u (allProducts.foldl
      (fun t p => t.postConditionChange p (s.mon p).conditions (s.conditionsOf p)) u) :=
    fun u => EvaluationOnly.foldl _ (fun v p => (postConditionChange_egress v p _ _).evaluation) _ u
  have hd : ∀ u : State, EvaluationOnly u u.redeclared := fun u =>
    ⟨by constructor <;> rfl, ⟨rfl, rfl⟩, ⟨rfl, rfl⟩, fun p => by simp [State.redeclared, State.mon]⟩
  have h := (hr.trans (hf _)).trans (hd _)
  split
  · exact h.trans (queueAvailability_evaluation _)
  · exact h

theorem signalLost_frame (s : State) (p : Product) (b : Bool) :
    EgressOnly { s with monitor := (s.signalLost p b).monitor } (s.signalLost p b) := by
  have h := (evaluate_evaluation (s.setMon p { s.mon p with freqLost := b }) false).egress
  unfold State.signalLost
  exact { h with monitor := rfl }

end Sys2Proof.Machine
end

