-- ==== Sys2Proof/Laws/Tables.lean ====
section
/-! SUPPORT. The tables of the part: reading after writing, and that every operation keeps the canonical form. -/

namespace Sys2Proof.Machine

variable {α : Type}

/-! ## Reading after writing -/

@[simp] theorem Table.find_nil (k : Nat) : Table.find ([] : Table α) k = none := rfl

@[simp] theorem Table.find_put_same (t : Table α) (k : Nat) (a : α) : Table.find (Table.put t k a) k = some a := by
  induction t with
  | nil => simp [Table.put, Table.find]
  | cons e t ih =>
    obtain ⟨j, b⟩ := e
    unfold Table.put
    split
    · simp [Table.find]
    · split
      · simp [Table.find]
      · simp_all [Table.find]

theorem Table.find_put_other (t : Table α) {k j : Nat} (h : j ≠ k) (a : α) :
    Table.find (Table.put t k a) j = Table.find t j := by
  induction t with
  | nil => simp [Table.put, Table.find, Ne.symm h]
  | cons e t ih =>
    obtain ⟨i, b⟩ := e
    unfold Table.put
    split
    · next hi => subst hi; simp [Table.find, Ne.symm h]
    · next hi =>
      split
      · next hk =>
        simp only [Table.find, if_neg (Ne.symm h)]
        rcases lt_or_gt_of_ne h with hj | hj
        · have h1 : ¬ i = j := by omega
          have h2 : j < i := by omega
          simp [hj, h1, h2]
        · have h1 : ¬ j < k := by omega
          simp [h1]
      · next hk => simp only [Table.find, ih]

theorem Table.risingFrom_mono {t : Table α} {a b : Nat} (h : a ≤ b) (w : Table.risingFrom t b = true) :
    Table.risingFrom t a = true := by
  cases t with
  | nil => rfl
  | cons e t => simp_all [Table.risingFrom]; omega

theorem Table.find_below {t : Table α} {k low : Nat} (w : Table.risingFrom t low = true) (h : k < low) :
    Table.find t k = none := by
  cases t with
  | nil => rfl
  | cons e t =>
    obtain ⟨j, b⟩ := e
    simp only [Table.risingFrom, Bool.and_eq_true, decide_eq_true_eq] at w
    have h1 : ¬ j = k := by omega
    have h2 : k < j := by omega
    simp [Table.find, h1, h2]

theorem Table.find_drop_same {t : Table α} {low : Nat} (w : Table.risingFrom t low = true) (k : Nat) :
    Table.find (Table.drop t k) k = none := by
  induction t generalizing low with
  | nil => rfl
  | cons e t ih =>
    obtain ⟨j, b⟩ := e
    simp only [Table.risingFrom, Bool.and_eq_true, decide_eq_true_eq] at w
    unfold Table.drop
    split
    · next h => subst h; exact Table.find_below w.2 (by omega)
    · next h =>
      split
      · next h2 => simp [Table.find, h, h2]
      · next h2 => simp [Table.find, h, h2, ih w.2]

theorem Table.find_drop_other {t : Table α} {low : Nat} (w : Table.risingFrom t low = true) {k j : Nat} (h : j ≠ k) :
    Table.find (Table.drop t k) j = Table.find t j := by
  induction t generalizing low with
  | nil => rfl
  | cons e t ih =>
    obtain ⟨i, b⟩ := e
    simp only [Table.risingFrom, Bool.and_eq_true, decide_eq_true_eq] at w
    unfold Table.drop
    split
    · next hi =>
      subst hi
      simp only [Table.find, if_neg (Ne.symm h)]
      split
      · next hj => exact Table.find_below w.2 (by omega)
      · rfl
    · next hi =>
      split
      · rfl
      · simp only [Table.find, ih w.2]

/-- A table whose values are mapped by one function reads as the map of what the table reads. -/
theorem Table.find_map {β : Type} (t : Table α) (f : α → β) (k : Nat) :
    Table.find (t.map (fun e => (e.1, f e.2)) : Table β) k = (Table.find t k).map f := by
  induction t with
  | nil => rfl
  | cons e t ih =>
    simp only [List.map_cons, Table.find]
    split <;> [rfl; (split <;> [rfl; exact ih])]

/-! ## The canonical form -/

theorem Table.risingFrom_put {t : Table α} {low k : Nat} (w : Table.risingFrom t low = true) (h : low ≤ k) (a : α) :
    Table.risingFrom (Table.put t k a) low = true := by
  induction t generalizing low with
  | nil => simp [Table.put, Table.risingFrom, h]
  | cons e t ih =>
    obtain ⟨j, b⟩ := e
    simp only [Table.risingFrom, Bool.and_eq_true, decide_eq_true_eq] at w
    unfold Table.put
    split
    · next hj => subst hj; simp [Table.risingFrom, w.1, w.2]
    · split
      · next hk =>
        have : Table.risingFrom t (j + 1) = true := w.2
        simp [Table.risingFrom, h, this]; omega
      · next hk => simp [Table.risingFrom, w.1, ih w.2 (by omega)]

theorem Table.risingFrom_drop {t : Table α} {low : Nat} (w : Table.risingFrom t low = true) (k : Nat) :
    Table.risingFrom (Table.drop t k) low = true := by
  induction t generalizing low with
  | nil => rfl
  | cons e t ih =>
    obtain ⟨j, b⟩ := e
    have w0 := w
    simp only [Table.risingFrom, Bool.and_eq_true, decide_eq_true_eq] at w
    unfold Table.drop
    split
    · exact Table.risingFrom_mono (by omega) w.2
    · split
      · exact w0
      · simp [Table.risingFrom, w.1, ih w.2]

theorem Table.wf_put {t : Table α} (w : Table.wf t = true) (k : Nat) (a : α) : Table.wf (Table.put t k a) = true :=
  Table.risingFrom_put w (Nat.zero_le k) a

theorem Table.wf_drop {t : Table α} (w : Table.wf t = true) (k : Nat) : Table.wf (Table.drop t k) = true :=
  Table.risingFrom_drop w k

theorem Table.mem_put {t : Table α} {k : Nat} {a : α} {e : Nat × α} (h : e ∈ Table.put t k a) : e = (k, a) ∨ e ∈ t := by
  induction t with
  | nil => simp_all [Table.put]
  | cons f t ih =>
    obtain ⟨j, b⟩ := f
    unfold Table.put at h
    split at h
    · simp_all; tauto
    · split at h
      · simp_all
      · simp only [List.mem_cons] at h ⊢
        rcases h with h | h
        · exact .inr (.inl h)
        · exact (ih h).imp id .inr

theorem Table.mem_drop {t : Table α} {k : Nat} {e : Nat × α} (h : e ∈ Table.drop t k) : e ∈ t := by
  induction t with
  | nil => simp_all [Table.drop]
  | cons f t ih =>
    obtain ⟨j, b⟩ := f
    unfold Table.drop at h
    split at h
    · exact .tail _ h
    · split at h
      · exact h
      · simp only [List.mem_cons] at h ⊢
        exact h.imp id ih

section Canonical
variable [DecidableEq α]

/-- Writing keeps the canonical form of a table whose unlisted keys read as `d`. -/
theorem Table.wfOr_writeOr {t : Table α} {d : α} (w : Table.wfOr t d = true) (k : Nat) (a : α) :
    Table.wfOr (Table.writeOr t d k a) d = true := by
  simp only [Table.wfOr, Bool.and_eq_true, List.all_eq_true, decide_eq_true_eq] at w ⊢
  unfold Table.writeOr
  split
  · exact ⟨Table.wf_drop w.1 k, fun e he => w.2 e (Table.mem_drop he)⟩
  · next ha =>
    refine ⟨Table.wf_put w.1 k a, fun e he => ?_⟩
    rcases Table.mem_put he with rfl | h
    · exact ha
    · exact w.2 e h

theorem Table.readOr_writeOr_same {t : Table α} {d : α} (w : Table.wf t = true) (k : Nat) (a : α) :
    Table.readOr (Table.writeOr t d k a) d k = a := by
  unfold Table.writeOr Table.readOr
  split
  · next h => rw [Table.find_drop_same w, h]; rfl
  · simp

theorem Table.readOr_writeOr_other {t : Table α} {d : α} (w : Table.wf t = true) {k j : Nat} (h : j ≠ k) (a : α) :
    Table.readOr (Table.writeOr t d k a) d j = Table.readOr t d j := by
  unfold Table.writeOr Table.readOr
  split
  · rw [Table.find_drop_other w h]
  · rw [Table.find_put_other t h]

end Canonical

end Sys2Proof.Machine
end

