-- ==== Sys2Proof/Laws/Operations.lean ====
section
/-! SUPPORT. What the shared operations that hand something on leave as it was: posting, placing, choosing, evaluating,
triggering a pass, and the Activation Unit's hand-on, one lemma per field; then what a pass latches, what a trigger
does, what a commitment adds, and what a sweep withdraws. -/

namespace Sys2Proof.Machine

/-! ## Posting, placing and choosing -/

@[simp] theorem State.post_fleet (s : State) (n : Notice) : (s.post n).fleet = s.fleet := (post_egress s n).fleet
@[simp] theorem State.post_unknownSites (s : State) (n : Notice) : (s.post n).unknownSites = s.unknownSites := (post_egress s n).unknownSites
@[simp] theorem State.post_time (s : State) (n : Notice) : (s.post n).time = s.time := (post_egress s n).time
@[simp] theorem State.post_products (s : State) (n : Notice) : (s.post n).products = s.products := (post_egress s n).products
@[simp] theorem State.post_census (s : State) (n : Notice) : (s.post n).census = s.census := (post_egress s n).census
@[simp] theorem State.post_activation (s : State) (n : Notice) : (s.post n).activation = s.activation := (post_egress s n).activation
@[simp] theorem State.post_allocation (s : State) (n : Notice) : (s.post n).allocation = s.allocation := (post_egress s n).allocation
@[simp] theorem State.post_monitor (s : State) (n : Notice) : (s.post n).monitor = s.monitor := (post_egress s n).monitor
@[simp] theorem State.post_params (s : State) (n : Notice) : (s.post n).params = s.params := (post_egress s n).params
@[simp] theorem State.post_freeDraws (s : State) (n : Notice) : (s.post n).freeDraws = s.freeDraws := (post_egress s n).freeDraws
@[simp] theorem State.post_pending (s : State) (n : Notice) : (s.post n).pending = s.pending := (post_egress s n).pending

@[simp] theorem State.choose_fleet (s : State) : (s.choose).fleet = s.fleet := (choose_egress s).fleet
@[simp] theorem State.choose_unknownSites (s : State) : (s.choose).unknownSites = s.unknownSites := (choose_egress s).unknownSites
@[simp] theorem State.choose_time (s : State) : (s.choose).time = s.time := (choose_egress s).time
@[simp] theorem State.choose_products (s : State) : (s.choose).products = s.products := (choose_egress s).products
@[simp] theorem State.choose_census (s : State) : (s.choose).census = s.census := (choose_egress s).census
@[simp] theorem State.choose_activation (s : State) : (s.choose).activation = s.activation := (choose_egress s).activation
@[simp] theorem State.choose_allocation (s : State) : (s.choose).allocation = s.allocation := (choose_egress s).allocation
@[simp] theorem State.choose_monitor (s : State) : (s.choose).monitor = s.monitor := (choose_egress s).monitor
@[simp] theorem State.choose_params (s : State) : (s.choose).params = s.params := (choose_egress s).params
@[simp] theorem State.choose_freeDraws (s : State) : (s.choose).freeDraws = s.freeDraws := (choose_egress s).freeDraws
@[simp] theorem State.choose_pending (s : State) : (s.choose).pending = s.pending := (choose_egress s).pending

@[simp] theorem State.afterPlacing_fleet (s : State) (b : Bool) : (s.afterPlacing b).fleet = s.fleet := (afterPlacing_egress s b).fleet
@[simp] theorem State.afterPlacing_unknownSites (s : State) (b : Bool) : (s.afterPlacing b).unknownSites = s.unknownSites := (afterPlacing_egress s b).unknownSites
@[simp] theorem State.afterPlacing_time (s : State) (b : Bool) : (s.afterPlacing b).time = s.time := (afterPlacing_egress s b).time
@[simp] theorem State.afterPlacing_products (s : State) (b : Bool) : (s.afterPlacing b).products = s.products := (afterPlacing_egress s b).products
@[simp] theorem State.afterPlacing_census (s : State) (b : Bool) : (s.afterPlacing b).census = s.census := (afterPlacing_egress s b).census
@[simp] theorem State.afterPlacing_activation (s : State) (b : Bool) : (s.afterPlacing b).activation = s.activation := (afterPlacing_egress s b).activation
@[simp] theorem State.afterPlacing_allocation (s : State) (b : Bool) : (s.afterPlacing b).allocation = s.allocation := (afterPlacing_egress s b).allocation
@[simp] theorem State.afterPlacing_monitor (s : State) (b : Bool) : (s.afterPlacing b).monitor = s.monitor := (afterPlacing_egress s b).monitor
@[simp] theorem State.afterPlacing_params (s : State) (b : Bool) : (s.afterPlacing b).params = s.params := (afterPlacing_egress s b).params
@[simp] theorem State.afterPlacing_freeDraws (s : State) (b : Bool) : (s.afterPlacing b).freeDraws = s.freeDraws := (afterPlacing_egress s b).freeDraws
@[simp] theorem State.afterPlacing_pending (s : State) (b : Bool) : (s.afterPlacing b).pending = s.pending := (afterPlacing_egress s b).pending

@[simp] theorem State.placeAck_fleet (s : State) (k : Option Product) (a : Ack) : (s.placeAck k a).fleet = s.fleet := (placeAck_egress s k a).fleet
@[simp] theorem State.placeAck_unknownSites (s : State) (k : Option Product) (a : Ack) : (s.placeAck k a).unknownSites = s.unknownSites := (placeAck_egress s k a).unknownSites
@[simp] theorem State.placeAck_time (s : State) (k : Option Product) (a : Ack) : (s.placeAck k a).time = s.time := (placeAck_egress s k a).time
@[simp] theorem State.placeAck_products (s : State) (k : Option Product) (a : Ack) : (s.placeAck k a).products = s.products := (placeAck_egress s k a).products
@[simp] theorem State.placeAck_census (s : State) (k : Option Product) (a : Ack) : (s.placeAck k a).census = s.census := (placeAck_egress s k a).census
@[simp] theorem State.placeAck_activation (s : State) (k : Option Product) (a : Ack) : (s.placeAck k a).activation = s.activation := (placeAck_egress s k a).activation
@[simp] theorem State.placeAck_allocation (s : State) (k : Option Product) (a : Ack) : (s.placeAck k a).allocation = s.allocation := (placeAck_egress s k a).allocation
@[simp] theorem State.placeAck_monitor (s : State) (k : Option Product) (a : Ack) : (s.placeAck k a).monitor = s.monitor := (placeAck_egress s k a).monitor
@[simp] theorem State.placeAck_params (s : State) (k : Option Product) (a : Ack) : (s.placeAck k a).params = s.params := (placeAck_egress s k a).params
@[simp] theorem State.placeAck_freeDraws (s : State) (k : Option Product) (a : Ack) : (s.placeAck k a).freeDraws = s.freeDraws := (placeAck_egress s k a).freeDraws
@[simp] theorem State.placeAck_pending (s : State) (k : Option Product) (a : Ack) : (s.placeAck k a).pending = s.pending := (placeAck_egress s k a).pending

@[simp] theorem State.placeReport_fleet (s : State) (p : Product) (r : DeliveryReport) : (s.placeReport p r).fleet = s.fleet := (placeReport_egress s p r).fleet
@[simp] theorem State.placeReport_unknownSites (s : State) (p : Product) (r : DeliveryReport) : (s.placeReport p r).unknownSites = s.unknownSites := (placeReport_egress s p r).unknownSites
@[simp] theorem State.placeReport_time (s : State) (p : Product) (r : DeliveryReport) : (s.placeReport p r).time = s.time := (placeReport_egress s p r).time
@[simp] theorem State.placeReport_products (s : State) (p : Product) (r : DeliveryReport) : (s.placeReport p r).products = s.products := (placeReport_egress s p r).products
@[simp] theorem State.placeReport_census (s : State) (p : Product) (r : DeliveryReport) : (s.placeReport p r).census = s.census := (placeReport_egress s p r).census
@[simp] theorem State.placeReport_activation (s : State) (p : Product) (r : DeliveryReport) : (s.placeReport p r).activation = s.activation := (placeReport_egress s p r).activation
@[simp] theorem State.placeReport_allocation (s : State) (p : Product) (r : DeliveryReport) : (s.placeReport p r).allocation = s.allocation := (placeReport_egress s p r).allocation
@[simp] theorem State.placeReport_monitor (s : State) (p : Product) (r : DeliveryReport) : (s.placeReport p r).monitor = s.monitor := (placeReport_egress s p r).monitor
@[simp] theorem State.placeReport_params (s : State) (p : Product) (r : DeliveryReport) : (s.placeReport p r).params = s.params := (placeReport_egress s p r).params
@[simp] theorem State.placeReport_freeDraws (s : State) (p : Product) (r : DeliveryReport) : (s.placeReport p r).freeDraws = s.freeDraws := (placeReport_egress s p r).freeDraws
@[simp] theorem State.placeReport_pending (s : State) (p : Product) (r : DeliveryReport) : (s.placeReport p r).pending = s.pending := (placeReport_egress s p r).pending

@[simp] theorem State.placeAvailability_fleet (s : State) (l : List AvailEntry) : (s.placeAvailability l).fleet = s.fleet := (placeAvailability_egress s l).fleet
@[simp] theorem State.placeAvailability_unknownSites (s : State) (l : List AvailEntry) : (s.placeAvailability l).unknownSites = s.unknownSites := (placeAvailability_egress s l).unknownSites
@[simp] theorem State.placeAvailability_time (s : State) (l : List AvailEntry) : (s.placeAvailability l).time = s.time := (placeAvailability_egress s l).time
@[simp] theorem State.placeAvailability_products (s : State) (l : List AvailEntry) : (s.placeAvailability l).products = s.products := (placeAvailability_egress s l).products
@[simp] theorem State.placeAvailability_census (s : State) (l : List AvailEntry) : (s.placeAvailability l).census = s.census := (placeAvailability_egress s l).census
@[simp] theorem State.placeAvailability_activation (s : State) (l : List AvailEntry) : (s.placeAvailability l).activation = s.activation := (placeAvailability_egress s l).activation
@[simp] theorem State.placeAvailability_allocation (s : State) (l : List AvailEntry) : (s.placeAvailability l).allocation = s.allocation := (placeAvailability_egress s l).allocation
@[simp] theorem State.placeAvailability_monitor (s : State) (l : List AvailEntry) : (s.placeAvailability l).monitor = s.monitor := (placeAvailability_egress s l).monitor
@[simp] theorem State.placeAvailability_params (s : State) (l : List AvailEntry) : (s.placeAvailability l).params = s.params := (placeAvailability_egress s l).params
@[simp] theorem State.placeAvailability_freeDraws (s : State) (l : List AvailEntry) : (s.placeAvailability l).freeDraws = s.freeDraws := (placeAvailability_egress s l).freeDraws
@[simp] theorem State.placeAvailability_pending (s : State) (l : List AvailEntry) : (s.placeAvailability l).pending = s.pending := (placeAvailability_egress s l).pending

@[simp] theorem State.placeOfferEntry_fleet (s : State) (e : OfferEntry) : (s.placeOfferEntry e).fleet = s.fleet := (placeOfferEntry_egress s e).fleet
@[simp] theorem State.placeOfferEntry_unknownSites (s : State) (e : OfferEntry) : (s.placeOfferEntry e).unknownSites = s.unknownSites := (placeOfferEntry_egress s e).unknownSites
@[simp] theorem State.placeOfferEntry_time (s : State) (e : OfferEntry) : (s.placeOfferEntry e).time = s.time := (placeOfferEntry_egress s e).time
@[simp] theorem State.placeOfferEntry_products (s : State) (e : OfferEntry) : (s.placeOfferEntry e).products = s.products := (placeOfferEntry_egress s e).products
@[simp] theorem State.placeOfferEntry_census (s : State) (e : OfferEntry) : (s.placeOfferEntry e).census = s.census := (placeOfferEntry_egress s e).census
@[simp] theorem State.placeOfferEntry_activation (s : State) (e : OfferEntry) : (s.placeOfferEntry e).activation = s.activation := (placeOfferEntry_egress s e).activation
@[simp] theorem State.placeOfferEntry_allocation (s : State) (e : OfferEntry) : (s.placeOfferEntry e).allocation = s.allocation := (placeOfferEntry_egress s e).allocation
@[simp] theorem State.placeOfferEntry_monitor (s : State) (e : OfferEntry) : (s.placeOfferEntry e).monitor = s.monitor := (placeOfferEntry_egress s e).monitor
@[simp] theorem State.placeOfferEntry_params (s : State) (e : OfferEntry) : (s.placeOfferEntry e).params = s.params := (placeOfferEntry_egress s e).params
@[simp] theorem State.placeOfferEntry_freeDraws (s : State) (e : OfferEntry) : (s.placeOfferEntry e).freeDraws = s.freeDraws := (placeOfferEntry_egress s e).freeDraws
@[simp] theorem State.placeOfferEntry_pending (s : State) (e : OfferEntry) : (s.placeOfferEntry e).pending = s.pending := (placeOfferEntry_egress s e).pending

@[simp] theorem State.placeResponse_fleet (s : State) (r : Response) : (s.placeResponse r).fleet = s.fleet := (placeResponse_egress s r).fleet
@[simp] theorem State.placeResponse_unknownSites (s : State) (r : Response) : (s.placeResponse r).unknownSites = s.unknownSites := (placeResponse_egress s r).unknownSites
@[simp] theorem State.placeResponse_time (s : State) (r : Response) : (s.placeResponse r).time = s.time := (placeResponse_egress s r).time
@[simp] theorem State.placeResponse_products (s : State) (r : Response) : (s.placeResponse r).products = s.products := (placeResponse_egress s r).products
@[simp] theorem State.placeResponse_census (s : State) (r : Response) : (s.placeResponse r).census = s.census := (placeResponse_egress s r).census
@[simp] theorem State.placeResponse_activation (s : State) (r : Response) : (s.placeResponse r).activation = s.activation := (placeResponse_egress s r).activation
@[simp] theorem State.placeResponse_allocation (s : State) (r : Response) : (s.placeResponse r).allocation = s.allocation := (placeResponse_egress s r).allocation
@[simp] theorem State.placeResponse_monitor (s : State) (r : Response) : (s.placeResponse r).monitor = s.monitor := (placeResponse_egress s r).monitor
@[simp] theorem State.placeResponse_params (s : State) (r : Response) : (s.placeResponse r).params = s.params := (placeResponse_egress s r).params
@[simp] theorem State.placeResponse_freeDraws (s : State) (r : Response) : (s.placeResponse r).freeDraws = s.freeDraws := (placeResponse_egress s r).freeDraws
@[simp] theorem State.placeResponse_pending (s : State) (r : Response) : (s.placeResponse r).pending = s.pending := (placeResponse_egress s r).pending

@[simp] theorem State.ackFor_fleet (s : State) (p : Product) (id : Nat) (o : AckOutcome) (t : Option Nat) : (s.ackFor p id o t).fleet = s.fleet := (ackFor_egress s p id o t).fleet
@[simp] theorem State.ackFor_unknownSites (s : State) (p : Product) (id : Nat) (o : AckOutcome) (t : Option Nat) : (s.ackFor p id o t).unknownSites = s.unknownSites := (ackFor_egress s p id o t).unknownSites
@[simp] theorem State.ackFor_time (s : State) (p : Product) (id : Nat) (o : AckOutcome) (t : Option Nat) : (s.ackFor p id o t).time = s.time := (ackFor_egress s p id o t).time
@[simp] theorem State.ackFor_products (s : State) (p : Product) (id : Nat) (o : AckOutcome) (t : Option Nat) : (s.ackFor p id o t).products = s.products := (ackFor_egress s p id o t).products
@[simp] theorem State.ackFor_census (s : State) (p : Product) (id : Nat) (o : AckOutcome) (t : Option Nat) : (s.ackFor p id o t).census = s.census := (ackFor_egress s p id o t).census
@[simp] theorem State.ackFor_activation (s : State) (p : Product) (id : Nat) (o : AckOutcome) (t : Option Nat) : (s.ackFor p id o t).activation = s.activation := (ackFor_egress s p id o t).activation
@[simp] theorem State.ackFor_allocation (s : State) (p : Product) (id : Nat) (o : AckOutcome) (t : Option Nat) : (s.ackFor p id o t).allocation = s.allocation := (ackFor_egress s p id o t).allocation
@[simp] theorem State.ackFor_monitor (s : State) (p : Product) (id : Nat) (o : AckOutcome) (t : Option Nat) : (s.ackFor p id o t).monitor = s.monitor := (ackFor_egress s p id o t).monitor
@[simp] theorem State.ackFor_params (s : State) (p : Product) (id : Nat) (o : AckOutcome) (t : Option Nat) : (s.ackFor p id o t).params = s.params := (ackFor_egress s p id o t).params
@[simp] theorem State.ackFor_freeDraws (s : State) (p : Product) (id : Nat) (o : AckOutcome) (t : Option Nat) : (s.ackFor p id o t).freeDraws = s.freeDraws := (ackFor_egress s p id o t).freeDraws
@[simp] theorem State.ackFor_pending (s : State) (p : Product) (id : Nat) (o : AckOutcome) (t : Option Nat) : (s.ackFor p id o t).pending = s.pending := (ackFor_egress s p id o t).pending

@[simp] theorem State.ackUnknown_fleet (s : State) (code id : Nat) (t : Option Nat) : (s.ackUnknown code id t).fleet = s.fleet := (ackUnknown_egress s code id t).fleet
@[simp] theorem State.ackUnknown_unknownSites (s : State) (code id : Nat) (t : Option Nat) : (s.ackUnknown code id t).unknownSites = s.unknownSites := (ackUnknown_egress s code id t).unknownSites
@[simp] theorem State.ackUnknown_time (s : State) (code id : Nat) (t : Option Nat) : (s.ackUnknown code id t).time = s.time := (ackUnknown_egress s code id t).time
@[simp] theorem State.ackUnknown_products (s : State) (code id : Nat) (t : Option Nat) : (s.ackUnknown code id t).products = s.products := (ackUnknown_egress s code id t).products
@[simp] theorem State.ackUnknown_census (s : State) (code id : Nat) (t : Option Nat) : (s.ackUnknown code id t).census = s.census := (ackUnknown_egress s code id t).census
@[simp] theorem State.ackUnknown_activation (s : State) (code id : Nat) (t : Option Nat) : (s.ackUnknown code id t).activation = s.activation := (ackUnknown_egress s code id t).activation
@[simp] theorem State.ackUnknown_allocation (s : State) (code id : Nat) (t : Option Nat) : (s.ackUnknown code id t).allocation = s.allocation := (ackUnknown_egress s code id t).allocation
@[simp] theorem State.ackUnknown_monitor (s : State) (code id : Nat) (t : Option Nat) : (s.ackUnknown code id t).monitor = s.monitor := (ackUnknown_egress s code id t).monitor
@[simp] theorem State.ackUnknown_params (s : State) (code id : Nat) (t : Option Nat) : (s.ackUnknown code id t).params = s.params := (ackUnknown_egress s code id t).params
@[simp] theorem State.ackUnknown_freeDraws (s : State) (code id : Nat) (t : Option Nat) : (s.ackUnknown code id t).freeDraws = s.freeDraws := (ackUnknown_egress s code id t).freeDraws
@[simp] theorem State.ackUnknown_pending (s : State) (code id : Nat) (t : Option Nat) : (s.ackUnknown code id t).pending = s.pending := (ackUnknown_egress s code id t).pending

/-! ## Responding (R184) -/

@[simp] theorem State.respond_fleet (s : State) (r : PendingRequest) (x : Option Reason) (o : Octets) : (s.respond r x o).fleet = s.fleet := (placeResponse_egress _ _).fleet
@[simp] theorem State.respond_unknownSites (s : State) (r : PendingRequest) (x : Option Reason) (o : Octets) : (s.respond r x o).unknownSites = s.unknownSites := (placeResponse_egress _ _).unknownSites
@[simp] theorem State.respond_time (s : State) (r : PendingRequest) (x : Option Reason) (o : Octets) : (s.respond r x o).time = s.time := (placeResponse_egress _ _).time
@[simp] theorem State.respond_products (s : State) (r : PendingRequest) (x : Option Reason) (o : Octets) : (s.respond r x o).products = s.products := (placeResponse_egress _ _).products
@[simp] theorem State.respond_census (s : State) (r : PendingRequest) (x : Option Reason) (o : Octets) : (s.respond r x o).census = s.census := (placeResponse_egress _ _).census
@[simp] theorem State.respond_activation (s : State) (r : PendingRequest) (x : Option Reason) (o : Octets) : (s.respond r x o).activation = s.activation := (placeResponse_egress _ _).activation
@[simp] theorem State.respond_allocation (s : State) (r : PendingRequest) (x : Option Reason) (o : Octets) : (s.respond r x o).allocation = s.allocation := (placeResponse_egress _ _).allocation
@[simp] theorem State.respond_monitor (s : State) (r : PendingRequest) (x : Option Reason) (o : Octets) : (s.respond r x o).monitor = s.monitor := (placeResponse_egress _ _).monitor
@[simp] theorem State.respond_params (s : State) (r : PendingRequest) (x : Option Reason) (o : Octets) : (s.respond r x o).params = s.params := (placeResponse_egress _ _).params
@[simp] theorem State.respond_freeDraws (s : State) (r : PendingRequest) (x : Option Reason) (o : Octets) : (s.respond r x o).freeDraws = s.freeDraws := (placeResponse_egress _ _).freeDraws
@[simp] theorem State.respond_pending (s : State) (r : PendingRequest) (x : Option Reason) (o : Octets) : (s.respond r x o).pending = s.pending := (placeResponse_egress _ _).pending

/-! ## Evaluating (R156) -/

@[simp] theorem State.evaluate_fleet (s : State) (b : Bool) : (s.evaluate b).fleet = s.fleet := (evaluate_evaluation s b).egress.fleet
@[simp] theorem State.evaluate_unknownSites (s : State) (b : Bool) : (s.evaluate b).unknownSites = s.unknownSites := (evaluate_evaluation s b).egress.unknownSites
@[simp] theorem State.evaluate_time (s : State) (b : Bool) : (s.evaluate b).time = s.time := (evaluate_evaluation s b).egress.time
@[simp] theorem State.evaluate_products (s : State) (b : Bool) : (s.evaluate b).products = s.products := (evaluate_evaluation s b).egress.products
@[simp] theorem State.evaluate_census (s : State) (b : Bool) : (s.evaluate b).census = s.census := (evaluate_evaluation s b).egress.census
@[simp] theorem State.evaluate_activation (s : State) (b : Bool) : (s.evaluate b).activation = s.activation := (evaluate_evaluation s b).egress.activation
@[simp] theorem State.evaluate_allocation (s : State) (b : Bool) : (s.evaluate b).allocation = s.allocation := (evaluate_evaluation s b).egress.allocation
@[simp] theorem State.evaluate_params (s : State) (b : Bool) : (s.evaluate b).params = s.params := (evaluate_evaluation s b).egress.params
@[simp] theorem State.evaluate_freeDraws (s : State) (b : Bool) : (s.evaluate b).freeDraws = s.freeDraws := (evaluate_evaluation s b).egress.freeDraws
@[simp] theorem State.evaluate_pending (s : State) (b : Bool) : (s.evaluate b).pending = s.pending := (evaluate_evaluation s b).egress.pending
@[simp] theorem State.signalLost_fleet (s : State) (p : Product) (b : Bool) : (s.signalLost p b).fleet = s.fleet := (evaluate_evaluation _ _).egress.fleet
@[simp] theorem State.signalLost_unknownSites (s : State) (p : Product) (b : Bool) : (s.signalLost p b).unknownSites = s.unknownSites := (evaluate_evaluation _ _).egress.unknownSites
@[simp] theorem State.signalLost_time (s : State) (p : Product) (b : Bool) : (s.signalLost p b).time = s.time := (evaluate_evaluation _ _).egress.time
@[simp] theorem State.signalLost_products (s : State) (p : Product) (b : Bool) : (s.signalLost p b).products = s.products := (evaluate_evaluation _ _).egress.products
@[simp] theorem State.signalLost_census (s : State) (p : Product) (b : Bool) : (s.signalLost p b).census = s.census := (evaluate_evaluation _ _).egress.census
@[simp] theorem State.signalLost_activation (s : State) (p : Product) (b : Bool) : (s.signalLost p b).activation = s.activation := (evaluate_evaluation _ _).egress.activation
@[simp] theorem State.signalLost_allocation (s : State) (p : Product) (b : Bool) : (s.signalLost p b).allocation = s.allocation := (evaluate_evaluation _ _).egress.allocation
@[simp] theorem State.signalLost_params (s : State) (p : Product) (b : Bool) : (s.signalLost p b).params = s.params := (evaluate_evaluation _ _).egress.params
@[simp] theorem State.signalLost_freeDraws (s : State) (p : Product) (b : Bool) : (s.signalLost p b).freeDraws = s.freeDraws := (evaluate_evaluation _ _).egress.freeDraws
@[simp] theorem State.signalLost_pending (s : State) (p : Product) (b : Bool) : (s.signalLost p b).pending = s.pending := (evaluate_evaluation _ _).egress.pending

/-! ## Triggering a pass (R126) -/

/-- R126: a trigger while the pass state is IDLE starts a pass. -/
theorem trigger_of_idle {s : State} (h : s.allocation.pass = none) : s.trigger = s.startPass := by
  simp [State.trigger, h]

/-- R126: a trigger while a pass runs sets the pass pending flag. -/
theorem trigger_of_running {s : State} {l : PassLatch} (h : s.allocation.pass = some l) :
    s.trigger = { s with allocation := { s.allocation with passPending := true } } := by
  simp [State.trigger, h]

/-- R126: a trigger changes nothing but the pass and its pending flag. -/
theorem trigger_eq (s : State) :
    s.trigger = { s with allocation := { s.allocation with
      pass := s.trigger.allocation.pass, passPending := s.trigger.allocation.passPending } } := by
  unfold State.trigger
  split <;> rfl

theorem trigger_pass (s : State) : s.trigger.allocation.pass.isSome = true := by
  unfold State.trigger
  split
  · assumption
  · rfl

@[simp] theorem State.trigger_fleet (s : State) : s.trigger.fleet = s.fleet := by rw [trigger_eq]
@[simp] theorem State.trigger_unknownSites (s : State) : s.trigger.unknownSites = s.unknownSites := by rw [trigger_eq]
@[simp] theorem State.trigger_time (s : State) : s.trigger.time = s.time := by rw [trigger_eq]
@[simp] theorem State.trigger_products (s : State) : s.trigger.products = s.products := by rw [trigger_eq]
@[simp] theorem State.trigger_census (s : State) : s.trigger.census = s.census := by rw [trigger_eq]
@[simp] theorem State.trigger_book (s : State) : s.trigger.book = s.book := by rw [trigger_eq]
@[simp] theorem State.trigger_activation (s : State) : s.trigger.activation = s.activation := by rw [trigger_eq]
@[simp] theorem State.trigger_monitor (s : State) : s.trigger.monitor = s.monitor := by rw [trigger_eq]
@[simp] theorem State.trigger_links (s : State) : s.trigger.links = s.links := by rw [trigger_eq]
@[simp] theorem State.trigger_arbiter (s : State) : s.trigger.arbiter = s.arbiter := by rw [trigger_eq]
@[simp] theorem State.trigger_management (s : State) : s.trigger.management = s.management := by rw [trigger_eq]
@[simp] theorem State.trigger_params (s : State) : s.trigger.params = s.params := by rw [trigger_eq]
@[simp] theorem State.trigger_freeDraws (s : State) : s.trigger.freeDraws = s.freeDraws := by rw [trigger_eq]
@[simp] theorem State.trigger_pending (s : State) : s.trigger.pending = s.pending := by rw [trigger_eq]
@[simp] theorem State.signalExclusion_fleet (s : State) (slot : Nat) (b : Bool) : (s.signalExclusion slot b).fleet = s.fleet := by unfold State.signalExclusion; split <;> simp
@[simp] theorem State.signalExclusion_unknownSites (s : State) (slot : Nat) (b : Bool) : (s.signalExclusion slot b).unknownSites = s.unknownSites := by unfold State.signalExclusion; split <;> simp
@[simp] theorem State.signalExclusion_time (s : State) (slot : Nat) (b : Bool) : (s.signalExclusion slot b).time = s.time := by unfold State.signalExclusion; split <;> simp
@[simp] theorem State.signalExclusion_products (s : State) (slot : Nat) (b : Bool) : (s.signalExclusion slot b).products = s.products := by unfold State.signalExclusion; split <;> simp
@[simp] theorem State.signalExclusion_census (s : State) (slot : Nat) (b : Bool) : (s.signalExclusion slot b).census = s.census := by unfold State.signalExclusion; split <;> simp
@[simp] theorem State.signalExclusion_book (s : State) (slot : Nat) (b : Bool) : (s.signalExclusion slot b).book = s.book := by unfold State.signalExclusion; split <;> simp
@[simp] theorem State.signalExclusion_activation (s : State) (slot : Nat) (b : Bool) : (s.signalExclusion slot b).activation = s.activation := by unfold State.signalExclusion; split <;> simp
@[simp] theorem State.signalExclusion_monitor (s : State) (slot : Nat) (b : Bool) : (s.signalExclusion slot b).monitor = s.monitor := by unfold State.signalExclusion; split <;> simp
@[simp] theorem State.signalExclusion_links (s : State) (slot : Nat) (b : Bool) : (s.signalExclusion slot b).links = s.links := by unfold State.signalExclusion; split <;> simp
@[simp] theorem State.signalExclusion_arbiter (s : State) (slot : Nat) (b : Bool) : (s.signalExclusion slot b).arbiter = s.arbiter := by unfold State.signalExclusion; split <;> simp
@[simp] theorem State.signalExclusion_management (s : State) (slot : Nat) (b : Bool) : (s.signalExclusion slot b).management = s.management := by unfold State.signalExclusion; split <;> simp
@[simp] theorem State.signalExclusion_params (s : State) (slot : Nat) (b : Bool) : (s.signalExclusion slot b).params = s.params := by unfold State.signalExclusion; split <;> simp
@[simp] theorem State.signalExclusion_freeDraws (s : State) (slot : Nat) (b : Bool) : (s.signalExclusion slot b).freeDraws = s.freeDraws := by unfold State.signalExclusion; split <;> simp
@[simp] theorem State.signalExclusion_pending (s : State) (slot : Nat) (b : Bool) : (s.signalExclusion slot b).pending = s.pending := by unfold State.signalExclusion; split <;> simp

/-! ## The Activation Unit's hand-on (R109) -/

/-- A field that every step of a fold keeps. -/
theorem foldl_keeps {α β : Type} (g : State → β) (f : State → α → State) (h : ∀ s a, g (f s a) = g s) (l : List α)
    (s : State) : g (l.foldl f s) = g s := by
  induction l generalizing s with
  | nil => rfl
  | cons a l ih => exact (ih _).trans (h s a)

/-- R109: what handing on changes lies outside `g`, when triggers, signals and notices leave `g` alone. -/
theorem handOn_keeps {β : Type} (g : State → β) (ht : ∀ s : State, g s.trigger = g s)
    (hs : ∀ (s : State) (p : Product) (b : Bool), g (s.signalLost p b) = g s)
    (hp : ∀ (s : State) (n : Notice), g (s.post n) = g s) (s old : State) (c : Cause) : g (s.handOn old c) = g s := by
  unfold State.handOn
  dsimp only
  rw [foldl_keeps g, foldl_keeps g]
  · split
    · exact ht s
    · rfl
  · intro t p
    split
    · exact hs _ _ _
    · rfl
  · intro t p
    split
    · exact hp _ _
    · rfl

@[simp] theorem State.handOn_fleet (s old : State) (c : Cause) : (s.handOn old c).fleet = s.fleet := handOn_keeps (fun s => s.fleet) (by simp) (by simp) (by simp) s old c
@[simp] theorem State.handOn_unknownSites (s old : State) (c : Cause) : (s.handOn old c).unknownSites = s.unknownSites := handOn_keeps (fun s => s.unknownSites) (by simp) (by simp) (by simp) s old c
@[simp] theorem State.handOn_time (s old : State) (c : Cause) : (s.handOn old c).time = s.time := handOn_keeps (fun s => s.time) (by simp) (by simp) (by simp) s old c
@[simp] theorem State.handOn_products (s old : State) (c : Cause) : (s.handOn old c).products = s.products := handOn_keeps (fun s => s.products) (by simp) (by simp) (by simp) s old c
@[simp] theorem State.handOn_census (s old : State) (c : Cause) : (s.handOn old c).census = s.census := handOn_keeps (fun s => s.census) (by simp) (by simp) (by simp) s old c
@[simp] theorem State.handOn_activation (s old : State) (c : Cause) : (s.handOn old c).activation = s.activation := handOn_keeps (fun s => s.activation) (by simp) (by simp) (by simp) s old c
@[simp] theorem State.handOn_params (s old : State) (c : Cause) : (s.handOn old c).params = s.params := handOn_keeps (fun s => s.params) (by simp) (by simp) (by simp) s old c
@[simp] theorem State.handOn_freeDraws (s old : State) (c : Cause) : (s.handOn old c).freeDraws = s.freeDraws := handOn_keeps (fun s => s.freeDraws) (by simp) (by simp) (by simp) s old c
@[simp] theorem State.handOn_pending (s old : State) (c : Cause) : (s.handOn old c).pending = s.pending := handOn_keeps (fun s => s.pending) (by simp) (by simp) (by simp) s old c

/-! ## What a pass latches, a commitment and a swept slot -/

/-- R127: the start of a pass latches exactly what the rule lists. -/
theorem passLatch_latchedBy (s : State) : s.LatchedBy s.passLatch where
  targets p := by simp [State.passLatch]
  banks p := by simp [State.passLatch]
  roster := rfl
  census := rfl
  slots k := Table.find_map s.fleet.sites (fun x : Site => ({ eligible := s.siteEligible x, siteNumber := x.static.siteNumber } : LatchedSlot)) k

/-- R126, R127: a trigger is one trigger. -/
theorem trigger_triggersOnce (s : State) : s.TriggersOnce s.trigger True where
  kept h := absurd trivial h
  pended _ h := by simp [State.trigger, h]
  started _ h := by
    rw [trigger_of_idle h]
    have l := passLatch_latchedBy s
    exact ⟨s.passLatch, ⟨l.targets, l.banks, l.roster, l.census, l.slots⟩, rfl⟩

/-- R9: an exclusion makes one trigger exactly when an eligible site stopped being eligible with a non-zero allocation. -/
theorem signalExclusion_triggersOnce (s : State) (slot : Nat) (was : Bool) :
    s.TriggersOnce (s.signalExclusion slot was) (was = true ∧ s.eligible slot = false ∧ s.allocated slot = true) := by
  have once := trigger_triggersOnce s
  by_cases h : was = true ∧ s.eligible slot = false ∧ s.allocated slot = true
  · have e : s.signalExclusion slot was = s.trigger := by simp [State.signalExclusion, h]
    rw [e]
    exact ⟨fun n => absurd h n, fun _ => once.pended trivial, fun _ => once.started trivial⟩
  · have e : s.signalExclusion slot was = s := by
      unfold State.signalExclusion
      split
      · next k => exact absurd (by simpa [and_assoc] using k) h
      · rfl
    rw [e]
    exact ⟨fun _ => rfl, fun n => absurd n h, fun n => absurd n h⟩

/-- R126: an exclusion changes nothing but the Allocation Engine. -/
theorem signalExclusion_eq (s : State) (slot : Nat) (was : Bool) :
    s.signalExclusion slot was = { s with allocation := (s.signalExclusion slot was).allocation } := by
  unfold State.signalExclusion
  split
  · rw [trigger_eq]
  · rfl

/-- R6: all that a limit report taken by the Fleet Table can do, apart from the Allocation Engine. -/
theorem reportUnconfirmed_cases (s : State) (slot : Nat) :
    let t := s.reportUnconfirmed slot
    let hold := s.localTime + s.params.suspectHold * 1000
    (s.siteAt slot = none ∧ t = s) ∨
    ∃ x, s.siteAt slot = some x ∧
      (((x.state = .active ∨ x.state = .ageing ∨ x.state = .stale) ∧
          t = { (s.setSite slot { x with state := .suspect, suspectExpiry := some hold }).post
                  (.siteSuspect slot x.static.siteNumber hold) with allocation := t.allocation }) ∨
        (x.state = .suspect ∧ t = s.setSite slot { x with suspectExpiry := some hold }) ∨
        ((x.state = .vacant ∨ x.state = .listed ∨ x.state = .barred) ∧ t = s)) := by
  intro t hold
  cases h : s.siteAt slot with
  | none => exact .inl ⟨rfl, by simp [t, State.reportUnconfirmed, h]⟩
  | some x =>
    refine .inr ⟨x, rfl, ?_⟩
    by_cases entering : x.state = .active ∨ x.state = .ageing ∨ x.state = .stale
    · refine .inl ⟨entering, ?_⟩
      simp only [t, hold, State.reportUnconfirmed, h, if_pos entering]
      exact signalExclusion_eq _ _ _
    · cases hx : x.state <;> simp [t, hold, State.reportUnconfirmed, h, hx] at entering ⊢

/-- R47: while device time is set, the event due is the next one at or below it. -/
theorem dueEvent_of_deviceTime {s : State} {d : Nat} (h : s.deviceTime = some d) :
    s.dueEvent = (s.nextEvent d).map (fun x => x.2) := by
  simp [State.dueEvent, h]

/-- R91: a commitment adds its quantity to the table value of its own product and window alone. -/
theorem commit_readOr {s : State} (h : s.tablesHeld) (p q : Product) (w v n : Nat) :
    Table.readOr ((s.commit p w n).book.commitments.get q) 0 v =
      Table.readOr (s.book.commitments.get q) 0 v + if q = p ∧ v = w then n else 0 := by
  have hw : Table.wf (s.book.commitments.get p) = true := by
    have := h.2 p
    simp only [Table.wfOr, Bool.and_eq_true] at this
    exact this.1
  simp only [State.commit, PerProduct.get_set]
  by_cases hq : q = p
  · subst hq
    by_cases hv : v = w
    · subst hv; simp [Table.readOr_writeOr_same hw]
    · simp [Table.readOr_writeOr_other hw hv, hv]
  · simp [hq]

/-- R91: a commitment leaves the ring as it stands. -/
@[simp] theorem commit_ring (s : State) (p : Product) (w n : Nat) : (s.commit p w n).book.ring = s.book.ring := rfl

/-- R91: a commitment leaves the offers as they stand. -/
@[simp] theorem commit_offers (s : State) (p : Product) (w n : Nat) : (s.commit p w n).book.offers = s.book.offers := rfl

/-- R72, step 2: a swept slot holds no entry afterwards. -/
theorem withdrawSlot_same {r : Roster} (h : Table.wf r.entries = true) (k : Nat) :
    Table.find (withdrawSlot r k).entries k = none := by
  unfold withdrawSlot
  split
  · assumption
  · exact Table.find_drop_same h k

/-- R72, step 2: the entry of any other slot stays. -/
theorem withdrawSlot_other {r : Roster} (h : Table.wf r.entries = true) {k j : Nat} (hj : j ≠ k) :
    Table.find (withdrawSlot r k).entries j = Table.find r.entries j := by
  unfold withdrawSlot
  split
  · rfl
  · exact Table.find_drop_other h hj

end Sys2Proof.Machine
end

