-- ==== Sys2Proof/WellFormed.lean ====
section
/-! DEFINITION. Which commands are well formed: slots, window indices and device times within the ranges the
spec numbers them by, and a record count that performs at least one record event. -/

namespace Sys2Proof

/-- A slot number is 0 to 4095 (chapter 1). -/
def slotOk (slot : Nat) : Bool := decide (slot < Config.slots)

/-- A window index fits the 6 octets every frame gives it (chapter 11). -/
def windowOk (window : Nat) : Bool := decide (window ≤ Config.time48Max)

/-- A device time is a 48-bit count (R41). -/
def timeOk (time : Nat) : Bool := decide (time ≤ Config.time48Max)

/-- A step of a table request performs at least one record event. -/
def takeOk (take : Option Nat) : Bool :=
  match take with
  | none => true
  | some k => decide (0 < k)

/-- The well-formed commands. -/
def Instr.wellFormed (i : Instr) : Bool :=
  match i with
  | .siteAgeing slot => slotOk slot
  | .suspectExpiry slot => slotOk slot
  | .confirmationTimeout slot => slotOk slot
  | .windowBoundary window => windowOk window
  | .gateClosure _ window => windowOk window
  | .effectiveTimeArrival _ time => timeOk time
  | .writeRecords take => takeOk take
  | .writeContinue take => takeOk take
  | .readRecords take => takeOk take
  | .readContinue take => takeOk take
  | .coldReset | .signalLoss _ | .signalPresence _ | .frameReceived _ _ | .linkTimeout _ | .siteReport
  | .clockMark | .holdEnd | .offerResult | .activationOrder | .activationEnd | .freqSample | .sampleTimeout
  | .sampleLoss | .censusIntervalExpiry | .censusSlotRead | .censusPublish | .allocationPassEnd | .releaseBegin
  | .fleetTransmitDone | .performanceIntervalEnd | .heartbeat | .gridTransmitDone | .requestEnqueue | .setWindow
  | .setReturnLimit | .barSite | .clearSite | .removeSite | .writeProduct | .stageProduct | .cancelStage
  | .applyNow | .createOffer | .updateOffer | .submitOffer | .withdrawOffer | .retireOffers | .readOfferReserved
  | .updateOfferConditional | .requestCensus | .readStatus | .readLinkErrors | .setParameters | .restart
  | .requestOutOfFormat => true

end Sys2Proof
end

