-- ==== Sys2Proof/Tests/Slice0.lean ====
section
/-! SUPPORT. Tests: the well-formedness checks, the check values of the two CRCs, the worked sequences of the spec, and
for each statement with hypotheses a state and operands that meet them. Expected values come from the section named in
each docstring. -/

namespace Sys2Proof.Tests
open Sys2Proof.Machine
set_option Elab.async false

/-! ## Helpers -/

/-- The state an outcome leaves. -/
def after (o : Host.Outcome State Fault Refusal) : State :=
  match o with
  | .next t => t
  | .fault _ => State.reset
  | .refused _ => State.reset

/-- The state after a list of commands. -/
def runAll (s : State) (l : List Instr) : State := l.foldl (fun t c => after (exec c t)) s

/-- A request waits, the RESPONSE source is empty. -/
def asking (o : Octets) (s : State) : State :=
  { s with
    management := { s.management with queue := [{ sequence := 5, payload := o, flagged := false }], inExecution := none }
    arbiter := { s.arbiter with response := none } }

/-- The request of `asking`. -/
def asked (o : Octets) : PendingRequest := { sequence := 5, payload := o, flagged := false }

/-- The reason a command's response carries: none for DONE. -/
def reasonOf (c : Instr) (s : State) : Option (Option Reason) := (after (exec c s)).arbiter.response.map (fun r => r.refusal)

/-- The body a command's response carries. -/
def bodyOf (c : Instr) (s : State) : Option Octets := (after (exec c s)).arbiter.response.map (fun r => r.body)

/-- A frame at the head of the Grid buffer. -/
def gridFrame (k : FrameKind) (o : Octets) (s : State) : State :=
  { s with links := { s.links with grid := { s.links.grid with
      buffer := [{ kind := k, channel := 0, sequence := 3, payload := o, flagged := false }] } } }

/-- A frame at the head of the Fleet buffer. -/
def fleetFrame (o : Octets) (s : State) : State :=
  { s with links := { s.links with fleet := { s.links.fleet with
      buffer := [{ kind := .siteReport, channel := 0, sequence := 3, payload := o, flagged := false }] } } }

/-- A FREQ_SAMPLE at the head of the Meter buffer. -/
def sampleFrame (number frequency : Nat) (s : State) : State :=
  { s with links := { s.links with meter := { s.links.meter with
      buffer := [{ kind := .freqSample, channel := 0, sequence := 3, payload := octetsOf 4 number ++ octetsOf 4 frequency,
                   flagged := false }] } } }

/-- Local time `n`. -/
def atLocal (n : Nat) (s : State) : State := { s with time := { s.time with localTime := n } }

/-- Device time RUNNING at `d`. -/
def atDevice (d : Nat) (s : State) : State := { s with time := { s.time with clock := .running d } }

/-- Product `p`'s active bank replaced. -/
def withBank (p : Product) (b : Bank) (s : State) : State :=
  { s with products := s.products.set p { s.products.get p with active := b } }

/-- Product `p`'s activation record replaced. -/
def withAct (p : Product) (r : ActRecord) (s : State) : State := s.setAct p r

/-- The bank of the spec's FFR product (section 4.8) with gate lead 30 minutes (section 5's worked sequence). -/
def ffr : Bank :=
  { Bank.reset 0 with enabled := true, code := 1, margin := 50, maxBid := 100000, gateLead := 30 }

/-- The bank of the spec's RSV product (section 4.8). -/
def rsv : Bank := { Bank.reset 1 with enabled := true, priority := 1, endurance := 1800, maxBid := 100000 }

/-- The bank of the spec's droop product (section 6.9). -/
def droop : Bank := { Bank.reset 3 with enabled := true, mode := .frequency }

/-- A site's static fields. -/
def fields (number feeder rating floor : Nat) : StaticFields :=
  { siteNumber := number, feeder := feeder, participation := 3, tag := 9, dischargeRating := rating, chargeRating := 4000,
    eFloor := floor, eCeil := 12000 }

/-- A report's fields. -/
def report (power : Int) (stored available receipt : Nat) : ReportFields :=
  { pNow := power, eStored := stored, eUsable := 13500, dischargeAvail := available, chargeAvail := 0, condition := .normal,
    sequence := 100, receiptTime := receipt, appliedRelease := 0, appliedOffset := 0, clamped := false }

/-- An ACTIVE site. -/
def activeSite (f : StaticFields) (r : ReportFields) : Site :=
  { state := .active, static := f, report := some r, barReason := none, suspectExpiry := none, tagRun := 0 }

/-- The part with one site, 70112 in slot 5 on feeder 3, its table entries and its feeder's count. -/
def oneSite (x : Site) (s : State) : State :=
  { s with fleet :=
      { sites := [(5, x)], siteMap := [(x.static.siteNumber, 5)],
        feeders := [(x.static.feeder, { Feeder.reset with siteCount := 1 })] } }

def site70112 : Site := activeSite (fields 70112 3 5000 3000) (report 0 8000 5000 100000)

/-- A publication whose product 0 may be offered up to 7,000 W (section 5's worked sequence). -/
def snapshot7000 : Publication :=
  { snapshot := { number := 212, kind := .full, localTime := 0, deviceTime := none,
                  products := (PerProduct.all { available := 0, offerable := 0, contributing := 0, clippedFeeders := 0 }).set 0
                    { available := 7999, offerable := 7000, contributing := 3, clippedFeeders := 1 } },
    roster := { feeders := [], entries := [] } }

/-- Section 5's setting: window 43, product 0's gate mark 45, a Snapshot with Q(0) = 7,000 W, the last id 16. -/
def market : State :=
  let s := atDevice 39000000 (withBank 0 ffr State.reset)
  { s with
    time := { s.time with boundaryMark := some 43, gateMarks := (PerProduct.all (some 43)).set 0 (some 45) }
    census := { s.census with published := some snapshot7000 }
    book := { s.book with ring := some 43, lastId := 16 } }

/-- An offer of product 0. -/
def offerOf (id window quantity : Nat) (mode : OfferMode) (st : OfferState) : Offer :=
  { id := id, order := id, product := 0, window := window, mode := mode, quantity := quantity, price := 120, state := st,
    accepted := none, reason := none, withdrawLate := none }

/-- The book holds `l`. -/
def withOffers (l : List Offer) (s : State) : State := { s with book := { s.book with offers := l } }

/-- CREATE_OFFER. -/
def createPayload (product window mode quantity : Nat) : Octets :=
  octetsOf 1 14 ++ octetsOf 1 product ++ octetsOf 6 window ++ octetsOf 1 mode ++ octetsOf 4 quantity ++ octetsOf 4 120

/-- ACTIVATION_ORDER. -/
def orderPayload (code id quantity time : Nat) : Octets :=
  octetsOf 2 code ++ octetsOf 4 id ++ octetsOf 4 quantity ++ octetsOf 6 time

/-- SITE_REPORT from `number` with tag `tag` and sequence `n`. -/
def reportPayload (number tag n condition release : Nat) : Octets :=
  octetsOf 4 number ++ octetsOf 16 tag ++ octetsOf 2 n ++ signedOctets 4 6000 ++ octetsOf 2 14000 ++ octetsOf 2 13500 ++
  octetsOf 2 5000 ++ octetsOf 2 0 ++ octetsOf 1 condition ++ octetsOf 2 release ++ signedOctets 4 0

/-! ## Well-formedness -/

theorem test_wellFormed_accepts :
    (Instr.siteAgeing 4095).wellFormed = true ∧ (Instr.windowBoundary 281474976710655).wellFormed = true ∧
    (Instr.effectiveTimeArrival 7 281474976710655).wellFormed = true ∧
    (Instr.writeRecords (some 1)).wellFormed = true ∧ (Instr.readRecords none).wellFormed = true := by decide +kernel

theorem test_wellFormed_refuses_slots :
    (Instr.siteAgeing 4096).wellFormed = false ∧ (Instr.suspectExpiry 4096).wellFormed = false ∧
    (Instr.confirmationTimeout 4096).wellFormed = false := by decide +kernel

theorem test_wellFormed_refuses_windows :
    (Instr.windowBoundary 281474976710656).wellFormed = false ∧
    (Instr.gateClosure 0 281474976710656).wellFormed = false := by decide +kernel

theorem test_wellFormed_refuses_times : (Instr.effectiveTimeArrival 0 281474976710656).wellFormed = false := by
  decide +kernel

theorem test_wellFormed_refuses_empty_takes :
    (Instr.writeRecords (some 0)).wellFormed = false ∧ (Instr.writeContinue (some 0)).wellFormed = false ∧
    (Instr.readRecords (some 0)).wellFormed = false ∧ (Instr.readContinue (some 0)).wellFormed = false := by
  decide +kernel

/-! ## The envelope (section 11.1) -/

/-- The octets of "123456789". -/
def checkOctets : Octets := [0x31, 0x32, 0x33, 0x34, 0x35, 0x36, 0x37, 0x38, 0x39]

/-- R196: the check values of the two checks. -/
theorem test_check_values : crc8 checkOctets = 0xF4#8 ∧ crc16 checkOctets = 0x29B1#16 := by decide +kernel

/-- A clock mark of value 36,840,000 (0x0232 2240) as section 11.1 lays it out: header, payload and footer. -/
theorem test_envelope_fields :
    let o := envelope .clockMark 0 7 (octetsOf 6 36840000)
    o.length = 14 ∧ o.take 5 = [BitVec.ofNat 8 FrameKind.clockMark.code, 0, 7, 0, 6] ∧
    slice o 6 6 = [0, 0, 0x02, 0x32, 0x22, 0x40] ∧ fieldAt o 5 1 = (crc8 (o.take 5)).toNat ∧
    fieldAt o 12 2 = (crc16 (slice o 6 6)).toNat := by decide +kernel

/-! ## Worked sequences -/

/-- Section 1.10: the site's ages of 10,000 and 30,000 ms, and the end of its suspect hold at age 20,000. -/
theorem test_site_ages :
    let s := oneSite site70112 State.reset
    let aged := after (exec (.siteAgeing 5) (atLocal 110000 s))
    let stale := after (exec (.siteAgeing 5) (atLocal 130000 aged))
    (after (exec (.siteAgeing 5) (atLocal 109999 s))).siteAt 5 = some site70112 ∧
    (aged.siteAt 5).map (fun x => x.state) = some .ageing ∧ (stale.siteAt 5).map (fun x => x.state) = some .stale ∧
    (after (exec (.suspectExpiry 5) (atLocal 1040000 (oneSite { site70112 with
      state := .suspect, suspectExpiry := some 1040000
      report := some (report 0 8000 5000 1020000) } State.reset)))).siteAt 5 =
      some { site70112 with state := .ageing, report := some (report 0 8000 5000 1020000) } := by decide +kernel

/-- Section 1.10: the fourth mismatch bars the site with reason TAG, and its report fields are kept. -/
theorem test_tag_limit_bars :
    let s := fleetFrame (reportPayload 70112 8 101 0 0) (oneSite { site70112 with tagRun := 3 } State.reset)
    (after (exec .siteReport s)).siteAt 5 =
      some { site70112 with state := .barred, barReason := some .tag, tagRun := 4 } := by decide +kernel

/-- Section 3's worked sequence: the first mark of 36,840,000 gives window 40 and gate marks 42 and 40. -/
theorem test_first_mark :
    let t := after (exec .clockMark (gridFrame .clockMark (octetsOf 6 36840000) (withBank 0 ffr State.reset)))
    t.time.clock = .running 36840000 ∧ t.currentWindow = some 40 ∧ t.time.gateMarks.p0 = some 42 ∧
    t.time.gateMarks.p1 = some 40 ∧ t.book.ring = some 40 := by decide +kernel

/-- Section 3's worked sequence: at 36,900,000 the gate of (0, 43) comes first. -/
theorem test_order_at_one_time :
    let t := after (exec .clockMark (gridFrame .clockMark (octetsOf 6 36840000) (withBank 0 ffr State.reset)))
    let u := atDevice 36900000 t
    let v := after (exec (.gateClosure 0 43) u)
    let w := runAll v [.gateClosure 1 41, .gateClosure 2 41, .gateClosure 3 41, .gateClosure 4 41, .gateClosure 5 41,
      .gateClosure 6 41, .gateClosure 7 41]
    (atDevice 36899999 t).dueEvent = none ∧ u.dueEvent = some (.gate 0 43) ∧ v.dueEvent = some (.gate 1 41) ∧
    w.dueEvent = some (.boundary 41) ∧ (after (exec (.windowBoundary 41) w)).dueEvent = none := by decide +kernel

/-- Section 3's worked sequence: a mark 20,000 behind holds, one 12,000 behind the held time changes the remainder. -/
theorem test_hold :
    let t := after (exec .clockMark (gridFrame .clockMark (octetsOf 6 37040000) (atDevice 37060000 State.reset)))
    t.time.clock = .holding 37060000 20000 ∧
    (after (exec .clockMark (gridFrame .clockMark (octetsOf 6 37048000) t))).time.clock = .holding 37060000 12000 := by
  decide +kernel

/-- Section 4.8: site A, B and C of feeder 0 with their headroom, budgets, ages and unclipped shares. -/
def sweepOf (slot rating floor stored age : Nat) (power : Int) : SweepRecord :=
  (atLocal 20000 State.reset).sweepRecord
    { kind := .full, banks := ((PerProduct.ofFn Bank.reset).set 0 ffr).set 1 rsv, caps := [(0, ⟨8000, 0⟩)], nextSlot := 0,
      sweep := [], swept := [] } slot (activeSite (fields (slot + 1) 0 rating floor) (report power stored rating (20000 - age)))
    (report power stored rating (20000 - age))

/-- Section 4.8: headroom, budget and unclipped shares. -/
theorem test_census_shares :
    let a := sweepOf 4 5000 3000 8000 2000 1000
    let b := sweepOf 7 5000 3500 4000 15000 (-2000)
    let c := sweepOf 11 3300 2000 12000 1000 0
    (a.headroomUp, a.budgetUp, a.shares.p0, a.shares.p1) = (4000, 5000, 4000, 0) ∧
    (b.headroomUp, b.budgetUp, b.shares.p0, b.shares.p1) = (7000, 500, 1500, 187) ∧
    (c.headroomUp, c.budgetUp, c.shares.p0, c.shares.p1) = (3300, 10000, 3300, 0) := by decide +kernel

/-- Section 4.8: the run with the three sites swept. -/
def sweptRun : CensusRun :=
  { kind := .full, banks := ((PerProduct.ofFn Bank.reset).set 0 ffr).set 1 rsv, caps := [(0, ⟨8000, 0⟩)], nextSlot := 4096,
    sweep := [sweepOf 4 5000 3000 8000 2000 1000, sweepOf 7 5000 3500 4000 15000 (-2000),
      sweepOf 11 3300 2000 12000 1000 0]
    swept := [4, 7, 11] }

/-- Section 4.8: clipping at 8,000 W, and the Snapshot's figures. -/
theorem test_census_clipping :
    (clipFeeder sweptRun 0).1.map (fun x => (x.shares.p0, x.shares.p1)) = [(3636, 0), (1363, 1), (3000, 0)] ∧
    (let x := snapshotProduct sweptRun.banks (fullRoster sweptRun 1)
     x 0 = { available := 7999, offerable := 7000, contributing := 3, clippedFeeders := 1 } ∧
     x 1 = { available := 1, offerable := 0, contributing := 1, clippedFeeders := 1 }) := by decide +kernel

/-- R72: a select census for feeder 0 that counted slot 4 and swept slot 15 without counting it: feeder 0's old entry of
slot 7 goes, the entry of slot 15 attributed to feeder 2 goes with its share of feeder 2's total, slot 20 stays. -/
def mergedRoster : Roster :=
  let entry (n f a : Nat) : RosterEntry :=
    { siteNumber := n, feeder := f, shares := (PerProduct.all 0).set 0 a, census := 9 }
  mergeRoster { sweptRun with kind := .select 0, sweep := [sweepOf 4 5000 3000 8000 2000 1000], swept := [4, 15] } 0 10
    { feeders := [(0, { FeederRecord.zero with totals := (PerProduct.all 0).set 0 77 }),
        (2, { FeederRecord.zero with totals := (PerProduct.all 0).set 0 900 })]
      entries := [(7, entry 8 0 77), (15, entry 16 2 600), (20, entry 21 2 300)] }

theorem test_select_merge :
    mergedRoster.entries.map (fun e => (e.1, e.2.feeder, e.2.shares.p0, e.2.census)) = [(4, 0, 4000, 10), (20, 2, 300, 9)] ∧
    mergedRoster.feeders.map (fun e => (e.1, e.2.totals.p0)) = [(0, 4000), (2, 300)] := by decide +kernel

/-- Section 4.9: a request for feeder 9, then for feeder 12, then for 9 again, against a select run. -/
theorem test_census_requests :
    let s := { State.reset with census := { State.reset.census with published := some snapshot7000 } }
    let a := s.requestSelect 9
    let b := a.1.requestSelect 9
    let c := b.1.requestSelect 12
    (a.2, b.2, c.2, (c.1.requestSelect 9).2) = (.startedSelect, .pendingSelect, .pendingFull, .absorbed) := by
  decide +kernel

/-- Section 5's worked sequence: 3,000 W, then a FOLLOW offer sized to 4,000 W, then 1,000 W refused. -/
theorem test_ladder :
    let s := withOffers [offerOf 17 46 3000 .fixed .queued, offerOf 18 46 0 .follow .draft,
      offerOf 19 46 1000 .fixed .draft] market
    bodyOf .submitOffer (asking (octetsOf 1 16 ++ octetsOf 2 18) s) = some (octetsOf 4 4000) ∧
    reasonOf .submitOffer (asking (octetsOf 1 16 ++ octetsOf 2 19) (withOffers [offerOf 17 46 3000 .fixed .queued,
      offerOf 18 46 4000 .follow .queued, offerOf 19 46 1000 .fixed .draft] market)) = some (some .overCapacity) := by
  decide +kernel

/-- Section 5's worked sequence: PARTIAL 2,500 for the WITHDRAWING offer 18, then ACCEPTED for 17. -/
theorem test_results :
    let s := withOffers [offerOf 17 46 3000 .fixed .submitted, offerOf 18 46 4000 .follow .withdrawing] market
    let t := after (exec .offerResult (gridFrame .offerResult (octetsOf 2 18 ++ octetsOf 1 2 ++ octetsOf 4 2500 ++
      octetsOf 2 0) s))
    let u := after (exec .offerResult (gridFrame .offerResult (octetsOf 2 17 ++ octetsOf 1 1 ++ octetsOf 4 0 ++
      octetsOf 2 0) t))
    t.commitment 0 46 = 2500 ∧ (t.findOffer 18).map (fun o => (o.state, o.accepted, o.withdrawLate)) =
      some (.partialAccepted, some 2500, some true) ∧ u.commitment 0 46 = 5500 := by decide +kernel

/-- Section 6.9: the droop product's targets and states. -/
def droopState (target : Nat) (st : ActState) (number time : Nat) : State :=
  let s := withAct 3 { ActRecord.reset with state := st, obligation := 7000, target := target } (withBank 3 droop State.reset)
  { s with activation := { s.activation with sample := some { number := number, time := time } } }

theorem test_droop_targets :
    let target (s : State) := ((after (exec .freqSample s)).act 3).target
    target (atLocal 1100 (sampleFrame 102 49650 (droopState 0 .active 101 1000))) = 3500 ∧
    target (atLocal 1200 (sampleFrame 103 49640 (droopState 3500 .active 102 1100))) = 3733 ∧
    target (atLocal 1300 (sampleFrame 105 49642 (droopState 3733 .active 103 1200))) = 3733 ∧
    (after (exec .freqSample (sampleFrame 104 49700 (droopState 3733 .active 105 1300)))).activation.rejected = 1 ∧
    (after (exec .freqSample (sampleFrame 106 56000 (droopState 3733 .active 105 1300)))).activation.rejected = 1 ∧
    target (sampleFrame 107 49400 (droopState 0 .lost 105 1300)) = 7000 := by decide +kernel

theorem test_droop_silence :
    let s := droopState 3733 .active 105 1300
    let held := after (exec .sampleTimeout (atLocal 1800 s))
    let lost := after (exec .sampleLoss (atLocal 4800 held))
    (after (exec .sampleTimeout (atLocal 1799 s))).act 3 = s.act 3 ∧ (held.act 3).state = .holding ∧
    (held.act 3).target = 3733 ∧ (lost.act 3).state = .lost ∧ (lost.act 3).target = 0 ∧
    (lost.mon 3).conditions.freqLoss = true := by decide +kernel

/-- Section 7.7: the pass with targets 5,500, 0 and 1,000. -/
def passOf77 : PassLatch :=
  let bank (pr : Nat) (d : Direction) : LatchedBank := { enabled := true, priority := pr, direction := d }
  let shares (a b c : Nat) : PerProduct Nat := (((PerProduct.all 0).set 0 a).set 1 b).set 5 c
  let entry (n f a b c : Nat) : RosterEntry := { siteNumber := n, feeder := f, shares := shares a b c, census := 212 }
  { targets := shares 5500 0 1000
    banks := (((PerProduct.all { enabled := false, priority := 7, direction := .up }).set 0 (bank 0 .up)).set 1
      (bank 1 .up)).set 5 (bank 2 .down)
    roster := some { feeders := [], entries := [(4, entry 1 0 3636 0 0), (7, entry 2 0 1363 1 800),
      (11, entry 3 0 3000 0 0), (15, entry 4 2 0 0 900)] }
    census := some 212
    slots := [(4, ⟨true, 1⟩), (7, ⟨true, 2⟩), (11, ⟨true, 3⟩), (15, ⟨true, 4⟩)] }

theorem test_pass :
    let r := runPass passOf77
    [4, 7, 11, 15].map (fun k => offsetOf passOf77 (givenAt r.2 k)) = [2500, 937, 2063, -900] ∧
    r.1.p0 = { target := 5500, allocatable := 7999, granted := 5500, shortfall := false, census := some 212 } ∧
    r.1.p5 = { target := 1000, allocatable := 900, granted := 900, shortfall := true, census := some 212 } := by
  decide +kernel

/-- Section 7.7: the leftover watt of product 5's earlier division went to B. -/
theorem test_division : divide 1700 1000 [(7, 800), (15, 900)] = [(7, 471), (15, 529)] := by decide +kernel

/-- Section 7.7: a report of release 118 confirms, one of release 110 does not. -/
theorem test_confirmation :
    let d := { DispatchRecord.reset with sent := 2063, releaseSent := some 118, confirmed := false, run := 1 }
    (d.confirm 118).confirmed = true ∧ (d.confirm 118).run = 0 ∧ d.confirm 110 = d := by decide +kernel

/-- Section 8.9: the parts delivered and the bounds of the first interval. -/
theorem test_delivery :
    (deliveredPart 0 2500, deliveredPart (-471) 937, deliveredPart (-529) (-900)) = (0, 0, 529) ∧
    deficientInterval 1000 529 100 = true ∧ deficientInterval 1000 900 100 = false ∧
    wattHours 44000000 = 12 ∧ wattHours 5716000 = 1 := by decide +kernel

/-- Section 9.9: the burst at the Fleet Port: counts, buffer and expected sequence after each frame. -/
theorem test_burst :
    let f : Frame := { kind := .siteReport, channel := 0, sequence := 0, payload := [], flagged := false }
    let e : Engine := { Engine.reset with
      buffer := List.replicate 62 f, expected0 := some 40, count := 6, up := true, signal := true }
    let s : State := { State.reset with links := { State.reset.links with fleet := e } }
    let good (n : Nat) : Instr := .frameReceived .fleet (envelope .siteReport 0 n [])
    let seen (t : State) := (t.links.fleet.buffer.length, t.links.fleet.expected0, t.links.fleet.count)
    let a := after (exec (good 40) s)
    let b := after (exec (.frameReceived .fleet [1, 0, 41, 0, 0, 0]) a)
    let c := after (exec (good 42) b)
    let d := after (exec (good 43) c)
    let g := after (exec (.frameReceived .fleet (envelope .siteReport 1 44 [])) d)
    [a, b, c, d, g].map seen = [(63, some 41, 6), (63, some 41, 7), (64, some 43, 8), (64, some 43, 9), (64, some 43, 10)] ∧
    g.links.fleet.summary = 0b010110001#9 := by decide +kernel

/-- Section 10.9, steps 1 and 2: a window on feeders 4 to 5 and three records. -/
theorem test_write_feeders :
    let s := after (exec .setWindow (asking (octetsOf 1 1 ++ octetsOf 1 2 ++ octetsOf 2 4 ++ octetsOf 2 5) State.reset))
    let record : Octets := octetsOf 4 60000 ++ octetsOf 4 40000 ++ octetsOf 1 0
    let t := after (exec (.writeRecords none) (asking (octetsOf 1 2 ++ octetsOf 1 2 ++ record ++ record ++ record) s))
    t.arbiter.response.map (fun r => (r.refusal, r.body)) = some (some .windowFull, octetsOf 2 2 ++ octetsOf 2 6) ∧
    t.feeder 4 = { capUp := 60000, capDown := 40000, enabled := true, siteCount := 0 } ∧ t.feeder 5 = t.feeder 4 ∧
    t.feeder 6 = Feeder.reset := by decide +kernel

/-- R17: disabling a feeder triggers a pass when any of its sites holds an allocation, an ineligible one too; a write that
leaves the state does not. -/
theorem test_disable_feeder :
    let s (st : SiteState) (n : Nat) : State :=
      let t := oneSite { site70112 with state := st } State.reset
      { t with allocation := { t.allocation with records :=
          [(5, { DispatchRecord.reset with allocation := (PerProduct.all 0).set 0 n, staged := n })] } }
    [((s .active 2000).writeFeeder 3 1 1 false).allocation.pass.isSome,
      ((s .suspect 2000).writeFeeder 3 1 1 false).allocation.pass.isSome,
      ((s .active 2000).writeFeeder 3 1 1 true).allocation.pass.isSome,
      ((s .active 2000).writeFeeder 4 1 1 false).allocation.pass.isSome,
      ((s .active 0).writeFeeder 3 1 1 false).allocation.pass.isSome] = [true, true, false, false, false] := by
  decide +kernel

/-- Section 10.9, steps 3 to 5: the second site record has its energy bounds the wrong way round. -/
theorem test_write_sites :
    let record (n floor ceil : Nat) : Octets := { fields n 4 5000 floor with eCeil := ceil }.octets (octetsOf 16 9)
    let s := after (exec .setWindow (asking (octetsOf 1 1 ++ octetsOf 1 1 ++ octetsOf 2 200 ++ octetsOf 2 203) State.reset))
    let t := after (exec (.writeRecords none) (asking (octetsOf 1 2 ++ octetsOf 1 1 ++ record 90200 3000 12000 ++
      record 90201 8000 6000 ++ record 90202 3000 12000 ++ record 90203 3000 12000) s))
    let u := after (exec (.writeContinue none) (asking (octetsOf 1 3 ++ record 90201 3000 12000 ++
      record 90202 3000 12000 ++ record 90203 3000 12000) t))
    t.arbiter.response.map (fun r => (r.refusal, r.body)) = some (some .badField, octetsOf 2 1 ++ octetsOf 2 201) ∧
    (t.feeder 4).siteCount = 1 ∧ t.slotOf 90200 = some 200 ∧
    u.arbiter.response.map (fun r => (r.refusal, r.body)) = some (none, octetsOf 2 3 ++ octetsOf 2 204) ∧
    (u.feeder 4).siteCount = 4 := by decide +kernel

/-! ## Witnesses: states and operands that meet a statement's hypotheses -/

/-- A small book without entries to send is held. -/
theorem bookHeld_of_small (s : State) (h : s.book.offers.length ≤ 8) (hn : (s.book.offers.map (fun o => o.id)).Nodup)
    (he : s.arbiter.offers = []) : s.bookHeld := by
  refine ⟨le_trans h (by decide), hn, fun p w => le_trans (List.length_filter_le _ _) h, ?_, ?_⟩
  · simp [he]
  · intro id hid
    simp [he] at hid

/-- A fleet of one site is held. -/
theorem fleetHeld_oneSite (x : Site) (s : State) : (oneSite x s).fleetHeld := by
  refine ⟨?_, ?_, ?_, ?_, ?_⟩
  · simp [oneSite, Table.wf, Table.risingFrom]
  · simp [oneSite, Table.wf, Table.risingFrom]
  · simp [oneSite, Table.wfOr, Table.wf, Table.risingFrom, Feeder.reset]
  · intro number slot
    simp only [State.slotOf, State.siteAt, oneSite, Table.find]
    constructor
    · intro h
      split at h
      · next hn => cases h; exact ⟨x, by simp, hn⟩
      · split at h <;> cases h
    · rintro ⟨y, h, hn⟩
      split at h
      · next hs => cases h; simp [hn, hs]
      · split at h <;> cases h
  · intro f
    simp only [State.feeder, oneSite, Table.readOr, Table.find, List.filter]
    by_cases h : x.static.feeder = f
    · simp [h]
    · simp only [h, if_false, decide_false]
      split <;> simp [Feeder.reset]

theorem witness_StepRunsFrontCommand :
    ∃ (c : Instr) (rest : List Instr) (s : State), s.pending = c :: rest :=
  ⟨.heartbeat, [.holdEnd], { State.reset with pending := [.heartbeat, .holdEnd] }, rfl⟩

theorem witness_EmptyQueueLetsTimePass :
    (State.reset.pending = [] ∧ State.reset.dueEvents = [] ∧ State.reset.time.localTime < 281474976710655) ∧
    ((atLocal 4000 State.reset).pending = [] ∧ (atLocal 4000 State.reset).dueEvents = [.performanceIntervalEnd]) := by
  decide +kernel

/-- The Fleet Port UP with its link expiry at 5,000 ms. -/
def fleetUp : State :=
  { State.reset with links := { State.reset.links with fleet := { Engine.reset with
      up := true, signal := true, expiry := some 5000, lastValid := some 0 } } }

theorem witness_UpPortGoesDownAndSignalsAreNoted :
    (State.reset.engine .fleet).up = false ∧ (fleetUp.engine .fleet).up = true ∧
    ((atLocal 5000 fleetUp).engine .fleet).expiry = some 5000 ∧ 5000 ≤ (atLocal 5000 fleetUp).localTime := by
  decide +kernel

/-- One frame for each clause: five octets; a wrong header check; a payload one octet short; a wrong footer; channel 3;
kind 0x70. -/
theorem witness_FrameFailingACheckIsDiscarded :
    let classOf (o : Octets) : Option ErrClass :=
      match judgeFrame .grid o with
      | .ok _ => none
      | .error c => some c
    let good := envelope .clockMark 0 0 (octetsOf 6 9)
    classOf good = none ∧ classOf (good.take 5) = some .length ∧ classOf (0x15 :: good.drop 1) = some .headerCheck ∧
    classOf (good.take 13) = some .length ∧ classOf (good.take 12 ++ [0, 0]) = some .footerCheck ∧
    classOf (envelope .clockMark 3 0 []) = some .channel ∧ classOf (envelope .siteReport 0 0 []) = some .unknownKind := by
  decide +kernel

theorem witness_FramesOutOfFormatAreReported :
    ∃ (s : State) (f : Frame), s.links.grid.buffer = [f] ∧ f.kind = .offerResult ∧ f.payload.length = 9 ∧
      fieldAt f.payload 2 1 = 5 :=
  ⟨gridFrame .offerResult (octetsOf 2 1 ++ octetsOf 1 5 ++ octetsOf 6 0) State.reset, _, rfl, rfl, by decide +kernel,
    by decide +kernel⟩

theorem witness_EnvelopeRoundTrip :
    acceptedKind .grid 2 FrameKind.request.code = some .request ∧ (255 : Nat) < 256 ∧ (zeros 1024).length ≤ 1024 := by
  decide +kernel

theorem witness_RecordsRoundTrip :
    Params.reset.inRange = true ∧ ffr.inRange = true ∧ (fields 70112 63 20000 12000).inRange = true := by decide +kernel

theorem witness_ValidFrameIsTakenAndRenewsTheLink :
    judgeFrame .fleet (envelope .siteReport 0 7 []) =
      .ok { kind := .siteReport, channel := 0, sequence := 7, payload := [], flagged := false } ∧
    (fleetUp.engine .fleet).buffer.length < bufferSize .fleet ∧ (fleetUp.engine .fleet).up = true ∧
    (State.reset.engine .fleet).up = false ∧ (State.reset.engine .fleet).signal = false ∧
    ({ fleetUp with links := { fleetUp.links with fleet := { fleetUp.links.fleet with expected0 := some 6 } } }.engine
      .fleet).expected0 = some 6 ∧ State.reset.arbiter.response = none := by decide +kernel

/-- Site 70112 with a non-zero allocation, unconfirmed for release 118. -/
def dispatched : State :=
  let s := oneSite { site70112 with static := { site70112.static with participation := 3 } } (atLocal 101000 State.reset)
  { s with allocation := { s.allocation with records := [(5, { DispatchRecord.reset with
      allocation := (PerProduct.all 0).set 0 2000, staged := 2000, sent := 2000, releaseSent := some 118,
      lastRelease := some 118, sentTime := some 500, confirmed := false, expiry := some 101000, run := 2 })] } }

/-- R136, R173: the Fleet Port goes UP at a valid frame, and the catch-up flag requests a release for the unconfirmed
slot; without the signal nothing follows. -/
theorem test_catch_up :
    let s (signal : Bool) : State := { dispatched with
      links := { dispatched.links with fleet := { dispatched.links.fleet with signal := signal, expected0 := some 6 } }
      allocation := { dispatched.allocation with catchUp := true } }
    let t (signal : Bool) := after (exec (.frameReceived .fleet (envelope .siteReport 0 7 [])) (s signal))
    ((t true).links.fleet.up, (t true).allocation.requested, (t true).links.fleet.summary) = (true, true, 0b000100000#9) ∧
    ((t false).links.fleet.up, (t false).allocation.requested) = (false, false) := by decide +kernel

/-- A report that confirms and leaves NORMAL, and meets every hypothesis. -/
theorem witness_AcceptedReportReplacesTheFields :
    let s := fleetFrame (reportPayload 70112 9 101 1 118) dispatched
    s.links.fleet.buffer.length = 1 ∧
    (s.links.fleet.buffer.head?.bind (fun f => parseSiteReport f.payload)).map (fun r =>
      (r.siteNumber, r.tag, r.sequence, r.condition, r.appliedRelease)) = some (70112, 9, 101, .limited, 118) ∧
    s.slotOf 70112 = some 5 ∧ s.siteAt 5 = some site70112 ∧ site70112.state = .active ∧ s.tablesHeld := by
  refine ⟨by decide +kernel, by decide +kernel, by decide +kernel, by decide +kernel, rfl, by decide +kernel, fun p => ?_⟩
  fin_cases p <;> decide +kernel

/-- R126: the exclusion of a report that leaves NORMAL starts a pass, and pends while one runs. -/
theorem witness_AcceptedReportTriggers :
    let left (l : Option PassLatch) (condition : Nat) :=
      let s := fleetFrame (reportPayload 70112 9 101 condition 118) dispatched
      let t := after (exec .siteReport { s with allocation := { s.allocation with pass := l } })
      (t.allocation.pass.isSome, t.allocation.passPending)
    [left none 0, left none 1, left (some passOf77) 0, left (some passOf77) 1] =
      [(false, false), (true, false), (true, false), (true, true)] := by decide +kernel

/-- One report for each clause: an unlisted condition; an unmapped site; a BARRED one; the mismatches below and at the
limit; a sequence not ahead. -/
theorem witness_DiscardedReportChangesWhatItsCheckSays :
    let s := oneSite site70112 State.reset
    let seen (x : Site) (o : Octets) : Nat × Option SiteState × Option Nat :=
      let t := after (exec .siteReport (fleetFrame o (oneSite x s)))
      (t.unknownSites, (t.siteAt 5).map (fun x => x.state), (t.siteAt 5).map (fun x => x.tagRun))
    parseSiteReport (reportPayload 70112 9 101 3 0) = none ∧
    seen site70112 (reportPayload 70113 9 101 0 0) = (1, some .active, some 0) ∧
    seen { site70112 with state := .barred, barReason := some .host } (reportPayload 70112 9 101 0 0) =
      (1, some .barred, some 0) ∧
    seen { site70112 with tagRun := 2 } (reportPayload 70112 8 101 0 0) = (0, some .active, some 3) ∧
    seen { site70112 with tagRun := 3 } (reportPayload 70112 8 101 0 0) = (0, some .barred, some 4) ∧
    seen site70112 (reportPayload 70112 9 100 0 0) = (1, some .active, some 0) ∧
    seen site70112 (reportPayload 70112 9 32868 0 0) = (1, some .active, some 0) ∧
    seen site70112 (reportPayload 70112 9 32867 0 0) = (0, some .active, some 0) := by decide +kernel

/-- R8, R9, R28: at the tag limit the bar triggers a pass when the site was eligible with an allocation, and only then. -/
theorem test_tag_bar_triggers :
    let barred (limit : Nat) (x : Site) := after (exec .siteReport (fleetFrame (reportPayload 70112 8 101 0 0)
      { dispatched with fleet := (oneSite x State.reset).fleet, params := { Params.reset with tagLimit := limit } }))
    [(barred 1 site70112).allocation.pass.isSome, (barred 2 site70112).allocation.pass.isSome,
      (barred 1 { site70112 with state := .suspect }).allocation.pass.isSome] = [true, false, false] ∧
    (barred 1 site70112).management.notices = [.siteBarred 5 70112 .tag] := by decide +kernel

theorem witness_SitesAgeAndSuspectHoldEnds :
    let s := oneSite site70112 State.reset
    s.siteAt 5 = some site70112 ∧ site70112.report = some (report 0 8000 5000 100000) ∧
    100000 + s.params.fFresh ≤ (atLocal 110000 s).localTime ∧ 100000 + s.params.fStale ≤ (atLocal 130000 s).localTime := by
  decide +kernel

theorem witness_ClockMarkSetsStepsOrHoldsUntilHoldEnd :
    let s (m : Nat) := gridFrame .clockMark (octetsOf 6 m) market
    let clock (m : Nat) := (after (exec .clockMark (s m))).time.clock
    (s 9).deviceTime = some 39000000 ∧ (s 39000001).nextEvent 39000001 = none ∧
    clock 39000001 = .running 39000001 ∧ clock 39000000 = .running 39000000 ∧
    clock 38100000 = .holding 39000000 900000 ∧ clock 38099999 = .running 39000000 ∧
    (after (exec .holdEnd { market with time := { market.time with clock := .holding 5 0 } })).time.clock = .running 5 := by
  decide +kernel

/-- A mark 40,000,000 crosses the gates of window 44 and the boundary into it: the hypotheses, and what it leaves. -/
theorem witness_ClockMarkCrossesEvents :
    let s := gridFrame .clockMark (octetsOf 6 40000000) market
    let t := after (exec .clockMark s)
    s.banksHeld ∧ s.paramsHeld ∧ s.tablesHeld ∧ s.time.boundaryMark = some 43 ∧ s.book.ring = some 43 ∧
    (s.products.get 0).staged = false ∧ s.time.gateMarks.get 1 = some 43 ∧
    t.time.clock = .running 40000000 ∧ t.nextEvent 40000000 = none ∧ t.book.ring = some 44 ∧
    (t.time.gateMarks.get 0, t.time.gateMarks.get 1) = (some 46, some 44) ∧ (t.mon 0).current.window = some 44 := by
  refine ⟨?_, by unfold State.paramsHeld; decide +kernel, ⟨by decide +kernel, ?_⟩, by decide +kernel⟩
  · intro p; fin_cases p <;> decide +kernel
  · intro p; fin_cases p <;> decide +kernel

/-- Device time 39,600,000: the gate of (0, 46) stands before the boundary into window 44. -/
def dueState : State :=
  let s := atDevice 39600000 (withOffers [offerOf 19 46 1000 .fixed .draft] market)
  { s with time := { s.time with gateMarks := (PerProduct.all (some 44)).set 0 (some 45) } }

theorem witness_BoundarySetsObligationsAndClosesRecords :
    let s : State := { dueState with time := { dueState.time with gateMarks := PerProduct.all (some 46) } }
    s.dueEvent = some (.boundary 44) := by decide +kernel

/-- One record for each clause of R107 and R108 at the boundary into 44: product 0 ACTIVE without a commitment; product 3,
following, without one; with one as it had; with a first one, the silence at each of its bounds. -/
theorem witness_BoundaryMovesTheRecords :
    let s (p : Product) (r : ActRecord) (c silence : Nat) : State :=
      let t := withAct p r (withBank 3 droop (atLocal 100000 dueState))
      { t with
        time := { t.time with gateMarks := PerProduct.all (some 46) }
        book := { t.book with commitments := (PerProduct.all []).set p (if c = 0 then [] else [(44, c)]) }
        activation := { t.activation with sample := some { number := 1, time := 100000 - silence } } }
    let left (p : Product) (r : ActRecord) (c silence : Nat) := (after (exec (.windowBoundary 44) (s p r c silence))).act p
    let active := { ActRecord.reset with state := .active, obligation := 5000, target := 4000 }
    (s 3 active 3000 0).dueEvent = some (.boundary 44) ∧ (s 3 active 3000 0).gridHolds = true ∧
    ((s 3 active 3000 0).products.get 3).staged = false ∧
    left 0 { active with currentId := some 900 } 0 0 = ActRecord.reset ∧
    (after (exec (.windowBoundary 44) (s 0 { active with currentId := some 900 } 0 0))).arbiter.ack.map (fun e =>
      (e.1, e.2.id, e.2.outcome)) = [(some 0, 900, .endedAtWindow)] ∧
    left 0 { active with currentId := some 900 } 3000 0 =
      { active with currentId := some 900, obligation := 3000, target := 3000 } ∧
    left 3 { active with state := .lost } 0 0 = ActRecord.reset ∧
    left 3 active 3000 0 = { active with obligation := 3000, target := 3000 } ∧
    [499, 500, 3499, 3500].map (fun n => (left 3 ActRecord.reset 3000 n).state) = [.active, .holding, .holding, .lost] := by
  decide +kernel

theorem witness_GateClosureLapsesOffers :
    dueState.dueEvent = some (.gate 0 46) ∧ dueState.bookHeld ∧ dueState.gridHolds = true ∧
    dueState.params.noticeMask.getLsbD 2 = true ∧
    ((after (exec (.gateClosure 0 46) dueState)).findOffer 19).map (fun o => o.state) = some .lapsed ∧
    (after (exec (.gateClosure 0 46) dueState)).management.notices = [.offerLapsed 19 0 46 .draft] := by
  exact ⟨by decide +kernel, bookHeld_of_small _ (by decide +kernel) (by decide +kernel) rfl, by decide +kernel⟩

/-- An order pending for device time 38,700,000, with an obligation of `o`. -/
def arriving (o : Nat) : State :=
  let s := withAct 0 { ActRecord.reset with
    state := .pending, obligation := o, order := some { id := 901, quantity := 6000, time := 38700000 } } market
  { s with time := { s.time with effective := s.time.effective.set 0 (some 38700000), gateMarks := PerProduct.all (some 50) } }

theorem witness_ArrivalAppliesOrDropsTheOrder :
    (arriving 3000).dueEvent = some (.arrival 0 38700000) ∧ (arriving 0).dueEvent = some (.arrival 0 38700000) ∧
    ((after (exec (.effectiveTimeArrival 0 38700000) (arriving 3000))).act 0).target = 3000 ∧
    ((after (exec (.effectiveTimeArrival 0 38700000) (arriving 0))).act 0).state = .idle := by decide +kernel

/-- Offers of windows 46 and 45, product 0 committed in 46. -/
def aroundBoundary : State :=
  withOffers [offerOf 16 45 500 .fixed .inDelivery, { offerOf 17 46 3000 .fixed .accepted with accepted := some 3000 },
    offerOf 18 46 4000 .follow .submitted]
    { market with book := { market.book with commitments := (PerProduct.all []).set 0 [(46, 3000), (90, 5)] } }

/-- The boundary into 44 with four staged products: 0 takes a lead of 60 minutes, 1 is barred from being disabled by its
QUEUED offer, 2 is disabled with an activation and an order, 3 is disabled while LOST. -/
def switching : State :=
  let offers := [offerOf 16 43 500 .fixed .inDelivery, { offerOf 17 44 3000 .fixed .accepted with accepted := some 3000 },
    offerOf 18 44 4000 .follow .submitted, { offerOf 19 45 1000 .fixed .queued with product := 1 },
    offerOf 20 47 1000 .fixed .draft]
  let order : PendingOrder := { id := 901, quantity := 6000, time := 40000000 }
  let s := withBank 1 rsv (withBank 2 { rsv with code := 2 } (withBank 3 droop dueState))
  let s := withAct 2 { state := .active, obligation := 5000, target := 4000, currentId := some 900, order := some order }
    (withAct 3 { ActRecord.reset with state := .lost, obligation := 5000 } (withOffers offers s))
  let stage (b : Bank) : ProductContext := { active := b, pendingBank := { b with enabled := false }, staged := true }
  { s with
    products := (((s.products.set 0 { active := ffr, pendingBank := { ffr with gateLead := 60 }, staged := true }).set 1
      (stage rsv)).set 2 (stage { rsv with code := 2 })).set 3 (stage droop)
    time := { s.time with gateMarks := PerProduct.all (some 46), effective := s.time.effective.set 2 (some 40000000) }
    monitor := { s.monitor with products := s.monitor.products.set 3 { s.mon 3 with freqLost := true } }
    params := { s.params with noticeMask := 0b010000000110#14 ||| 0b10000000000#14 }
    book := { s.book with commitments := (PerProduct.all []).set 0 [(44, 3000), (90, 5)], reservation := some 20 } }

theorem witness_BanksSwitchAndOffersMoveAtBoundaries :
    switching.dueEvent = some (.boundary 44) ∧ switching.gridHolds = true ∧ switching.bookHeld ∧ switching.tablesHeld ∧
    switching.book.ring = some 43 ∧ (∀ p : Product, ∀ e ∈ switching.book.commitments.get p, e.1 ≤ 43 + 47) ∧
    switching.switchesAt 0 44 ∧ switching.barredAt 1 44 ∧ switching.resetsAt 2 44 ∧ switching.resetsAt 3 44 := by
  refine ⟨by decide +kernel, by decide +kernel, bookHeld_of_small _ (by decide +kernel) (by decide +kernel) rfl,
    ⟨by decide +kernel, ?_⟩, by decide +kernel, by decide +kernel, ⟨by decide +kernel, ?_⟩,
    ⟨by decide +kernel, .inr ⟨{ offerOf 19 45 1000 .fixed .queued with product := 1 }, by decide +kernel⟩⟩,
    ⟨⟨by decide +kernel, ?_⟩, .inr (by decide +kernel)⟩, ⟨⟨by decide +kernel, ?_⟩, .inr (by decide +kernel)⟩⟩
  · intro p
    fin_cases p <;> decide +kernel
  · rintro ⟨h, -⟩
    revert h
    decide +kernel
  all_goals
    rintro ⟨-, ⟨v, -, hv⟩ | h⟩
    · refine absurd hv ?_
      simp only [State.commitment, show switching.book.ring = some 43 from rfl]
      split
      · exact Nat.lt_irrefl 0
      · exact Nat.lt_irrefl 0
    · revert h
      decide +kernel

/-- R48, R56, R62, R95, R96, R100: what that boundary leaves of banks, gates and offers. -/
theorem test_boundary_switches :
    let t := after (exec (.windowBoundary 44) switching)
    allProducts.map (fun p => (t.products.get p).staged) = List.replicate 8 false ∧
    (t.bank 0).gateLead = 60 ∧ t.time.gateMarks.get 0 = some 48 ∧
    [(t.bank 1).enabled, (t.bank 2).enabled, (t.bank 3).enabled] = [true, false, false] ∧
    t.census.run.map (fun r => (r.kind, (r.banks.get 0).gateLead)) = some (.full, 60) ∧
    t.book.offers.map (fun o => o.state) = [.closed, .inDelivery, .expired, .queued, .lapsed] ∧
    t.book.reservation = none := by decide +kernel

/-- R56, R96, R109, R120: what it leaves of the reset records, and the notices posted. -/
theorem test_boundary_resets :
    let t := after (exec (.windowBoundary 44) switching)
    [t.act 2, t.act 3] = [ActRecord.reset, ActRecord.reset] ∧ (t.mon 3).freqLost = false ∧
    t.time.effective.get 2 = none ∧ t.allocation.pass.isSome = true ∧
    t.arbiter.ack.map (fun e => (e.1, e.2.id, e.2.outcome)) = [(some 2, 901, .refusedUnknownProduct)] ∧
    Notice.stageApplied true 0 44 ∈ t.management.notices ∧ Notice.stageApplied false 1 44 ∈ t.management.notices ∧
    Notice.offerExpired 18 0 44 .submitted ∈ t.management.notices := by decide +kernel

/-- R44, R47: a boundary reached before a mark begins a hold is still delivered during the hold. -/
theorem test_reached_boundary_survives_a_hold :
    let s : State := { dueState with time := { dueState.time with gateMarks := PerProduct.all (some 46) } }
    let held := after (exec .clockMark (gridFrame .clockMark (octetsOf 6 39599000) s))
    held.time.clock = .holding 39600000 1000 ∧ held.dueEvent = some (.boundary 44) ∧
    (after (exec (.windowBoundary 44) held)).book.ring = some 44 ∧
    (after (exec .clockMark (gridFrame .clockMark (octetsOf 6 38999000) market))).dueEvent = none := by decide +kernel

theorem witness_ResultMovesTheOfferAndCommits :
    let s := gridFrame .offerResult (octetsOf 2 18 ++ octetsOf 1 2 ++ octetsOf 4 1 ++ octetsOf 2 0) aroundBoundary
    (∃ f, s.gridHead .offerResult = some f ∧ f.payload.length = 9 ∧
      ResultOutcome.ofCode (fieldAt f.payload 2 1) = some .partialAccepted ∧ 0 < fieldAt f.payload 3 4 ∧
      s.findOffer (fieldAt f.payload 0 2) = some (offerOf 18 46 4000 .follow .submitted)) ∧
    s.bookHeld ∧ s.tablesHeld := by
  refine ⟨⟨_, rfl, by decide +kernel⟩, bookHeld_of_small _ (by decide +kernel) (by decide +kernel) rfl,
    ⟨by decide +kernel, ?_⟩⟩
  intro p
  fin_cases p <;> decide +kernel

/-- R92: a result for an EXPIRED offer posts LATE_RESULT alone; one for an ACCEPTED offer or an unknown id, nothing. -/
theorem witness_ResultsThatChangeNoOffer :
    let s (id : Nat) := gridFrame .offerResult (octetsOf 2 id ++ octetsOf 1 1 ++ octetsOf 4 7 ++ octetsOf 2 0)
      (withOffers [offerOf 17 46 3000 .fixed .accepted, offerOf 18 43 4000 .follow .expired] market)
    let seen (id : Nat) := (after (exec .offerResult (s id))).management.notices
    ((s 18).findOffer 18).map (fun o => o.state) = some .expired ∧ (s 9).findOffer 9 = none ∧
    [seen 18, seen 17, seen 9] = [[.lateResult 18 0 43 .accepted 7], [], []] ∧
    (after (exec .offerResult (s 18))).book = (s 18).book := by decide +kernel

/-- One request for each check of CREATE_OFFER, at its boundary: product 8, mode 2, no time, a disabled product, windows
43 and 91, quantity 0 and 1,001 W, the closed gate of window 45, eight live offers, 512 records, and the windows 46 and 90. -/
theorem witness_CreateOfferIsJudgedInOrder :
    let judged (s : State) (p w m q : Nat) := reasonOf .createOffer (asking (createPayload p w m q) s)
    let eight := withOffers ((List.range 8).map (fun n => offerOf (n + 1) 46 1000 .fixed .draft)) market
    let full := withOffers ((List.range 512).map (fun n => offerOf (n + 1) 40 1000 .fixed .closed)) market
    judged market 8 46 0 3000 = some (some .badField) ∧ judged market 0 46 2 3000 = some (some .badField) ∧
    judged (withBank 0 ffr State.reset) 0 46 0 3000 = some (some .noTime) ∧
    judged market 1 46 0 3000 = some (some .wrongState) ∧ judged market 0 43 0 3000 = some (some .badField) ∧
    judged market 0 91 0 3000 = some (some .badField) ∧ judged market 0 46 0 0 = some (some .badField) ∧
    judged market 0 46 0 1001 = some (some .badField) ∧ judged market 0 45 0 3000 = some (some .gateClosed) ∧
    judged eight 0 46 0 3000 = some (some .ladderFull) ∧ judged full 0 46 0 3000 = some (some .bookFull) ∧
    judged market 0 46 0 3000 = some none ∧ judged market 0 90 1 0 = some none := by decide +kernel

theorem witness_OffersAreUpdatedWithdrawnAndRetired :
    let s := withOffers [offerOf 17 46 3000 .fixed .draft, offerOf 18 46 0 .follow .queued,
      offerOf 19 46 1000 .fixed .submitted, offerOf 20 46 1000 .fixed .closed] market
    let update (id m q : Nat) := reasonOf .updateOffer
      (asking (octetsOf 1 15 ++ octetsOf 2 id ++ octetsOf 4 q ++ octetsOf 4 9 ++ octetsOf 1 m) s)
    let withdraw (id : Nat) := reasonOf .withdrawOffer (asking (octetsOf 1 17 ++ octetsOf 2 id) s)
    let retire (all a b : Nat) := reasonOf .retireOffers
      (asking (octetsOf 1 18 ++ octetsOf 1 all ++ octetsOf 6 a ++ octetsOf 6 b) s)
    [update 9 0 1000, update 18 0 1000, update 17 2 1000, update 17 0 999, update 17 1 100000000, update 17 1 100000001] =
      [some (some .noSuchRecord), some (some .wrongState), some (some .badField), some (some .badField), some none,
        some (some .badField)] ∧
    [withdraw 9, withdraw 17, withdraw 18, withdraw 19, withdraw 20] =
      [some (some .noSuchRecord), some none, some none, some none, some (some .wrongState)] ∧
    [retire 2 0 0, retire 0 47 46, retire 0 46 46, retire 1 9 0] =
      [some (some .badField), some (some .badField), some none, some none] := by decide +kernel

theorem witness_SubmitOfferIsJudgedInOrder :
    let s (o : Offer) := withOffers [o] market
    let submit (s : State) (id : Nat) := reasonOf .submitOffer (asking (octetsOf 1 16 ++ octetsOf 2 id) s)
    let d := offerOf 17 46 7000 .fixed .draft
    let noPublication (s : State) : State := { s with census := { s.census with published := none } }
    submit (s d) 9 = some (some .noSuchRecord) ∧ submit (s { d with state := .queued }) 17 = some (some .wrongState) ∧
    submit (withOffers [d] (withBank 0 ffr State.reset)) 17 = some (some .noTime) ∧
    submit (s { d with product := 1 }) 17 = some (some .wrongState) ∧
    submit (noPublication (s d)) 17 = some (some .noCensus) ∧ submit (s { d with window := 45 }) 17 = some (some .gateClosed) ∧
    submit (s { d with quantity := 1001 }) 17 = some (some .badField) ∧
    submit (s { d with quantity := 8000 }) 17 = some (some .overCapacity) ∧ submit (s d) 17 = some none ∧
    submit (s { d with mode := .follow, quantity := 999 }) 17 = some (some .overCapacity) ∧
    submit (s { d with mode := .follow, quantity := 0 }) 17 = some none := by decide +kernel

theorem witness_SubmissionStaysWithinTheOfferable :
    let o := offerOf 18 46 0 .follow .draft
    let s := withOffers [offerOf 17 46 3000 .fixed .queued, o] market
    s.bookHeld ∧ s.findOffer o.id = some o ∧ o.state = .draft ∧ s.census.published = some snapshot7000 ∧
    (s.judgeSubmission o).toOption = some 4000 := by
  refine ⟨bookHeld_of_small _ (by decide +kernel) (by decide +kernel) rfl, by decide +kernel⟩

theorem witness_ReservationGuardsTheConditionalUpdate :
    let s : State := { withOffers [offerOf 19 46 1000 .fixed .draft] market with
      book := { (withOffers [offerOf 19 46 1000 .fixed .draft] market).book with reservation := some 19 } }
    let update (s : State) (q m after : Nat) := bodyOf .updateOfferConditional (asking
      (octetsOf 1 20 ++ octetsOf 2 19 ++ octetsOf 4 q ++ octetsOf 4 9 ++ octetsOf 1 m ++ octetsOf 1 after) s)
    let read (id : Nat) := reasonOf .readOfferReserved (asking (octetsOf 1 19 ++ octetsOf 2 id) s)
    [read 19, read 20] = [some none, some (some .noSuchRecord)] ∧
    [update market 1000 0 1, update s 1000 2 0, update s 1000 0 2, update s 999 0 0] =
      List.replicate 4 (some [0, 0, 0, 0, 0]) ∧
    [update s 1000 0 0, update s 8000 0 1, update s 7000 0 1] =
      [some [1, 0, 0, 0, 0], some [1, 0, 0, 0, 0], some ([1] ++ octetsOf 4 7000)] := by decide +kernel

/-- Product 0 with obligation 5,000 W. -/
def obliged : State := withAct 0 { ActRecord.reset with obligation := 5000 } market

/-- One order for each check: code 9; a frequency product; no obligation; at once; clamped; later. -/
theorem witness_OrderIsRefusedAppliedOrMadePending :
    let acked (s : State) (o : Octets) : List (Option Product × AckOutcome) :=
      (after (exec .activationOrder (gridFrame .activationOrder o s))).arbiter.ack.map (fun e => (e.1, e.2.outcome))
    obliged.gridHolds = true ∧ acked obliged (orderPayload 9 900 4000 0) = [(none, .refusedUnknownProduct)] ∧
    acked (withBank 0 { ffr with mode := .frequency } obliged) (orderPayload 1 900 4000 0) = [(some 0, .refusedMode)] ∧
    acked market (orderPayload 1 900 4000 0) = [(some 0, .refusedNoObligation)] ∧
    acked obliged (orderPayload 1 900 5000 39000000) = [(some 0, .accepted)] ∧
    acked obliged (orderPayload 1 900 5001 39000001) = [(some 0, .clamped)] ∧
    [0, 39000001].map (fun n => (after (exec .activationOrder (gridFrame .activationOrder (orderPayload 1 900 4000 n)
      obliged))).allocation.pass.isSome) = [true, false] := by decide +kernel

theorem witness_EndStopsTheActivationItNames :
    let s := withAct 0 { ActRecord.reset with
      state := .active, obligation := 5000, target := 4000, currentId := some 900 } market
    let ends (s : State) (code id : Nat) : List (Option Product × AckOutcome) :=
      (after (exec .activationEnd (gridFrame .activationEnd (octetsOf 2 code ++ octetsOf 4 id) s))).arbiter.ack.map
        (fun e => (e.1, e.2.outcome))
    ends s 9 900 = [(none, .refusedUnknownProduct)] ∧ ends s 1 900 = [(some 0, .ended)] ∧
    ends s 1 901 = [(some 0, .refusedUnknownActivation)] ∧
    ends (withBank 0 { ffr with mode := .frequency } s) 1 900 = [(some 0, .refusedMode)] := by decide +kernel

/-- Samples at the bounds of validity, 45,000 and 55,000 mHz, beyond them, and one of 7 octets. -/
theorem witness_FrequencySampleSetsTargets :
    let rejected (n f : Nat) := (after (exec .freqSample (sampleFrame n f (droopState 0 .active 100 0)))).activation.rejected
    [rejected 101 45000, rejected 101 55000, rejected 101 44999, rejected 101 55001, rejected 100 50000] = [0, 0, 1, 1, 1] ∧
    (zeros 7).length ≠ 8 ∧ (droopState 0 .active 100 0).links.meter.buffer = [] := by decide +kernel

theorem witness_SilenceHoldsAndThenLosesTheRecords :
    let s := droopState 3733 .active 105 1300
    (∃ x, s.activation.sample = some x ∧ s.params.sampleTimeout ≤ (atLocal 1800 s).localTime - x.time ∧
      s.params.sampleTimeout + s.params.holdTime ≤ (atLocal 4800 s).localTime - x.time) ∧
    (s.bank 3).mode = .frequency ∧ 0 < (s.act 3).obligation := by
  exact ⟨⟨_, rfl, by decide +kernel⟩, by decide +kernel⟩

/-- Requests at each row of R64: a full one, feeder 63 and 64, presence 2. -/
theorem witness_CensusRequestsStartOrPend :
    let s : State := { State.reset with census := { State.reset.census with published := some snapshot7000 } }
    let busy (full : Bool) (select : Option Nat) : State := { s with census := { s.census with
      run := some sweptRun, fullPending := full, selectPending := select } }
    let ask (s : State) (present f : Nat) := bodyOf .requestCensus
      (asking (octetsOf 1 21 ++ octetsOf 1 present ++ octetsOf 1 f) s)
    (atLocal 5000 s).census.timerExpiry ≤ (atLocal 5000 s).localTime ∧
    Table.wfOr snapshot7000.roster.feeders FeederRecord.zero = true ∧
    [ask s 2 0, ask s 1 64, ask s 0 64, ask s 1 63, ask State.reset 1 63] =
      [some [], some [], some [1], some [2], some [1]] ∧
    [ask (busy true none) 0 0, ask (busy true none) 1 9, ask (busy false none) 1 9, ask (busy false (some 9)) 1 9,
      ask (busy false (some 9)) 1 12] = [some [3], some [5], some [4], some [4], some [3]] := by decide +kernel

/-- A run about to read slot 5, of site 70112's feeder and of another. -/
theorem witness_SlotReadMakesOneSweepRecord :
    let s (k : CensusKind) (n : Nat) : State :=
      let t := oneSite site70112 (atLocal 101000 State.reset)
      { t with census := { t.census with run := some { sweptRun with kind := k, nextSlot := n, sweep := [], swept := [] } } }
    let count (k : CensusKind) (n : Nat) : Option Nat :=
      (after (exec .censusSlotRead (s k n))).census.run.map (fun r => r.sweep.length)
    (s .full 5).siteAt 5 = some site70112 ∧ (s .full 5).siteEligible site70112 = true ∧
    [count .full 5, count (.select 3) 5, count (.select 4) 5, count .full 4, count .full 4095] =
      [some 1, some 1, some 0, some 0, some 0] := by decide +kernel

/-- R72: what each read sweeps: a select census sweeps the slots of its feeder, eligible or not, and no VACANT one. -/
theorem test_slots_swept :
    let swept (k : CensusKind) (st : SiteState) (n : Nat) : Option (List Nat) :=
      let t := oneSite { site70112 with state := st } (atLocal 101000 State.reset)
      (after (exec .censusSlotRead { t with census := { t.census with
        run := some { sweptRun with kind := k, nextSlot := n, sweep := [], swept := [] } } })).census.run.map (fun r => r.swept)
    [swept .full .active 5, swept .full .active 4, swept (.select 3) .suspect 5, swept (.select 4) .active 5,
      swept (.select 3) .active 4] = [some [5], some [4], some [5], some [], some []] := by decide +kernel

theorem witness_SnapshotFiguresFollowTheRoster :
    (sweptRun.banks.get 0).inRange = true ∧ Table.wf (fullRoster sweptRun 1).feeders = true ∧
    (∀ e ∈ (fullRoster sweptRun 1).feeders, e.1 < 64) ∧ (sweptRun.banks.get 0).enabled = true ∧
    (sweptRun.banks.get 2).enabled = false := by decide +kernel

theorem witness_PublicationReplacesBothAndStartsThePendingRun :
    let s (full : Bool) (select : Option Nat) : State := { market with census := { market.census with
      run := some sweptRun, fullPending := full, selectPending := select } }
    let next (full : Bool) (select : Option Nat) : Option CensusKind :=
      (after (exec .censusPublish (s full select))).census.run.map (fun r => r.kind)
    (s false none).census.run = some sweptRun ∧ 4096 ≤ sweptRun.nextSlot ∧
    (sweptRun.sweep.map (fun y => y.slot)).Nodup ∧ sweptRun.kind = .full ∧ market.census.published = some snapshot7000 ∧
    Table.wf snapshot7000.roster.entries = true ∧ Table.wfOr mergedRoster.feeders FeederRecord.zero = true ∧
    Table.wf mergedRoster.entries = true ∧ market.allocation.pass = none ∧
    [next true none, next false (some 9), next false none] = [some .full, some (.select 9), none] := by decide +kernel

theorem witness_DivisionGivesOutTheGrantWithinShares :
    Table.wf [(4, 3636), (7, 1363), (11, 3000)] = true ∧ 5500 ≤ sumOf [(4, 3636), (7, 1363), (11, 3000)] (fun e => e.2) := by
  decide +kernel

theorem witness_PassLocksEachSlotToOneDirection :
    let entries := (passOf77.roster.map (fun r => r.entries)).getD []
    Table.wf entries = true ∧ entries.length = 4 ∧ (passOf77.banks.get 5).enabled = true ∧
    (passOf77.banks.get 4).enabled = false := by decide +kernel

/-- R126: a trigger while a pass runs keeps the pass and pends. -/
theorem test_trigger :
    let s : State := { dispatched with allocation := { dispatched.allocation with pass := some passOf77 } }
    (s.trigger.allocation.pass, s.trigger.allocation.passPending) = (some passOf77, true) ∧
    dispatched.trigger.allocation.pass.map (fun l => l.slots) = some [(5, ⟨true, 70112⟩)] ∧
    dispatched.trigger.allocation.passPending = false := by decide +kernel

theorem witness_PassEndReplacesAllocationsAndStages :
    let s : State := { dispatched with allocation := { dispatched.allocation with pass := some passOf77 } }
    s.allocation.pass = some passOf77 ∧ s.tablesHeld := by
  refine ⟨rfl, by decide +kernel, fun p => ?_⟩
  fin_cases p <;> decide +kernel

/-- R135: a pass that stages a slot back to its sent offset while its entry waits requests the next release. -/
theorem test_restaging_requests_a_release :
    let s (frames : List (List ReleaseEntry)) : State := { dispatched with allocation := { dispatched.allocation with
      pass := some { passOf77 with roster := none }
      requested := false
      records := [(5, { DispatchRecord.reset with staged := 2000 })]
      emission := if frames.isEmpty then none else some { release := 119, nextIndex := 0, frames := frames } } }
    let t (frames : List (List ReleaseEntry)) := after (exec .allocationPassEnd (s frames))
    ((t []).dispatch 5).staged = 0 ∧ (t []).someSlotOwes = false ∧ (t []).allocation.requested = false ∧
    (t [[{ slot := 5, siteNumber := 70112, offset := 2000 }]]).allocation.requested = true := by decide +kernel

/-- The Fleet Port UP, the request flag set, the spacing just past; slot 5 owes its staged offset, or nothing. -/
def releasing (staged : Int) (last : Nat) : State :=
  let s := oneSite site70112 (atLocal 500150 fleetUp)
  { s with allocation := { s.allocation with
      requested := true, lastStart := some last, releaseCounter := 65535
      records := if staged = 0 then [] else [(5, { DispatchRecord.reset with staged := staged })] } }

theorem witness_ReleaseBeginsWithTheNextNumber :
    let s := releasing 2500 499900
    s.allocation.requested = true ∧ s.links.fleet.up = true ∧ s.allocation.emission = none ∧
    499900 + s.params.releaseSpacing ≤ s.localTime ∧ Table.wf s.fleet.sites = true ∧ s.owes 5 = true ∧
    (releasing 0 499900).owes 5 = false ∧ s.links.fleetTx = none ∧
    (after (exec .releaseBegin s)).allocation.releaseCounter = 1 ∧
    (after (exec .releaseBegin (releasing 2500 499901))).allocation.requested = true := by decide +kernel

/-- R133: the cases of a slot that owes a release, each with the case beside it that owes none. -/
theorem witness_OwesARelease :
    let s (st : SiteState) (catchUp : Bool) (d : DispatchRecord) : State :=
      let s := oneSite { site70112 with state := st } State.reset
      { s with allocation := { s.allocation with catchUp := catchUp, records := [(5, d)] } }
    let d := { DispatchRecord.reset with staged := 2000, sent := 2000 }
    let owes (st : SiteState) (catchUp : Bool) (d : DispatchRecord) := (s st catchUp d).owes 5
    [owes .barred false d, owes .barred false { d with sent := 0 }, owes .listed false d,
      owes .listed false { d with sent := 0 }, owes .active false { d with carry := true },
      owes .active false { d with confirmed := false }, owes .active true { d with confirmed := false },
      owes .active true d] = [false, true, true, false, true, false, true, false] ∧
    (s .active true { d with carry := true, confirmed := false }).owes 6 = false := by decide +kernel

theorem witness_ReleaseFrames :
    (releasing 2500 499900).tablesHeld ∧ (chunks 241 120 (List.range 241)).map List.length = [120, 120, 1] := by
  refine ⟨⟨by decide +kernel, fun p => ?_⟩, by decide +kernel⟩
  fin_cases p <;> decide +kernel

/-- A release of one frame of one entry, the transmitter about to finish. -/
def emitting : State :=
  { dispatched with
    links := { dispatched.links with fleetTx := some [], fleet := { dispatched.links.fleet with up := true } }
    allocation := { dispatched.allocation with emission := some { release := 119, nextIndex := 1, frames :=
      [[{ slot := 5, siteNumber := 70112, offset := 2000 }]] } } }

/-- R136, R172: the three ports going DOWN; at the Fleet Port slot 5 keeps its dispatch record but for the timer. -/
theorem witness_EachPortGoesDown :
    let s : State := { emitting with
      links := { emitting.links with
        grid := { Engine.reset with up := true, signal := true, expiry := some 101000 }, gridTx := some []
        meter := { Engine.reset with up := true, signal := true, expiry := some 101000 } }
      monitor := { emitting.monitor with fleetUp := true, meterUp := true } }
    let down (port : Port) := after (exec (.signalLoss port) s)
    let late (port : Port) := after (exec (.linkTimeout port) s)
    (s.engine .fleet).up = true ∧ (s.engine .grid).up = true ∧ (s.engine .meter).up = true ∧ s.gridHolds = true ∧
    s.tablesHeld ∧ s.params.noticeMask.getLsbD 13 = true ∧
    (down .fleet).dispatch 5 = { s.dispatch 5 with expiry := none } ∧
    (down .fleet).allocation.catchUp = true ∧ (down .grid).allocation = s.allocation ∧
    ((down .meter).monitor.fleetUp, (down .meter).monitor.meterUp) = (true, false) ∧
    (down .fleet).management.notices.getLast? = some (.linkChange .fleet false .signalLoss) ∧
    (late .meter).management.notices.getLast? = some (.linkChange .meter false .timeout) ∧
    (late .grid).management.notices = [.linkChange .grid false .timeout] := by
  refine ⟨by decide +kernel, by decide +kernel, by decide +kernel, by decide +kernel, ⟨by decide +kernel, fun p => ?_⟩,
    by decide +kernel⟩
  fin_cases p <;> decide +kernel

theorem witness_NextFrameOfTheReleaseIsHandedOver :
    emitting.links.fleetTx.isSome = true ∧ emitting.links.fleet.up = true ∧
    (∃ e f, emitting.allocation.emission = some e ∧ e.frames = [f] ∧ (f.map (fun x => x.slot)).Nodup) ∧
    emitting.tablesHeld := by
  refine ⟨rfl, rfl, ⟨_, _, rfl, rfl, by decide +kernel⟩, by decide +kernel, fun p => ?_⟩
  fin_cases p <;> decide +kernel

theorem witness_ConfirmationTimeoutMarksTheSlot :
    (dispatched.dispatch 5).expiry = some 101000 ∧ 101000 ≤ dispatched.localTime ∧ dispatched.tablesHeld ∧
    dispatched.siteAt 5 = some site70112 ∧ dispatched.params.unconfirmedLimit ≤ 3 ∧ dispatched.allocation.pass = none ∧
    dispatched.allocation.reports = [] ∧
    (dispatched.confirmationTimeout 5 true).allocation.passPending = true ∧
    (dispatched.confirmationTimeout 5 false).allocation.passPending = false ∧
    (dispatched.confirmationTimeout 5 false).allocation.reports = [5] := by
  refine ⟨by decide +kernel, by decide +kernel, ⟨by decide +kernel, fun p => ?_⟩, by decide +kernel⟩
  fin_cases p <;> decide +kernel

/-- R38, R140: a report taken between the timeout that reaches the limit and the entry to SUSPECT confirms the slot and
is accepted as ACTIVE; the site enters SUSPECT all the same. A removal in between leaves the report without effect
(R6). -/
theorem test_report_between_timeout_and_entry :
    let s := dispatched.confirmationTimeout 5 false
    let t := after (exec .siteReport (fleetFrame (reportPayload 70112 9 101 0 118) s))
    let u := after (exec (.confirmationTimeout 5) t)
    let state (s : State) := (s.siteAt 5).map (fun x => x.state)
    (state s, (s.dispatch 5).run) = (some .active, 3) ∧
    (state t, (t.dispatch 5).run, (t.dispatch 5).confirmed) = (some .active, 0, true) ∧
    (state u, (u.dispatch 5).run, u.allocation.reports) = (some .suspect, 0, []) ∧
    Table.find u.fleet.sites 5 = (t.siteAt 5).map (fun x => { x with state := .suspect, suspectExpiry := some 1001000 }) ∧
    (after (exec .removeSite (asking (octetsOf 1 9 ++ octetsOf 4 70112) { t with allocation := { t.allocation with
      records := [] } }))).allocation.reports = [] := by decide +kernel

theorem witness_IntervalEndMeasuresActiveProducts :
    let s := atLocal 4000 (withAct 0 { ActRecord.reset with obligation := 5500, target := 5500 } market)
    s.monitor.intervalExpiry ≤ s.localTime ∧ 0 < (s.act 0).obligation ∧ (s.act 1).obligation = 0 ∧
    s.gridHolds = true ∧ deficientInterval 5500 4950 100 = false ∧ deficientInterval 5500 4949 100 = true := by
  decide +kernel

theorem witness_HeartbeatEvaluatesAndQueuesAvailability :
    (atLocal 10000 market).monitor.heartbeatExpiry ≤ (atLocal 10000 market).localTime ∧ market.gridHolds = true := by
  decide +kernel

/-- Section 9.10's kind of choice: an acknowledgement and a notice wait, the acknowledgement's level is the lowest. -/
def choosing : State :=
  { State.reset with
    links := { State.reset.links with gridTx := some [], grid := { State.reset.links.grid with up := true } }
    arbiter := { State.reset.arbiter with ack := [(none, ⟨9, 1, .refusedUnknownProduct, none, none, none⟩)] }
    management := { State.reset.management with notices := [.futureShortfallCleared 0] } }

theorem witness_ArbiterTakesTheLowestLevelFirst :
    choosing.links.gridTx.isSome = true ∧ choosing.links.grid.up = true ∧ choosing.sourceHolds .ack = true ∧
    choosing.sourceHolds .notice = true ∧ choosing.params.level .ack < choosing.params.level .notice ∧
    (∀ x ∈ allSources, choosing.sourceHolds x = true → x = .ack ∨ x = .notice) := by decide +kernel

/-- R193: a kind outside the mask is dropped, the 32nd notice is queued, the 33rd discarded with the flag. -/
theorem witness_NoticesArePosted :
    let n : Notice := .futureShortfallCleared 0
    let s (mask : BitVec 14) (k : Nat) : State := { State.reset with
      params := { Params.reset with noticeMask := mask }
      management := { State.reset.management with notices := List.replicate k n } }
    let seen (t : State) := (t.management.notices.length, t.management.noticeDiscarded)
    (s 256 0).gridHolds = true ∧ choosing.gridHolds = true ∧
    { choosing with links := { choosing.links with gridTx := none } }.gridHolds = false ∧
    [seen ((s 0 0).post n), seen ((s 256 0).post n), seen ((s 256 31).post n), seen ((s 256 32).post n)] =
      [(0, false), (1, false), (32, false), (32, true)] := by decide +kernel

theorem witness_RequestJoinsTheQueueOrOverflows :
    let s (n : Nat) : State :=
      let t := gridFrame .request [22] State.reset
      { t with management := { t.management with queue := List.replicate n (asked [22]) } }
    (∃ f, (s 7).links.grid.buffer = [f] ∧ f.kind = .request) ∧ (s 7).management.queue.length < 8 ∧
    8 ≤ (s 8).management.queue.length := ⟨⟨_, rfl, rfl⟩, by decide +kernel⟩

theorem witness_RequestsWaitTheirTurnAndFormatsAreJudged :
    let s := asking (octetsOf 1 22 ++ [0]) State.reset
    State.reset.management.inExecution = none ∧ State.reset.management.queue = [] ∧ State.reset.gridHolds = true ∧
    s.management.inExecution = none ∧ s.arbiter.response = none ∧
    s.management.queue = [asked (octetsOf 1 22 ++ [0])] ∧ fieldAt (octetsOf 1 22 ++ [0]) 0 1 = 22 ∧
    [reasonOf .readStatus s, reasonOf .requestOutOfFormat (asking [] State.reset),
      reasonOf .requestOutOfFormat (asking [26] State.reset), reasonOf .requestOutOfFormat (asking [0] State.reset),
      reasonOf .requestOutOfFormat (asking [25] State.reset)] =
      [some (some .badField), some (some .badField), some (some .badField), some (some .badField), none] := by
  decide +kernel

/-- A write in execution: SET_WINDOW waits. -/
theorem witness_RequestsWaitForTheOneInExecution :
    let x : InExecution := { request := asked [2, 2, 0], progress := .writing [[0]] 0 0 }
    let s : State := { asking [1, 1, 0, 0, 0, 0] State.reset with
      management := { (asking [1, 1, 0, 0, 0, 0] State.reset).management with inExecution := some x } }
    s.management.inExecution = some x ∧ x.request.payload.head? = some 2 ∧ after (exec .setWindow s) = s := by decide +kernel

theorem witness_WindowAndReturnLimitAreSet :
    let window (t a b : Nat) := reasonOf .setWindow
      (asking (octetsOf 1 1 ++ octetsOf 1 t ++ octetsOf 2 a ++ octetsOf 2 b) State.reset)
    let limit (n : Nat) := reasonOf .setReturnLimit (asking (octetsOf 1 6 ++ octetsOf 2 n) State.reset)
    State.nextOf (asking (octetsOf 1 6 ++ octetsOf 2 64) State.reset) 6 = some (asked (octetsOf 1 6 ++ octetsOf 2 64)) ∧
    [window 0 0 0, window 8 0 0, window 1 0 4096, window 2 64 64, window 4 3 2] = List.replicate 5 (some (some .badField)) ∧
    [window 1 0 4095, window 2 63 63, window 4 511 511, window 7 0 7] = List.replicate 4 (some none) ∧
    [limit 63, limit 1025] = List.replicate 2 (some (some .badField)) ∧ [limit 64, limit 1024] = List.replicate 2 (some none) := by
  decide +kernel

/-- A window of `table` from `first` to `last`. -/
def windowed (table : TableName) (first last : Nat) (s : State) : State :=
  { s with management := { s.management with window := some { table := table, first := first, last := last,
                                                              readCursor := first, writeCursor := first } } }

/-- A feeder record. -/
def feederOctets (up : Nat) : Octets := octetsOf 4 up ++ octetsOf 4 40000 ++ octetsOf 1 0

theorem witness_WritesTakeRecordsInOrder :
    let write (take : Option Nat) (t : Nat) (o : Octets) (s : State) :=
      bodyOf (.writeRecords take) (asking (octetsOf 1 2 ++ octetsOf 1 t ++ o) s)
    let why (t : Nat) (o : Octets) (s : State) :=
      reasonOf (.writeRecords none) (asking (octetsOf 1 2 ++ octetsOf 1 t ++ o) s)
    let w := windowed .feeders 4 5 State.reset
    [why 2 [] State.reset, why 0 [] w, why 8 [] w, why 1 [] w, why 4 [] (windowed .offers 0 1 State.reset), why 2 [0] w] =
      [some (some .wrongState), some (some .badField), some (some .badField), some (some .wrongState),
        some (some .readOnly), some (some .badField)] ∧
    write none 2 [] w = some (octetsOf 2 0 ++ octetsOf 2 4) ∧
    write none 2 (feederOctets 1 ++ feederOctets 2) w = some (octetsOf 2 2 ++ octetsOf 2 6) ∧
    write none 2 (feederOctets 1 ++ feederOctets 100000001) w = some (octetsOf 2 1 ++ octetsOf 2 5) ∧
    write (some 1) 2 (feederOctets 1 ++ feederOctets 2) w = none := by decide +kernel

theorem witness_StoppingBetweenRecordsChangesNothing :
    let s := asking (octetsOf 1 2 ++ octetsOf 1 2 ++ feederOctets 1 ++ feederOctets 2) (windowed .feeders 4 5 State.reset)
    s.management.inExecution = none ∧
    (after (exec (.writeRecords (some 1)) s)).management.inExecution.isSome = true := by decide +kernel

theorem witness_WrittenRecordsAreJudgedAndApplied :
    let s := oneSite site70112 State.reset
    s.fleetHeld ∧ s.siteAt 5 = some site70112 ∧ s.siteAt 6 = none ∧ s.slotOf 70112 = some 5 ∧
    (let written (slot number : Nat) : Option Reason :=
      match s.writeRecord .sites slot ((fields number 3 5000 3000).octets (octetsOf 16 9)) with
      | .ok _ => none
      | .error e => some e
     [written 6 70112, written 6 0, written 5 70112, written 6 70113, written 5 70113] =
      [some .duplicateSite, some .badField, none, none, none]) ∧
    dispatched.undispatched 5 = false ∧ parseBank ffr.octets = some ffr ∧ ffr.inRange = true ∧ Bank.inRange { ffr with maxBid := 100001 } = false := by
  refine ⟨fleetHeld_oneSite _ _, by decide +kernel⟩

/-- R12, R9: a load that moves an eligible site with an allocation to a DISABLED feeder triggers a pass; one that does not
move it triggers none. -/
theorem test_load_to_disabled_feeder :
    let s : State := dispatched.setFeeder 4 { Feeder.reset with enabled := false }
    let load (f : Nat) : Option Bool :=
      match s.writeRecord .sites 5 ((fields 70112 f 5000 3000).octets (octetsOf 16 9)) with
      | .ok (t, _) => some t.allocation.pass.isSome
      | .error _ => none
    s.allocation.pass = none ∧ s.siteEligible site70112 = true ∧ s.allocated 5 = true ∧
    [load 3, load 4] = [some false, some true] := by decide +kernel

theorem witness_ReadsReturnRecordsInOrder :
    let read (limit : Nat) (s : State) :=
      bodyOf (.readRecords none) (asking (octetsOf 1 4 ++ octetsOf 1 2)
        { s with management := { s.management with returnLimit := limit } })
    let w := windowed .feeders 4 5 State.reset
    (read 64 w).map (fun o => o.take 5) = some (octetsOf 2 4 ++ octetsOf 2 2 ++ [1]) ∧
    (read 33 w).map (fun o => o.take 5) = some (octetsOf 2 4 ++ octetsOf 2 1 ++ [0]) ∧
    (read 34 w).map (fun o => o.take 5) = some (octetsOf 2 4 ++ octetsOf 2 2 ++ [1]) ∧
    reasonOf (.readContinue none) (asking [5] State.reset) = some (some .wrongState) ∧
    reasonOf (.readContinue none) (asking [5] w) = some none ∧
    (∀ p : Product, (State.reset.mon p).history.length ≤ 4) := by decide +kernel

theorem witness_SitesAreBarredClearedAndRemoved :
    let o (c n : Nat) := octetsOf 1 c ++ octetsOf 4 n
    let s := oneSite site70112 (atLocal 101000 State.reset)
    let barred := oneSite { site70112 with state := .barred, barReason := some .tag } State.reset
    s.fleetHeld ∧ (o 7 70112).length = 5 ∧ s.slotOf 70113 = none ∧ s.slotOf 70112 = some 5 ∧
    (asking (o 7 70112) s).nextOf 7 = some (asked (o 7 70112)) ∧ dispatched.siteEligible site70112 = true ∧
    dispatched.allocated 5 = true ∧
    [reasonOf .barSite (asking (o 7 70113) s), reasonOf .barSite (asking (o 7 70112) s),
      reasonOf .clearSite (asking (o 8 70112) s), reasonOf .clearSite (asking (o 8 70112) barred),
      reasonOf .removeSite (asking (o 9 70112) s), reasonOf .removeSite (asking (o 9 70112) dispatched)] =
      [some (some .noSuchRecord), some none, some (some .wrongState), some none, some none,
        some (some .siteDispatched)] := by
  refine ⟨fleetHeld_oneSite _ _, by decide +kernel⟩

/-- R14, R126: SITE_BARRED is posted for a site that was not BARRED and for a bar reason going from TAG to HOST, not for
HOST again; the exclusion starts a pass, and pends while one runs, at a bar as at a removal. -/
theorem witness_BarsAndRemovalsTrigger :
    let o (c : Nat) := octetsOf 1 c ++ octetsOf 4 70112
    let free := { DispatchRecord.reset with allocation := (PerProduct.all 0).set 0 2000 }
    let s (x : Site) (l : Option PassLatch) : State := { oneSite x State.reset with
      allocation := { State.reset.allocation with pass := l, records := [(5, free)], reports := [4, 5] } }
    let bar (x : Site) (l : Option PassLatch) := after (exec .barSite (asking (o 7) (s x l)))
    let gone (l : Option PassLatch) := after (exec .removeSite (asking (o 9) (s site70112 l)))
    let out (r : BarReason) : Site := { site70112 with state := .barred, barReason := some r }
    let passes (t : State) := (t.allocation.pass.isSome, t.allocation.passPending)
    [bar site70112 none, bar (out .tag) none, bar (out .host) none].map (fun t => t.management.notices) =
      [[.siteBarred 5 70112 .host], [.siteBarred 5 70112 .host], []] ∧
    [bar site70112 none, bar site70112 (some passOf77), bar (out .tag) (some passOf77)].map passes =
      [(true, false), (true, true), (true, false)] ∧
    [gone none, gone (some passOf77)].map passes = [(true, false), (true, true)] ∧
    (gone none).allocation.reports = [4] ∧ (bar site70112 none).allocation.reports = [4, 5] ∧
    ((gone none).siteAt 5).isNone = true := by decide +kernel

/-- Product 0 enabled with code 1, product 2 staged with code 7; product 1's pending bank varies. -/
def products (b : Bank) : State :=
  { market with products := ((market.products.set 1 { market.products.get 1 with pendingBank := b }).set 2
      { market.products.get 2 with pendingBank := { Bank.reset 2 with enabled := true, code := 7 }, staged := true }) }

theorem witness_ProductRequestsAreJudgedInOrder :
    let stage (s : State) (p : Nat) := reasonOf .stageProduct (asking (octetsOf 1 11 ++ octetsOf 1 p) s)
    let cancel (s : State) (p : Nat) := reasonOf .cancelStage (asking (octetsOf 1 12 ++ octetsOf 1 p) s)
    let apply (s : State) (p : Nat) := reasonOf .applyNow (asking (octetsOf 1 13 ++ octetsOf 1 p) s)
    let write (p : Nat) (o : Octets) := reasonOf .writeProduct (asking (octetsOf 1 10 ++ octetsOf 1 p ++ o) market)
    let on (code : Nat) : Bank := { Bank.reset 1 with enabled := true, code := code }
    let sold : State := withOffers [offerOf 17 46 3000 .fixed .queued] market
    [write 8 rsv.octets, write 7 rsv.octets, write 1 { rsv with maxBid := 100001 }.octets] =
      [some (some .badField), some none, some (some .badField)] ∧
    [stage market 8, stage (products (on 1)) 1, stage (products (on 7)) 1, stage (products (on 5)) 1, stage sold 0] =
      [some (some .badField), some (some .duplicateCode), some (some .duplicateCode), some none, some (some .committed)] ∧
    [cancel (products (on 5)) 2, cancel (products (on 5)) 1] = [some none, some (some .wrongState)] ∧
    [apply market 0, apply (products (on 1)) 1, apply (products (on 5)) 1,
      apply (withOffers [{ offerOf 17 46 3000 .fixed .submitted with product := 1 }]
        (products { on 5 with direction := .down })) 1] =
      [some (some .wrongState), some (some .duplicateCode), some none, some (some .committed)] := by decide +kernel

theorem witness_StatusReadsClearWhatTheyReport :
    let s : State := asking [22] { State.reset with monitor := { State.reset.monitor with
      products := State.reset.monitor.products.set 0 { MonitorProduct.reset with latch := true } } }
    s.nextOf 22 = some (asked [22]) ∧ s.gridHolds = true ∧ (s.mon 0).latch = true ∧
    (asking [22] State.reset).nextOf 22 = some (asked [22]) ∧ (∀ p : Product, (State.reset.mon p).latch = false) ∧
    (asking [23] State.reset).nextOf 23 = some (asked [23]) := by decide +kernel

theorem witness_ParametersAreReplacedWhole :
    let set (p : Params) (s : State) := reasonOf .setParameters (asking (octetsOf 1 24 ++ p.octets) s)
    let p := Params.reset
    [set { p with fFresh := 999 } State.reset, set { p with fFresh := 1000 } State.reset,
      set { p with fFresh := 30000 } State.reset, set { p with nominal := 60000 } State.reset,
      set { p with noticeLevel := 4 } State.reset] =
      [some (some .badField), some none, some (some .badField), some none, some (some .badField)] ∧
    [set { p with windowLength := 14 } (withOffers [offerOf 17 46 3000 .fixed .draft] market),
      set { p with windowLength := 16 } market, set { p with windowLength := 14 } market,
      set { p with windowLength := 16 } State.reset] =
      [some (some .committed), some (some .wrongState), some none, some none] := by decide +kernel

/-- R49, R65, R119, R160, R175: one change for each clause, the moments at their bounds. -/
theorem witness_ParametersThatBlocksActOn :
    let set (p : Params) (s : State) := after (exec .setParameters (asking (octetsOf 1 24 ++ p.octets) s))
    let p := Params.reset
    let linked : State := { fleetUp with time := { fleetUp.time with localTime := 3000 } }
    let silent : State := { droopState 3733 .active 105 1300 with time := { State.reset.time with localTime := 1600 } }
    let short := set { p with windowLength := 13 } market
    (market.deviceTime, market.time.boundaryMark, short.time.boundaryMark, short.book.ring) =
      (some 39000000, some 43, some 50, some 50) ∧
    [(set { p with censusInterval := 3 } (atLocal 2999 State.reset)).census.timerExpiry,
      (set { p with censusInterval := 3 } (atLocal 3000 State.reset)).census.timerExpiry] = [3000, 6000] ∧
    ((set { p with sampleTimeout := 300 } silent).act 3).state = .holding ∧
    ((set { p with sampleTimeout := 301 } silent).act 3).state = .active ∧
    [(set { p with performanceInterval := 3 } (atLocal 2999 State.reset)).monitor.intervalExpiry,
      (set { p with performanceInterval := 3 } (atLocal 3000 State.reset)).monitor.intervalExpiry] = [3000, 6000] ∧
    [(set { p with heartbeatInterval := 3 } (atLocal 2999 State.reset)).monitor.heartbeatExpiry,
      (set { p with heartbeatInterval := 3 } (atLocal 3000 State.reset)).monitor.heartbeatExpiry] = [3000, 6000] ∧
    [(set { p with linkTimeout := 4 } linked).links.fleet.expiry, (set { p with linkTimeout := 3 } linked).links.fleet.expiry] =
      [some 4000, none] := by decide +kernel

theorem witness_RestartSetsEachBlockAndKeepsTheRest :
    let s := asking [25] dispatched
    s.nextOf 25 = some (asked [25]) ∧ s.gridHolds = true ∧ s.tablesHeld := by
  refine ⟨by decide +kernel, by decide +kernel, by decide +kernel, fun p => ?_⟩
  fin_cases p <;> decide +kernel

/-- R123: after a restart a FREQUENCY record whose commitment stands takes the state its silence gives, at each bound. -/
theorem witness_RestartBySilence :
    let s (silence : Nat) : State :=
      let t := atLocal 100000 (withBank 3 droop market)
      { t with
        book := { t.book with commitments := (PerProduct.all []).set 3 [(43, 3000)] }
        activation := { t.activation with sample := some { number := 1, time := 100000 - silence } } }
    let left (silence : Nat) := after (exec .restart (asking [25] (s silence)))
    (s 0).currentWindow = some 43 ∧
    [499, 500, 3499, 3500].map (fun n => (((left n).act 3).state, ((left n).act 3).obligation, ((left n).mon 3).freqLost)) =
      [(.active, 3000, false), (.holding, 3000, false), (.holding, 3000, false), (.lost, 3000, true)] := by
  decide +kernel

/-- The hypotheses of the invariants hold of a state with sites, a dispatch and offers. -/
theorem witness_Invariants :
    let s := asking [25] { withOffers [offerOf 17 46 3000 .fixed .queued] market with
      fleet := dispatched.fleet, allocation := dispatched.allocation }
    s.targetsHeld ∧ s.paramsHeld ∧ s.banksHeld ∧ s.codesHeld ∧ s.queuesHeld ∧ s.bookHeld ∧ s.tablesHeld := by
  refine ⟨?_, ?_, ?_, ?_, ?_, bookHeld_of_small _ (by decide +kernel) (by decide +kernel) rfl, by decide +kernel,
    fun p => ?_⟩
  · intro p; fin_cases p <;> decide +kernel
  · unfold State.paramsHeld; decide +kernel
  · intro p; fin_cases p <;> decide +kernel
  · intro p q hpq; fin_cases p <;> fin_cases q <;> first | exact absurd rfl hpq | decide +kernel
  · unfold State.queuesHeld Engine.bounded; decide +kernel
  · fin_cases p <;> decide +kernel

/-- A book in order with an accepted offer and its commitment meets the ring's relations. -/
theorem witness_OfferBookStaysHeld :
    let s := withOffers [{ offerOf 17 46 3000 .fixed .accepted with accepted := some 3000 }, offerOf 18 47 1000 .fixed .queued]
      { market with book := { market.book with commitments := (PerProduct.all []).set 0 [(46, 3000)] } }
    s.bookHeld ∧ s.bookOrdered ∧ s.banksHeld ∧ s.paramsHeld ∧ s.tablesHeld ∧ s.ringHeld := by
  refine ⟨bookHeld_of_small _ (by decide +kernel) (by decide +kernel) rfl, by unfold State.bookOrdered; decide +kernel, ?_,
    by unfold State.paramsHeld; decide +kernel, ⟨by decide +kernel, ?_⟩, rfl, ⟨43, by decide +kernel⟩, by decide +kernel, ?_⟩
  · intro p; fin_cases p <;> decide +kernel
  · intro p; fin_cases p <;> decide +kernel
  · intro p w _
    by_cases hw : w = 46
    · subst hw; revert p; decide +kernel
    · have h46 : ¬ 46 = w := fun h => hw h.symm
      by_cases hx : 47 = w
      · subst hx; revert p; decide +kernel
      · have hp : (withOffers [{ offerOf 17 46 3000 .fixed .accepted with accepted := some 3000 },
            offerOf 18 47 1000 .fixed .queued] market).book.offers.filter (fun o => decide (o.product = p) &&
              decide (o.window = w)) = [] := by simp [withOffers, offerOf, h46, hx]
        simp only [State.acceptedSum]
        refine Eq.trans ?_ (congrArg (fun l => sumOf l Offer.committed) hp).symm
        have hc : ∀ q : Product, Table.find (((PerProduct.all []).set 0 [(46, 3000)] : PerProduct (Table Nat)).get q) w = none := by
          intro q
          fin_cases q <;> simp [PerProduct.get, PerProduct.set, PerProduct.all, Table.find, h46]
        exact congrArg (fun o : Option Nat => o.getD 0) (hc p)

theorem witness_FleetAndTablesStayHeld : (oneSite site70112 State.reset).fleetHeld := fleetHeld_oneSite _ _

end Sys2Proof.Tests
end

/-! # Proofs about the Fleet Table: sites, feeders and the tables

First the rules of the Fleet Table's operations and two frames (`Steady`, `KeepsForm`), then the statements. -/

namespace Sys2Proof.Machine

/-! ## Counting the entries of a table -/

section Counting
variable {α : Type} (q : Nat × α → Bool)

/-- An entry put at a key the table does not list is one entry more. -/
theorem Table.length_filter_put_new {t : Table α} {k : Nat} (h : Table.find t k = none) (a : α) :
    ((Table.put t k a).filter q).length = (t.filter q).length + if q (k, a) then 1 else 0 := by
  induction t with
  | nil => simp only [Table.put, List.filter_cons]; split <;> simp
  | cons e t ih =>
    obtain ⟨j, b⟩ := e
    unfold Table.find at h
    unfold Table.put
    split at h
    · simp at h
    · next hj =>
      rw [if_neg hj]
      split at h
      · next hk => simp only [if_pos hk, List.filter_cons]; split <;> simp
      · next hk =>
        simp only [if_neg hk, List.filter_cons]
        split <;> simp [ih h]; omega

/-- An entry put at a listed key takes the place of the one there. -/
theorem Table.length_filter_put_old {t : Table α} {k : Nat} {b : α} (h : Table.find t k = some b) (a : α) :
    ((Table.put t k a).filter q).length + (if q (k, b) then 1 else 0) =
      (t.filter q).length + if q (k, a) then 1 else 0 := by
  induction t with
  | nil => simp at h
  | cons e t ih =>
    obtain ⟨j, c⟩ := e
    unfold Table.find at h
    unfold Table.put
    split at h
    · next hj =>
      cases h
      subst hj
      rw [if_pos rfl]
      cases hb : q (j, b) <;> cases ha : q (j, a) <;> simp [ha, hb]
    · next hj =>
      rw [if_neg hj]
      split at h
      · simp at h
      · next hk =>
        have := ih h
        simp only [if_neg hk, List.filter_cons]
        split
        · simp only [List.length_cons]; omega
        · exact this

/-- Dropping a listed key takes one entry out. -/
theorem Table.length_filter_drop {t : Table α} {k : Nat} {b : α} (h : Table.find t k = some b) :
    ((Table.drop t k).filter q).length + (if q (k, b) then 1 else 0) = (t.filter q).length := by
  induction t with
  | nil => simp at h
  | cons e t ih =>
    obtain ⟨j, c⟩ := e
    unfold Table.find at h
    unfold Table.drop
    split at h
    · next hj =>
      cases h
      subst hj
      rw [if_pos rfl]
      cases hb : q (j, b) <;> simp [hb]
    · next hj =>
      rw [if_neg hj]
      split at h
      · simp at h
      · next hk =>
        have := ih h
        simp only [if_neg hk, List.filter_cons]
        split
        · simp only [List.length_cons]; omega
        · exact this

end Counting

/-! ## Tables changed entry by entry -/

/-- Mapping the values of a table keeps its keys rising. -/
theorem Table.risingFrom_map {α β : Type} (t : Table α) (f : α → β) (low : Nat) :
    Table.risingFrom (t.map (fun e => (e.1, f e.2))) low = Table.risingFrom t low := by
  induction t generalizing low with
  | nil => rfl
  | cons e t ih => simp only [List.map_cons, Table.risingFrom, ih]

/-- A table whose entries are mapped or left out, their keys kept, still has its keys rising. -/
theorem Table.risingFrom_filterMap {α β : Type} (f : Nat × α → Option (Nat × β)) (hf : ∀ e y, f e = some y → y.1 = e.1)
    {t : Table α} {low : Nat} (w : Table.risingFrom t low = true) : Table.risingFrom (t.filterMap f) low = true := by
  induction t generalizing low with
  | nil => rfl
  | cons e t ih =>
    simp only [Table.risingFrom, Bool.and_eq_true, decide_eq_true_eq] at w
    obtain ⟨hlow, hrest⟩ := w
    cases hy : f e with
    | none =>
      rw [List.filterMap_cons_none hy]
      exact Table.risingFrom_mono (by omega) (ih hrest)
    | some y =>
      rw [List.filterMap_cons_some hy]
      have hk := hf e y hy
      simp only [Table.risingFrom, Bool.and_eq_true, decide_eq_true_eq]
      exact ⟨by omega, by rw [hk]; exact ih hrest⟩

/-- A table some of whose entries are left out still has its keys rising. -/
theorem Table.risingFrom_filter {α : Type} (q : Nat × α → Bool) {t : Table α} {low : Nat}
    (w : Table.risingFrom t low = true) : Table.risingFrom (t.filter q) low = true := by
  rw [← List.filterMap_eq_filter]
  exact Table.risingFrom_filterMap _ (fun e y hy => by simp at hy; rw [hy.1]) w

/-- Leaving entries out keeps the canonical form. -/
theorem Table.wfOr_filter {α : Type} [DecidableEq α] {t : Table α} {d : α} (w : Table.wfOr t d = true)
    (q : Nat × α → Bool) : Table.wfOr (t.filter q) d = true := by
  simp only [Table.wfOr, Bool.and_eq_true, List.all_eq_true] at w ⊢
  exact ⟨Table.risingFrom_filter q w.1, fun e he => w.2 e (List.mem_of_mem_filter he)⟩

theorem Table.wf_of_wfOr {α : Type} [DecidableEq α] {t : Table α} {d : α} (w : Table.wfOr t d = true) :
    Table.wf t = true := by
  simp only [Table.wfOr, Bool.and_eq_true] at w
  exact w.1

/-- Changing every dispatch record keeps the canonical form of their table. -/
theorem mapRecords_wfOr {t : Table DispatchRecord} (w : Table.wfOr t DispatchRecord.reset = true)
    (f : DispatchRecord → DispatchRecord) : Table.wfOr (mapRecords t f) DispatchRecord.reset = true := by
  simp only [Table.wfOr, Bool.and_eq_true, List.all_eq_true, decide_eq_true_eq]
  refine ⟨Table.risingFrom_filterMap _ (fun e y hy => ?_) (Table.wf_of_wfOr w), fun y hy => ?_⟩
  · split at hy
    · simp at hy
    · cases hy; rfl
  · simp only [mapRecords, List.mem_filterMap] at hy
    obtain ⟨e, _, hy⟩ := hy
    split at hy
    · simp at hy
    · next h => cases hy; exact h

/-- Writing entry after entry keeps the canonical form. -/
theorem Table.wfOr_foldl_writeOr {α β : Type} [DecidableEq α] {d : α} (key : β → Nat) (value : Table α → β → α)
    (l : List β) {t : Table α} (w : Table.wfOr t d = true) :
    Table.wfOr (l.foldl (fun t e => Table.writeOr t d (key e) (value t e)) t) d = true := by
  induction l generalizing t with
  | nil => exact w
  | cons e l ih => exact ih (Table.wfOr_writeOr w _ _)

/-! ## Reading the fleet after a write -/

@[simp] theorem State.siteAt_setSite_same (s : State) (slot : Nat) (x : Site) : (s.setSite slot x).siteAt slot = some x :=
  Table.find_put_same _ _ _

theorem State.siteAt_setSite_other (s : State) {slot k : Nat} (h : k ≠ slot) (x : Site) :
    (s.setSite slot x).siteAt k = s.siteAt k :=
  Table.find_put_other _ h _

@[simp] theorem State.setSite_feeders (s : State) (slot : Nat) (x : Site) :
    (s.setSite slot x).fleet.feeders = s.fleet.feeders := rfl

@[simp] theorem State.slotOf_mapSite_same (s : State) (number slot : Nat) :
    (s.mapSite number slot).slotOf number = some slot := Table.find_put_same _ _ _

theorem State.slotOf_mapSite_other (s : State) {number n : Nat} (h : n ≠ number) (slot : Nat) :
    (s.mapSite number slot).slotOf n = s.slotOf n := Table.find_put_other _ h _

theorem State.slotOf_unmapSite_same {s : State} (w : Table.wf s.fleet.siteMap = true) (number : Nat) :
    (s.unmapSite number).slotOf number = none := Table.find_drop_same w number

theorem State.slotOf_unmapSite_other {s : State} (w : Table.wf s.fleet.siteMap = true) {number n : Nat}
    (h : n ≠ number) : (s.unmapSite number).slotOf n = s.slotOf n := Table.find_drop_other w h

theorem State.feeder_setFeeder {s : State} (w : Table.wf s.fleet.feeders = true) (f g : Nat) (x : Feeder) :
    (s.setFeeder f x).feeder g = if g = f then x else s.feeder g := by
  split
  · next h => subst h; exact Table.readOr_writeOr_same w _ _
  · next h => exact Table.readOr_writeOr_other w h _

theorem State.feeder_countUp {s : State} (w : Table.wf s.fleet.feeders = true) (f g : Nat) :
    (s.countUp f).feeder g =
      { s.feeder g with siteCount := (s.feeder g).siteCount + if g = f then 1 else 0 } := by
  rw [State.countUp, State.feeder_setFeeder w]
  split
  · next h => subst h; rfl
  · rfl

theorem State.feeder_countDown {s : State} (w : Table.wf s.fleet.feeders = true) (f g : Nat) :
    (s.countDown f).feeder g =
      { s.feeder g with siteCount := (s.feeder g).siteCount - if g = f then 1 else 0 } := by
  rw [State.countDown, State.feeder_setFeeder w]
  split
  · next h => subst h; rfl
  · rfl

theorem State.wfOr_setFeeder {s : State} (w : Table.wfOr s.fleet.feeders Feeder.reset = true) (f : Nat) (x : Feeder) :
    Table.wfOr (s.setFeeder f x).fleet.feeders Feeder.reset = true := Table.wfOr_writeOr w f x

/-! ## What keeps the fleet's relations (R10, R18) -/

/-- The fleet's relations speak of the Fleet Table alone. -/
theorem fleetHeld_of_fleet_eq {s t : State} (h : t.fleet = s.fleet) (held : s.fleetHeld) : t.fleetHeld := by
  simpa only [State.fleetHeld, State.slotOf, State.siteAt, State.feeder, h] using held

/-- The order tables' relations speak of the dispatch records and the commitments alone. -/
theorem tablesHeld_of_eq {s t : State} (hr : t.allocation.records = s.allocation.records)
    (hc : t.book.commitments = s.book.commitments) (held : s.tablesHeld) : t.tablesHeld := by
  simpa only [State.tablesHeld, hr, hc] using held

/-- A mapped number is that of the site in its slot. -/
theorem State.fleetHeld.siteNumber_eq {s : State} (held : s.fleetHeld) {number slot : Nat} {x : Site}
    (hn : s.slotOf number = some slot) (hx : s.siteAt slot = some x) : x.static.siteNumber = number := by
  obtain ⟨_, _, _, maps, _⟩ := held
  obtain ⟨y, hy, hyn⟩ := (maps number slot).1 hn
  rw [hx] at hy
  cases hy
  exact hyn

/-- The number of an occupied slot's site is mapped to the slot. -/
theorem State.fleetHeld.slotOf_eq {s : State} (held : s.fleetHeld) {slot : Nat} {x : Site}
    (hx : s.siteAt slot = some x) : s.slotOf x.static.siteNumber = some slot := by
  obtain ⟨_, _, _, maps, _⟩ := held
  exact (maps _ _).2 ⟨x, hx, rfl⟩

/-- R18: the feeder an occupied slot names counts at least one site. -/
theorem State.fleetHeld.siteCount_pos {s : State} (held : s.fleetHeld) {slot : Nat} {x : Site}
    (hx : s.siteAt slot = some x) : 0 < (s.feeder x.static.feeder).siteCount := by
  obtain ⟨_, _, _, _, counts⟩ := held
  have := Table.length_filter_drop (fun e : Nat × Site => decide (e.2.static.feeder = x.static.feeder)) hx
  rw [counts]
  simp only [decide_true, if_true] at this
  omega

/-- The fleet's relations after the site in slot `slot` was replaced by `y` and its number and feeder booked over. -/
theorem fleetHeld_of_replaced {s t : State} {slot : Nat} {x y : Site} (held : s.fleetHeld) (hx : s.siteAt slot = some x)
    (sites : t.fleet.sites = Table.put s.fleet.sites slot y) (map : Table.wf t.fleet.siteMap = true)
    (feeders : Table.wfOr t.fleet.feeders Feeder.reset = true)
    (numbers : ∀ n k, t.slotOf n = some k ↔
      if n = y.static.siteNumber then k = slot else n ≠ x.static.siteNumber ∧ s.slotOf n = some k)
    (counts : ∀ f, (t.feeder f).siteCount + (if x.static.feeder = f then 1 else 0) =
      (s.feeder f).siteCount + if y.static.feeder = f then 1 else 0)
    (own : s.slotOf y.static.siteNumber = none ∨ s.slotOf y.static.siteNumber = some slot) : t.fleetHeld := by
  have held' := held
  obtain ⟨wsites, _, _, maps, old⟩ := held
  have read (k : Nat) : t.siteAt k = if k = slot then some y else s.siteAt k := by
    simp only [State.siteAt, sites]
    split
    · next h => subst h; exact Table.find_put_same _ _ _
    · next h => exact Table.find_put_other _ h _
  refine ⟨by rw [sites]; exact Table.wf_put wsites _ _, map, feeders, fun n k => ?_, fun f => ?_⟩
  · rw [numbers, read]
    by_cases hk : k = slot
    · subst hk
      rw [if_pos rfl]
      by_cases hn : n = y.static.siteNumber
      · simp [hn]
      · rw [if_neg hn]
        constructor
        · rintro ⟨hne, hs⟩
          exact absurd (held'.siteNumber_eq hs hx).symm hne
        · rintro ⟨z, hz, hzn⟩
          cases hz
          exact absurd hzn.symm hn
    · rw [if_neg hk, ← maps]
      by_cases hn : n = y.static.siteNumber
      · subst hn
        rw [if_pos rfl]
        constructor
        · intro h; exact absurd h hk
        · intro h
          rcases own with h0 | h0 <;> rw [h0] at h
          · cases h
          · cases h; exact absurd rfl hk
      · rw [if_neg hn]
        refine ⟨fun h => h.2, fun h => ⟨?_, h⟩⟩
        rintro rfl
        rw [held'.slotOf_eq hx] at h
        cases h
        exact hk rfl
  · have := Table.length_filter_put_old (fun e : Nat × Site => decide (e.2.static.feeder = f)) hx y
    have h1 := counts f
    have h2 := old f
    rw [sites]
    simp only [decide_eq_true_eq] at this
    omega

/-- A site that keeps its number and its feeder keeps the fleet's relations. -/
theorem setSite_fleetHeld {s : State} {slot : Nat} {x y : Site} (hx : s.siteAt slot = some x)
    (hn : y.static.siteNumber = x.static.siteNumber) (hf : y.static.feeder = x.static.feeder) (held : s.fleetHeld) :
    (s.setSite slot y).fleetHeld := by
  have own := held.slotOf_eq hx
  have held' := held
  obtain ⟨_, wmap, wfeeders, maps, _⟩ := held
  refine fleetHeld_of_replaced held' hx rfl wmap wfeeders (fun n k => ?_) (fun f => ?_) (.inr (by rw [hn]; exact own))
  · change s.slotOf n = some k ↔ _
    rw [hn]
    split
    · next h => subst h; rw [own]; simp [eq_comm]
    · next h => simp [h]
  · rw [hf]; rfl

/-- Sites that all keep their static fields keep the fleet's relations. -/
theorem mapSites_fleetHeld {s : State} (g : Site → Site) (hg : ∀ x, (g x).static = x.static) (held : s.fleetHeld) :
    State.fleetHeld { s with fleet := { s.fleet with sites := s.fleet.sites.map (fun e => (e.1, g e.2)) } } := by
  obtain ⟨wsites, wmap, wfeeders, maps, counts⟩ := held
  refine ⟨by simpa only [Table.wf, Table.risingFrom_map] using wsites, wmap, wfeeders, fun n k => ?_, fun f => ?_⟩
  · refine (maps n k).trans ?_
    simp only [State.siteAt, Table.find_map, Option.map_eq_some_iff]
    constructor
    · rintro ⟨x, hx, rfl⟩
      exact ⟨g x, ⟨x, hx, rfl⟩, by rw [hg]⟩
    · rintro ⟨_, ⟨x, hx, rfl⟩, rfl⟩
      exact ⟨x, hx, by rw [hg]⟩
  · refine (counts f).trans ?_
    simp only [List.filter_map, List.length_map, Function.comp_def, hg]

/-! ## Loads, removals and feeder writes -/

open Classical in
/-- R11: the checks of a load in their order. -/
theorem loadRefusal_eq (s : State) (slot : Nat) (f : StaticFields) :
    s.loadRefusal slot f =
      if f.inRange = false then some .badField
      else if ∃ j, s.slotOf f.siteNumber = some j ∧ j ≠ slot then some .duplicateSite
      else if ∃ x, s.siteAt slot = some x ∧ x.static.siteNumber ≠ f.siteNumber ∧ s.undispatched slot = false then
        some .siteDispatched
      else none := by
  unfold State.loadRefusal
  cases s.slotOf f.siteNumber <;> cases s.siteAt slot <;> simp

/-- R11: what a load that is not refused knows of its slot and number. -/
theorem loadRefusal_none {s : State} {slot : Nat} {f : StaticFields} (h : s.loadRefusal slot f = none) :
    f.inRange = true ∧ (∀ j, s.slotOf f.siteNumber = some j → j = slot) ∧
    ∀ x, s.siteAt slot = some x → x.static.siteNumber ≠ f.siteNumber → s.undispatched slot = true := by
  rw [loadRefusal_eq] at h
  split_ifs at h with ranges mapped dispatched
  refine ⟨by simpa using ranges, fun j hj => ?_, fun x hx hne => ?_⟩
  · by_contra hne
    exact mapped ⟨j, hj, hne⟩
  · by_contra hd
    exact dispatched ⟨x, hx, hne, by simpa using hd⟩

/-- R12, R18: a loaded site is counted at feeder `g` and no more at feeder `f`. -/
def State.moveCount (s : State) (f g : Nat) : State := if f = g then s else (s.countDown f).countUp g

/-- R12: a load into a VACANT slot. -/
theorem loadSite_vacant {s : State} {slot : Nat} (h : s.siteAt slot = none) (f : StaticFields) :
    s.loadSite slot f = ((s.setSite slot (listedSite f)).mapSite f.siteNumber slot).countUp f.feeder := by
  simp [State.loadSite, h]

/-- R12: a load of the site number the slot holds. -/
theorem loadSite_same {s : State} {slot : Nat} {x : Site} (h : s.siteAt slot = some x) {f : StaticFields}
    (hn : x.static.siteNumber = f.siteNumber) :
    s.loadSite slot f =
      ((s.setSite slot { x with static := f, tagRun := if x.static.tag = f.tag then x.tagRun else 0 }).moveCount
        x.static.feeder f.feeder).signalExclusion slot (s.siteEligible x) := by
  simp [State.loadSite, h, hn, State.moveCount]

/-- R12: a load of another site number than the slot holds. -/
theorem loadSite_other {s : State} {slot : Nat} {x : Site} (h : s.siteAt slot = some x) {f : StaticFields}
    (hn : x.static.siteNumber ≠ f.siteNumber) :
    s.loadSite slot f =
      ((((s.setSite slot (listedSite f)).unmapSite x.static.siteNumber).mapSite f.siteNumber slot).moveCount
        x.static.feeder f.feeder).signalExclusion slot (s.siteEligible x) := by
  simp [State.loadSite, h, hn, State.moveCount]

theorem State.wfOr_countUp {s : State} (w : Table.wfOr s.fleet.feeders Feeder.reset = true) (f : Nat) :
    Table.wfOr (s.countUp f).fleet.feeders Feeder.reset = true := State.wfOr_setFeeder w _ _

theorem State.wfOr_countDown {s : State} (w : Table.wfOr s.fleet.feeders Feeder.reset = true) (f : Nat) :
    Table.wfOr (s.countDown f).fleet.feeders Feeder.reset = true := State.wfOr_setFeeder w _ _

theorem State.wfOr_moveCount {s : State} (w : Table.wfOr s.fleet.feeders Feeder.reset = true) (f g : Nat) :
    Table.wfOr (s.moveCount f g).fleet.feeders Feeder.reset = true := by
  unfold State.moveCount
  split
  · exact w
  · exact State.wfOr_countUp (State.wfOr_countDown w f) g

/-- R18: moving a count changes the Feeder Table's counts alone. -/
theorem State.moveCount_eq (s : State) (f g : Nat) :
    s.moveCount f g = { s with fleet := { s.fleet with feeders := (s.moveCount f g).fleet.feeders } } := by
  unfold State.moveCount
  split <;> rfl

/-- R18: the count falls at the old feeder and rises at the new one; nothing else of a feeder changes. -/
theorem State.feeder_moveCount {s : State} (w : Table.wfOr s.fleet.feeders Feeder.reset = true) (f g k : Nat) :
    (s.moveCount f g).feeder k = { s.feeder k with siteCount := ((s.moveCount f g).feeder k).siteCount } ∧
    (0 < (s.feeder f).siteCount → ((s.moveCount f g).feeder k).siteCount + (if f = k then 1 else 0) =
      (s.feeder k).siteCount + if g = k then 1 else 0) := by
  unfold State.moveCount
  split
  · next h => subst h; exact ⟨rfl, fun _ => rfl⟩
  · next hne =>
    rw [State.feeder_countUp (Table.wf_of_wfOr (State.wfOr_countDown w f)), State.feeder_countDown (Table.wf_of_wfOr w)]
    refine ⟨rfl, fun pos => ?_⟩
    simp only [eq_comm (a := k)]
    by_cases hf : f = k
    · subst hf
      simp only [if_true, if_neg (Ne.symm hne)]
      omega
    · simp [hf]

@[simp] theorem listedSite_static (f : StaticFields) : (listedSite f).static = f := rfl

/-- R10, R12, R18: a load into a VACANT slot, of a number that no slot holds, keeps the fleet's relations. -/
theorem loadSite_vacant_fleetHeld {s : State} {slot : Nat} {f : StaticFields} (hx : s.siteAt slot = none)
    (mapped : ∀ j, s.slotOf f.siteNumber = some j → j = slot) (held : s.fleetHeld) :
    (s.loadSite slot f).fleetHeld := by
  obtain ⟨wsites, wmap, wfeeders, maps, counts⟩ := held
  have vacant (n : Nat) : s.slotOf n ≠ some slot := fun hs => by
    obtain ⟨x, hx', _⟩ := (maps _ _).1 hs
    rw [hx] at hx'
    cases hx'
  have unmapped (k : Nat) : s.slotOf f.siteNumber ≠ some k := fun hs => vacant _ (by rw [hs, mapped k hs])
  rw [loadSite_vacant hx]
  have loaded : Table.wfOr ((s.setSite slot (listedSite f)).mapSite f.siteNumber slot).fleet.feeders Feeder.reset = true :=
    wfeeders
  refine ⟨Table.wf_put wsites _ _, Table.wf_put wmap _ _, State.wfOr_countUp loaded _, fun n k => ?_, fun g => ?_⟩
  · change (s.mapSite f.siteNumber slot).slotOf n = some k ↔ ∃ x, (s.setSite slot (listedSite f)).siteAt k = some x ∧ _
    by_cases hk : k = slot
    · subst hk
      by_cases hn : n = f.siteNumber
      · subst hn; simp
      · simp [State.slotOf_mapSite_other _ hn, vacant, Ne.symm hn]
    · rw [State.siteAt_setSite_other _ hk, ← maps]
      by_cases hn : n = f.siteNumber
      · subst hn; simp [unmapped, Ne.symm hk]
      · rw [State.slotOf_mapSite_other _ hn]
  · have grown := Table.length_filter_put_new (fun e : Nat × Site => decide (e.2.static.feeder = g)) hx (listedSite f)
    rw [State.feeder_countUp (Table.wf_of_wfOr loaded)]
    refine Eq.trans ?_ grown.symm
    rw [← counts g]
    simp [State.feeder, State.mapSite, eq_comm]

/-- R10, R12, R18: a load of the number the slot holds keeps the fleet's relations. -/
theorem loadSite_same_fleetHeld {s : State} {slot : Nat} {f : StaticFields} {x : Site} (hx : s.siteAt slot = some x)
    (hn : x.static.siteNumber = f.siteNumber) (held : s.fleetHeld) : (s.loadSite slot f).fleetHeld := by
  have own := held.slotOf_eq hx
  have ⟨_, wmap, wfeeders, _, _⟩ := held
  rw [loadSite_same hx hn]
  refine fleetHeld_of_fleet_eq (State.signalExclusion_fleet _ _ _) (fleetHeld_of_replaced held hx
    (by rw [State.moveCount_eq]; rfl) (by rw [State.moveCount_eq]; exact wmap)
    (State.wfOr_moveCount (s := s.setSite slot _) wfeeders _ _) (fun n k => ?_)
    (fun g => (State.feeder_moveCount (s := s.setSite slot _) wfeeders _ _ g).2 (held.siteCount_pos hx))
    (.inr (by rw [← hn]; exact own)))
  rw [State.moveCount_eq]
  change s.slotOf n = some k ↔ _
  by_cases e : n = f.siteNumber
  · subst e; rw [hn] at own; simp [own, eq_comm]
  · simp [e, hn]

/-- R10, R12, R18: a load of another number, which no other slot holds, keeps the fleet's relations. -/
theorem loadSite_other_fleetHeld {s : State} {slot : Nat} {f : StaticFields} {x : Site} (hx : s.siteAt slot = some x)
    (hn : x.static.siteNumber ≠ f.siteNumber) (mapped : ∀ j, s.slotOf f.siteNumber = some j → j = slot)
    (held : s.fleetHeld) : (s.loadSite slot f).fleetHeld := by
  have ⟨_, wmap, wfeeders, _, _⟩ := held
  have loaded : Table.wfOr (((s.setSite slot (listedSite f)).unmapSite x.static.siteNumber).mapSite f.siteNumber
    slot).fleet.feeders Feeder.reset = true := wfeeders
  rw [loadSite_other hx hn]
  refine fleetHeld_of_fleet_eq (State.signalExclusion_fleet _ _ _) (fleetHeld_of_replaced held hx
    (by rw [State.moveCount_eq]; rfl) (by rw [State.moveCount_eq]; exact Table.wf_put (Table.wf_drop wmap _) _ _)
    (State.wfOr_moveCount loaded _ _) (fun n k => ?_)
    (fun g => (State.feeder_moveCount loaded _ _ g).2 (held.siteCount_pos hx)) ?_)
  · rw [State.moveCount_eq]
    change ((s.unmapSite x.static.siteNumber).mapSite f.siteNumber slot).slotOf n = some k ↔ _
    by_cases e : n = f.siteNumber
    · subst e; simp [eq_comm]
    · rw [State.slotOf_mapSite_other _ e]
      by_cases e' : n = x.static.siteNumber
      · subst e'; simp [State.slotOf_unmapSite_same wmap, e]
      · simp [State.slotOf_unmapSite_other wmap e', e, e']
  · cases hf : s.slotOf f.siteNumber with
    | none => exact .inl hf
    | some j => exact .inr (by rw [← mapped j hf]; exact hf)

/-- R10, R12, R18: a load that passed its checks keeps the fleet's relations. -/
theorem loadSite_fleetHeld {s : State} {slot : Nat} {f : StaticFields} (h : s.loadRefusal slot f = none)
    (held : s.fleetHeld) : (s.loadSite slot f).fleetHeld := by
  obtain ⟨_, mapped, _⟩ := loadRefusal_none h
  cases hx : s.siteAt slot with
  | none => exact loadSite_vacant_fleetHeld hx mapped held
  | some x =>
    by_cases hn : x.static.siteNumber = f.siteNumber
    · exact loadSite_same_fleetHeld hx hn held
    · exact loadSite_other_fleetHeld hx hn mapped held

/-- R10, R16, R18: a removal keeps the fleet's relations. -/
theorem removeSite_fleetHeld {s t : State} {slot : Nat} {x : Site} (hx : s.siteAt slot = some x)
    (h : s.removeSite slot x = .ok t) (held : s.fleetHeld) : t.fleetHeld := by
  have held' := held
  obtain ⟨wsites, wmap, wfeeders, maps, counts⟩ := held
  unfold State.removeSite at h
  split at h
  · cases h
    refine fleetHeld_of_fleet_eq (State.signalExclusion_fleet _ _ _) ?_
    refine ⟨Table.wf_drop wsites _, Table.wf_drop wmap _, State.wfOr_countDown wfeeders _, fun n k => ?_, fun g => ?_⟩
    · change State.slotOf (s.unmapSite x.static.siteNumber) n = some k ↔
        ∃ y, Table.find (Table.drop s.fleet.sites slot) k = some y ∧ _
      by_cases hk : k = slot
      · subst hk
        rw [Table.find_drop_same wsites]
        refine ⟨fun hs => ?_, by simp⟩
        by_cases hn : n = x.static.siteNumber
        · subst hn; rw [State.slotOf_unmapSite_same wmap] at hs; cases hs
        · rw [State.slotOf_unmapSite_other wmap hn] at hs
          exact absurd (held'.siteNumber_eq hs hx).symm hn
      · rw [Table.find_drop_other wsites hk]
        by_cases hn : n = x.static.siteNumber
        · subst hn
          rw [State.slotOf_unmapSite_same wmap]
          refine ⟨by simp, fun hy => ?_⟩
          have := (maps _ k).2 hy
          rw [held'.slotOf_eq hx] at this
          exact absurd (Option.some.inj this).symm hk
        · rw [State.slotOf_unmapSite_other wmap hn]
          exact maps n k
    · have fallen := Table.length_filter_drop (fun e : Nat × Site => decide (e.2.static.feeder = g)) hx
      have old := counts g
      have counted := State.feeder_countDown (s := ({ s.dropReport slot with
        fleet := { s.fleet with sites := Table.drop s.fleet.sites slot } }.unmapSite x.static.siteNumber))
        (Table.wf_of_wfOr wfeeders) x.static.feeder g
      rw [counted]
      change (s.feeder g).siteCount - (if g = x.static.feeder then 1 else 0) = (List.filter _ (Table.drop s.fleet.sites slot)).length
      rw [old, ← fallen]
      simp [eq_comm (a := g)]
  · cases h

/-- R17: a feeder write keeps the fleet's relations. -/
theorem writeFeeder_fleetHeld {s : State} (f up down : Nat) (enabled : Bool) (held : s.fleetHeld) :
    (s.writeFeeder f up down enabled).fleetHeld := by
  obtain ⟨wsites, wmap, wfeeders, maps, counts⟩ := held
  have written : State.fleetHeld (s.setFeeder f { s.feeder f with capUp := up, capDown := down, enabled := enabled }) :=
    ⟨wsites, wmap, State.wfOr_setFeeder wfeeders _ _, maps, fun g => by
      rw [State.feeder_setFeeder (Table.wf_of_wfOr wfeeders)]
      refine Eq.trans ?_ (counts g)
      split
      · next h => subst h; rfl
      · rfl⟩
  unfold State.writeFeeder
  dsimp only
  split
  · exact fleetHeld_of_fleet_eq (State.trigger_fleet _) written
  · exact written

/-! ## The reset state -/

/-- The banks of the reset state, for every product. -/
theorem reset_products (p : Product) : State.reset.products.get p =
    { active := Bank.reset p, pendingBank := Bank.reset p, staged := false } := PerProduct.get_ofFn _ p

theorem reset_bank (p : Product) : State.reset.bank p = Bank.reset p := by rw [State.bank, reset_products]

theorem reset_act (p : Product) : State.reset.act p = ActRecord.reset := PerProduct.get_all _ p

theorem reset_commitments (p : Product) : State.reset.book.commitments.get p = [] := PerProduct.get_all _ p

theorem reset_fleetHeld : State.reset.fleetHeld :=
  ⟨rfl, rfl, rfl, fun number slot => by simp [State.slotOf, State.siteAt, State.reset], fun _ => rfl⟩

theorem reset_tablesHeld : State.reset.tablesHeld := ⟨rfl, fun p => by rw [reset_commitments]; rfl⟩

end Sys2Proof.Machine

namespace Sys2Proof.Machine

/-! ## What most operations leave steady

`Steady` is the frame of every operation that neither writes the Fleet Table, nor sets a clock or a parameter, nor
works a link: it may change the products, the census, the book, the records and the egress as their rules say. -/

/-- R159: the heartbeat timer stands as it stood, or was set when an AVAILABILITY frame was queued just now. -/
def HeartbeatKept (s t : State) : Prop :=
  (t.monitor.heartbeatExpiry = s.monitor.heartbeatExpiry ∧ t.monitor.heartbeatBase = s.monitor.heartbeatBase) ∨
  (t.monitor.heartbeatExpiry = s.localTime + s.params.heartbeatInterval * 1000 ∧
    t.monitor.heartbeatBase = s.localTime)

/-- The fleet, the parameters, local time, the clock, the last sample, the Frame Engines (but for the Grid summary)
and the interval timer stand as they stood, and the order tables keep their form. -/
structure Steady (s t : State) : Prop where
  fleet : t.fleet = s.fleet
  params : t.params = s.params
  localTime : t.localTime = s.localTime
  clock : t.time.clock = s.time.clock
  sample : t.activation.sample = s.activation.sample
  fleetEngine : t.links.fleet = s.links.fleet
  meterEngine : t.links.meter = s.links.meter
  gridEngine : t.links.grid = { s.links.grid with summary := t.links.grid.summary }
  intervalStart : t.monitor.intervalStart = s.monitor.intervalStart
  intervalExpiry : t.monitor.intervalExpiry = s.monitor.intervalExpiry
  heartbeat : HeartbeatKept s t
  tables : s.tablesHeld → t.tablesHeld

theorem Steady.refl (s : State) : Steady s s :=
  ⟨rfl, rfl, rfl, rfl, rfl, rfl, rfl, rfl, rfl, rfl, .inl ⟨rfl, rfl⟩, id⟩

theorem Steady.trans {s t u : State} (h : Steady s t) (k : Steady t u) : Steady s u where
  fleet := k.fleet.trans h.fleet
  params := k.params.trans h.params
  localTime := k.localTime.trans h.localTime
  clock := k.clock.trans h.clock
  sample := k.sample.trans h.sample
  fleetEngine := k.fleetEngine.trans h.fleetEngine
  meterEngine := k.meterEngine.trans h.meterEngine
  gridEngine := by rw [k.gridEngine, h.gridEngine]
  intervalStart := k.intervalStart.trans h.intervalStart
  intervalExpiry := k.intervalExpiry.trans h.intervalExpiry
  heartbeat := by
    rcases k.heartbeat with ⟨expiry, base⟩ | ⟨expiry, base⟩
    · rcases h.heartbeat with ⟨expiry', base'⟩ | ⟨expiry', base'⟩
      · exact .inl ⟨expiry.trans expiry', base.trans base'⟩
      · exact .inr ⟨expiry.trans expiry', base.trans base'⟩
    · exact .inr ⟨by rw [expiry, h.localTime, h.params], by rw [base, h.localTime]⟩
  tables := fun held => k.tables (h.tables held)

theorem Steady.foldl {α : Type} (f : State → α → State) (h : ∀ s a, Steady s (f s a)) (l : List α) (s : State) :
    Steady s (l.foldl f s) := by
  induction l generalizing s with
  | nil => exact .refl s
  | cons a l ih => exact (h s a).trans (ih _)

/-- A change that touches none of the blocks `Steady` names. -/
theorem Steady.of_eq {s t : State} (fleet : t.fleet = s.fleet) (params : t.params = s.params)
    (localTime : t.localTime = s.localTime) (clock : t.time.clock = s.time.clock)
    (sample : t.activation.sample = s.activation.sample) (fleetEngine : t.links.fleet = s.links.fleet)
    (meterEngine : t.links.meter = s.links.meter) (gridEngine : t.links.grid = s.links.grid)
    (monitor : t.monitor = s.monitor) (tables : s.tablesHeld → t.tablesHeld) : Steady s t :=
  ⟨fleet, params, localTime, clock, sample, fleetEngine, meterEngine, by rw [gridEngine], by rw [monitor], by rw [monitor],
    .inl (by simp [monitor]), tables⟩

theorem EgressOnly.steady {s t : State} (h : EgressOnly s t) : Steady s t :=
  ⟨h.fleet, h.params, by rw [State.localTime, h.time]; rfl, by rw [h.time], by rw [h.activation], h.fleetEngine,
    h.meterEngine, h.gridEngine, by rw [h.monitor], by rw [h.monitor], .inl (by simp [h.monitor]),
    tablesHeld_of_eq (by rw [h.allocation]) h.commitments⟩

/-! ### One block changed -/

/-- The order tables as they stand keep their form. -/
theorem census_steady (s : State) (c : Census) : Steady s { s with census := c } :=
  .of_eq rfl rfl rfl rfl rfl rfl rfl rfl rfl id

theorem management_steady (s : State) (m : Management) : Steady s (s.setManagement m) :=
  .of_eq rfl rfl rfl rfl rfl rfl rfl rfl rfl id

theorem products_steady (s : State) (c : PerProduct ProductContext) : Steady s { s with products := c } :=
  .of_eq rfl rfl rfl rfl rfl rfl rfl rfl rfl id

theorem setProduct_steady (s : State) (p : Product) (c : ProductContext) : Steady s (s.setProduct p c) :=
  products_steady s _

/-- The book changed, its commitments in canonical form. -/
theorem book_steady (s : State) (b : Book)
    (h : (∀ p, Table.wfOr (s.book.commitments.get p) 0 = true) → ∀ p, Table.wfOr (b.commitments.get p) 0 = true) :
    Steady s { s with book := b } :=
  .of_eq rfl rfl rfl rfl rfl rfl rfl rfl rfl (fun ⟨records, commitments⟩ => ⟨records, h commitments⟩)

/-- The Allocation Engine changed, its dispatch records in canonical form. -/
theorem allocation_steady (s : State) (a : Allocation)
    (h : Table.wfOr s.allocation.records DispatchRecord.reset = true →
      Table.wfOr a.records DispatchRecord.reset = true) : Steady s { s with allocation := a } :=
  .of_eq rfl rfl rfl rfl rfl rfl rfl rfl rfl (fun ⟨records, commitments⟩ => ⟨h records, commitments⟩)

theorem setDispatch_steady (s : State) (slot : Nat) (d : DispatchRecord) : Steady s (s.setDispatch slot d) :=
  allocation_steady s _ (fun w => Table.wfOr_writeOr w slot d)

theorem mapOffer_steady (s : State) (id : Nat) (f : Offer → Offer) : Steady s (s.mapOffer id f) := book_steady s _ fun h => h

theorem deleteOffer_steady (s : State) (id : Nat) : Steady s (s.deleteOffer id) := book_steady s _ fun h => h

theorem clearReservation_steady (s : State) (id : Nat) : Steady s (s.clearReservation id) := book_steady s _ fun h => h

theorem reserve_steady (s : State) (x : Option Nat) : Steady s (s.reserve x) := book_steady s _ fun h => h

theorem addOffer_steady (s : State) (o : Offer) : Steady s (s.addOffer o) := book_steady s _ fun h => h

theorem retire_steady (s : State) (r : Option (Nat × Nat)) : Steady s (s.retire r) := book_steady s _ fun h => h

theorem commit_steady (s : State) (p : Product) (w q : Nat) : Steady s (s.commit p w q) :=
  book_steady s _ fun h r => by
    simp only [PerProduct.get_set]
    split
    · exact Table.wfOr_writeOr (h p) _ _
    · exact h r

theorem freshRing_steady (s : State) (w : Nat) : Steady s (s.freshRing w) :=
  book_steady s _ fun _ p => by simp [Table.wfOr, Table.wf, Table.risingFrom]

theorem recycleRing_steady (s : State) (w : Nat) : Steady s (s.recycleRing w) :=
  book_steady s _ fun h p => by
    rw [PerProduct.get_ofFn]
    exact Table.wfOr_filter (h p) _

theorem mapActs_steady (s : State) (f : Product → ActRecord) : Steady s (s.mapActs f) :=
  .of_eq rfl rfl rfl rfl rfl rfl rfl rfl rfl id

theorem setAct_steady (s : State) (p : Product) (r : ActRecord) : Steady s (s.setAct p r) :=
  .of_eq rfl rfl rfl rfl rfl rfl rfl rfl rfl id

theorem registerTime_steady (s : State) (p : Product) (t : Option Nat) : Steady s (s.registerTime p t) :=
  .of_eq rfl rfl rfl rfl rfl rfl rfl rfl rfl id

theorem removeOfferEntry_steady (s : State) (e : OfferEntry) : Steady s (s.removeOfferEntry e) :=
  (removeOfferEntry_egress s e).steady

/-- The Monitor's products changed. -/
theorem monitorProducts_steady (s : State) (m : PerProduct MonitorProduct) :
    Steady s { s with monitor := { s.monitor with products := m } } :=
  ⟨rfl, rfl, rfl, rfl, rfl, rfl, rfl, rfl, rfl, rfl, .inl ⟨rfl, rfl⟩, id⟩

theorem setMon_steady (s : State) (p : Product) (m : MonitorProduct) : Steady s (s.setMon p m) :=
  monitorProducts_steady s _

/-! ### Handing on -/

theorem post_steady (s : State) (n : Notice) : Steady s (s.post n) := (post_egress s n).steady

theorem ackFor_steady (s : State) (p : Product) (id : Nat) (o : AckOutcome) (t : Option Nat) :
    Steady s (s.ackFor p id o t) := (ackFor_egress s p id o t).steady

theorem startPass_steady (s : State) : Steady s s.startPass := allocation_steady s _ id

theorem trigger_steady (s : State) : Steady s s.trigger := by
  unfold State.trigger
  split
  · exact allocation_steady s _ id
  · exact startPass_steady s

theorem signalExclusion_steady (s : State) (slot : Nat) (b : Bool) : Steady s (s.signalExclusion slot b) := by
  unfold State.signalExclusion
  split
  · exact trigger_steady s
  · exact .refl s

section EvaluateRelation
variable {R : State → State → Prop} (refl : ∀ s, R s s) (trans : ∀ {s t u}, R s t → R t u → R s u)
  (post : ∀ (s : State) (n : Notice), R s (s.post n))
include refl trans post

/-- R157: a relation that posting keeps, the notices of a change of conditions keep. -/
theorem postConditionChange_rel (s : State) (p : Product) (a b : CondSet) : R s (s.postConditionChange p a b) := by
  have noted (t : State) (a b c : CondSet) : R t (t.noteChange p a b c) := by
    unfold State.noteChange
    split
    · exact post _ _
    · exact refl _
  have short (t : State) (entered : Bool) : R t (t.noteShort p entered) := by
    unfold State.noteShort
    split
    · split
      · exact post _ _
      · exact refl _
    · exact refl _
  have cleared (t : State) (left : Bool) : R t (t.noteCleared p left) := by
    unfold State.noteCleared
    split
    · exact post _ _
    · exact refl _
  exact trans (trans (noted _ _ _ _) (short _ _)) (cleared _ _)

/-- R156: a relation that posting, a change of the Monitor's products and the queueing of an AVAILABILITY frame keep, an
evaluation keeps. -/
theorem evaluate_rel
    (products : ∀ (s : State) (m : PerProduct MonitorProduct), R s { s with monitor := { s.monitor with products := m } })
    (queue : ∀ s : State, R s s.queueAvailability) (s : State) (heartbeat : Bool) : R s (s.evaluate heartbeat) := by
  have changes (l : List Product) : ∀ t : State, R t (l.foldl (fun t p =>
      t.postConditionChange p (s.mon p).conditions (s.conditionsOf p)) t) := by
    induction l with
    | nil => exact refl
    | cons p l ih => exact fun t => trans (postConditionChange_rel refl trans post t p _ _) (ih _)
  have redeclared (t : State) (h : R s t) : R s t.redeclared := trans h (products t _)
  have recomputed : R s s.recomputed := products s _
  have declared := redeclared _ (trans recomputed (changes allProducts _))
  unfold State.evaluate
  dsimp only
  split
  · exact trans declared (queue _)
  · exact declared

end EvaluateRelation

theorem queueAvailability_steady (s : State) : Steady s s.queueAvailability := by
  have started : Steady s { s with monitor := { s.monitor with
      heartbeatExpiry := s.localTime + s.params.heartbeatInterval * 1000, heartbeatBase := s.localTime } } :=
    ⟨rfl, rfl, rfl, rfl, rfl, rfl, rfl, rfl, rfl, rfl, .inr ⟨rfl, rfl⟩, id⟩
  exact started.trans (placeAvailability_egress _ _).steady

theorem evaluate_steady (s : State) (b : Bool) : Steady s (s.evaluate b) :=
  evaluate_rel .refl .trans post_steady monitorProducts_steady queueAvailability_steady s b

theorem signalLost_steady (s : State) (p : Product) (b : Bool) : Steady s (s.signalLost p b) :=
  (setMon_steady s p _).trans (evaluate_steady _ _)

theorem handOn_steady (s old : State) (c : Cause) : Steady s (s.handOn old c) := by
  unfold State.handOn
  refine Steady.trans (t := if s.targetsChanged old then s.trigger else s) ?_ (Steady.trans (.foldl _ (fun t p => ?_) _ _)
    (.foldl _ (fun t p => ?_) _ _))
  · split
    · exact trigger_steady s
    · exact .refl s
  · split
    · exact signalLost_steady _ _ _
    · exact .refl t
  · split
    · exact post_steady _ _
    · exact .refl t

end Sys2Proof.Machine

namespace Sys2Proof.Machine

/-! ### The Census Engine -/

theorem startRun_steady (s : State) (k : CensusKind) : Steady s (s.startRun k) := by
  cases k <;> exact census_steady s _

theorem requestFull_steady (s : State) : Steady s s.requestFull.1 := by
  unfold State.requestFull
  split
  · exact census_steady s _
  · exact startRun_steady s .full

theorem requestSelect_steady (s : State) (f : Nat) : Steady s (s.requestSelect f).1 := by
  unfold State.requestSelect
  split
  · split
    · exact .refl s
    · split
      · exact census_steady s _
      · split
        · exact .refl s
        · exact census_steady s _
  · split
    · exact startRun_steady s .full
    · exact startRun_steady s (.select _)

theorem requestAfterSwitch_steady (s : State) : Steady s s.requestAfterSwitch :=
  (census_steady s _).trans (requestFull_steady _)

theorem censusTimerExpires_steady (s : State) : Steady s s.censusTimerExpires :=
  (requestFull_steady s).trans (census_steady _ _)

theorem startPending_steady (s : State) : Steady s s.startPending := by
  unfold State.startPending
  split
  · exact (census_steady s _).trans (startRun_steady _ _)
  · split
    · exact (census_steady s _).trans (startRun_steady _ _)
    · exact census_steady s _

theorem publish_steady (s : State) (run : CensusRun) : Steady s (s.publish run) :=
  ((((census_steady s _).trans (trigger_steady _)).trans (evaluate_steady _ _)).trans (post_steady _ _)).trans
    (startPending_steady _)

/-! ### The Allocation Engine -/

theorem sendFleet_steady (s : State) (o : Octets) : Steady s (s.sendFleet o) :=
  .of_eq rfl rfl rfl rfl rfl rfl rfl rfl rfl id

theorem feedFleet_steady (s : State) : Steady s s.feedFleet := by
  unfold State.feedFleet
  split
  · split
    · exact .refl s
    · split
      · exact allocation_steady s _ id
      · next e _ f rest _ =>
        exact ((sendFleet_steady s _).trans (.foldl _ (fun t _ => setDispatch_steady t _ _) f _)).trans
          (allocation_steady _ _ id)
  · exact .refl s

theorem beginRelease_steady (s : State) : Steady s s.beginRelease := by
  unfold State.beginRelease
  dsimp only
  split
  · exact allocation_steady s _ id
  · refine Steady.trans (allocation_steady s _ ?_) (feedFleet_steady _)
    exact id

theorem fleetWentDown_steady (s : State) : Steady s s.fleetWentDown :=
  allocation_steady s _ (fun w => mapRecords_wfOr w _)

theorem fleetCameUp_steady (s : State) : Steady s s.fleetCameUp := by
  unfold State.fleetCameUp
  split
  · exact allocation_steady s _ id
  · exact .refl s

theorem replaceByPass_steady (s : State) (l : PassLatch) : Steady s (s.replaceByPass l) :=
  allocation_steady s _ (fun w => Table.wfOr_foldl_writeOr (fun e : Nat × PerProduct Nat => e.1)
    (fun t e => { Table.readOr t DispatchRecord.reset e.1 with allocation := e.2, staged := offsetOf l e.2 }) _
    (mapRecords_wfOr w _))

theorem endPass_steady (s : State) (l : PassLatch) : Steady s (s.endPass l) := by
  have triggered (t : State) : Steady t (if t.newlyIneligible (runPass l).2 then t.trigger else t) := by
    split
    · exact trigger_steady t
    · exact .refl t
  have requested (t : State) : Steady t (if t.someSlotOwes || s.restaged t
      then { t with allocation := { t.allocation with requested := true } } else t) := by
    split
    · exact allocation_steady t _ id
    · exact .refl t
  have ended (t : State) : Steady t (if t.allocation.passPending then t.startPass
      else { t with allocation := { t.allocation with pass := none } }) := by
    split
    · exact startPass_steady t
    · exact allocation_steady t _ id
  unfold State.endPass
  extract_lets evaluated t _ u
  exact ((((replaceByPass_steady s l).trans (evaluate_steady _ false)).trans (triggered evaluated)).trans (requested t)).trans
    (ended u)

theorem confirmSlot_steady (s : State) (slot applied : Nat) : Steady s (s.confirmSlot slot applied) :=
  setDispatch_steady s _ _

theorem dropReport_steady (s : State) (slot : Nat) : Steady s (s.dropReport slot) := allocation_steady s _ id

theorem waitReport_steady (s : State) (slot : Nat) : Steady s (s.waitReport slot) := allocation_steady s _ id

/-! ### The Delivery Monitor -/

theorem alarmRule_steady (s : State) (p : Product) : Steady s (s.alarmRule p) := by
  unfold State.alarmRule
  dsimp only
  split
  · split
    · exact setMon_steady s _ _
    · exact ((setMon_steady s _ _).trans (post_steady _ _)).trans (evaluate_steady _ _)
  · exact .refl s

theorem measure_steady (s : State) (duration : Nat) (p : Product) : Steady s (s.measure duration p) := by
  have alarmed (t : State) (deficient : Bool) : Steady t (if deficient then t.alarmRule p else t) := by
    split
    · exact alarmRule_steady t p
    · exact .refl t
  unfold State.measure
  extract_lets requested delivered deficient t u
  exact ((setMon_steady s p _).trans (alarmed t deficient)).trans (placeReport_egress u p _).steady

theorem monitorBoundary_steady (s : State) (w : Nat) : Steady s (s.monitorBoundary w) :=
  (monitorProducts_steady s _).trans (evaluate_steady _ _)

theorem monitorFirstMark_steady (s : State) (w : Nat) : Steady s (s.monitorFirstMark w) :=
  (monitorProducts_steady s _).trans (evaluate_steady _ _)

theorem clearLatches_steady (s : State) : Steady s s.clearLatches := by
  unfold State.clearLatches
  dsimp only
  split
  · exact (monitorProducts_steady s _).trans (evaluate_steady _ _)
  · exact monitorProducts_steady s _

/-! ### The Activation Unit -/

theorem takeOrder_steady (s : State) (code id quantity time : Nat) : Steady s (s.takeOrder code id quantity time) := by
  unfold State.takeOrder
  split
  · exact (ackUnknown_egress s _ _ _).steady
  · next p _ =>
    split
    · exact ackFor_steady s _ _ _ _
    · split
      · exact ackFor_steady s _ _ _ _
      · refine Steady.trans (Steady.trans ?_ (ackFor_steady _ _ _ _ _)) (handOn_steady _ _ _)
        split
        · exact setAct_steady s _ _
        · exact (setAct_steady s _ _).trans (registerTime_steady _ _ _)

theorem arrival_steady (s : State) (p : Product) (time : Nat) : Steady s (s.arrival p time) := by
  have taken (r : ActRecord) (id : Nat) (o : AckOutcome) (t : Option Nat) :
      Steady s ((((s.setAct p r).registerTime p none).ackFor p id o t).handOn s .effectiveTime) :=
    (((setAct_steady s _ _).trans (registerTime_steady _ _ _)).trans (ackFor_steady _ _ _ _ _)).trans (handOn_steady _ _ _)
  unfold State.arrival
  split
  · exact .refl s
  · split
    · exact .refl s
    · dsimp only
      split <;> exact taken _ _ _ _

theorem takeEnd_steady (s : State) (code id : Nat) : Steady s (s.takeEnd code id) := by
  unfold State.takeEnd
  split
  · exact (ackUnknown_egress s _ _ _).steady
  · split
    · exact ackFor_steady s _ _ _ _
    · split
      · exact (((setAct_steady s _ _).trans (registerTime_steady _ _ _)).trans (ackFor_steady _ _ _ _ _)).trans
          (handOn_steady _ _ _)
      · exact ackFor_steady s _ _ _ _

theorem regradeSilence_steady (s : State) : Steady s s.regradeSilence :=
  (mapActs_steady s _).trans (handOn_steady _ _ _)

theorem activationBoundary_steady (s : State) (w : Nat) : Steady s (s.activationBoundary w) := by
  unfold State.activationBoundary
  refine Steady.trans (Steady.trans (mapActs_steady s _) (.foldl _ (fun t p => ?_) _ _)) (handOn_steady _ _ _)
  split
  · exact .refl t
  · exact ackFor_steady _ _ _ _ _

theorem resetForSwitch_steady (s : State) (p : Product) : Steady s (s.resetForSwitch p) := by
  unfold State.resetForSwitch
  dsimp only
  refine Steady.trans (t := ((s.setAct p ActRecord.reset).registerTime p none)) ?_ ?_
  · exact (setAct_steady s _ _).trans (registerTime_steady _ _ _)
  · refine Steady.trans ?_ (handOn_steady _ _ _)
    cases (s.act p).currentId <;> cases (s.act p).order
    · exact .refl _
    · exact ackFor_steady _ _ _ _ _
    · exact ackFor_steady _ _ _ _ _
    · exact (ackFor_steady _ _ _ _ _).trans (ackFor_steady _ _ _ _ _)

/-! ### The Offer Book -/

theorem lapseOffer_steady (s : State) (o : Offer) : Steady s (s.lapseOffer o) :=
  ((mapOffer_steady s _ _).trans (clearReservation_steady _ _)).trans (removeOfferEntry_steady _ _)

theorem lapseGate_steady (s : State) (p : Product) (w : Nat) : Steady s (s.lapseGate p w) :=
  (Steady.foldl _ lapseOffer_steady _ _).trans (.foldl _ (fun t _ => post_steady t _) _ _)

theorem boundaryOffer_steady (s : State) (o : Offer) : Steady s (s.boundaryOffer o) := by
  unfold State.boundaryOffer
  split
  · exact (mapOffer_steady s _ _).trans (clearReservation_steady _ _)
  · exact (mapOffer_steady s _ _).trans (clearReservation_steady _ _)
  · exact ((mapOffer_steady s _ _).trans (clearReservation_steady _ _)).trans (removeOfferEntry_steady _ _)
  · exact ((mapOffer_steady s _ _).trans (clearReservation_steady _ _)).trans (removeOfferEntry_steady _ _)
  all_goals exact .refl s

theorem closeOffer_steady (s : State) (o : Offer) : Steady s (s.closeOffer o) := by
  unfold State.closeOffer
  split
  · exact (mapOffer_steady s _ _).trans (clearReservation_steady _ _)
  · exact .refl s

theorem bookBoundary_steady (s : State) (w : Nat) : Steady s (s.bookBoundary w) :=
  (((Steady.foldl _ boundaryOffer_steady _ _).trans (.foldl _ closeOffer_steady _ _)).trans (recycleRing_steady _ _)).trans
    (.foldl _ (fun t _ => post_steady t _) _ _)

theorem applyResult_steady (s : State) (o : Offer) (out : ResultOutcome) (reported reason : Nat) :
    Steady s (s.applyResult o out reported reason) := by
  have committed (t : State) (q : Option Nat) : Steady t (match q with
      | none => t
      | some q => t.commit o.product o.window q) := by
    cases q with
    | none => exact .refl t
    | some q => exact commit_steady t _ _ q
  unfold State.applyResult
  extract_lets y t u
  exact ((((mapOffer_steady s o.id _).trans (clearReservation_steady _ o.id)).trans
    (removeOfferEntry_steady _ (.withdraw o.id))).trans (committed t y.accepted)).trans (post_steady u _)

theorem takeResult_steady (s : State) (id : Nat) (out : ResultOutcome) (reported reason : Nat) :
    Steady s (s.takeResult id out reported reason) := by
  unfold State.takeResult
  split
  · exact .refl s
  · split
    · exact applyResult_steady s _ _ _ _
    · exact applyResult_steady s _ _ _ _
    · exact post_steady s _
    all_goals exact .refl s

theorem queueOffer_steady (s : State) (id q : Nat) : Steady s (s.queueOffer id q) :=
  ((mapOffer_steady s _ _).trans (clearReservation_steady _ _)).trans (placeOfferEntry_egress _ _).steady

theorem withdrawOffer_steady {s t : State} {o : Offer} (h : s.withdrawOffer o = .ok t) : Steady s t := by
  unfold State.withdrawOffer at h
  split at h
  · cases h; exact (deleteOffer_steady s _).trans (clearReservation_steady _ _)
  · cases h
    exact ((deleteOffer_steady s _).trans (clearReservation_steady _ _)).trans (removeOfferEntry_steady _ _)
  · cases h
    exact ((mapOffer_steady s _ _).trans (clearReservation_steady _ _)).trans (placeOfferEntry_egress _ _).steady
  all_goals cases h

theorem restartBook_steady (s : State) : Steady s s.restartBook :=
  .of_eq rfl rfl rfl rfl rfl rfl rfl rfl rfl id

/-! ### The Product Table and the boundary -/

theorem closeGate_steady (s : State) (p : Product) (w : Nat) : Steady s (s.closeGate p w) := by
  have marked : Steady s { s with time := { s.time with gateMarks := s.time.gateMarks.set p (some w) } } :=
    .of_eq rfl rfl rfl rfl rfl rfl rfl rfl rfl id
  exact marked.trans (lapseGate_steady _ _ _)

theorem closeGates_steady (s : State) (p : Product) (g n : Nat) : Steady s (s.closeGates p g n) := by
  induction n generalizing s g with
  | zero => exact .refl s
  | succ n ih => exact (closeGate_steady s p _).trans (ih _ _)

theorem adjustGate_steady (s : State) (p : Product) : Steady s (s.adjustGate p) := by
  unfold State.adjustGate
  split
  · exact closeGates_steady s _ _ _
  · exact .refl s

theorem copyBank_steady (s : State) (p : Product) : Steady s (s.copyBank p) := setProduct_steady s _ _

theorem afterSwitch_steady (s : State) (p : Product) (old : Bank) : Steady s (s.afterSwitch p old) := by
  have adjusted : Steady s (if (s.bank p).gateLead = old.gateLead then s else s.adjustGate p) := by
    split
    · exact .refl s
    · exact adjustGate_steady s p
  unfold State.afterSwitch
  dsimp only
  split
  · exact adjusted.trans (resetForSwitch_steady _ _)
  · exact adjusted

theorem judgeStaged_steady (w : Nat) (s : State) (p : Product) : Steady s (s.judgeStaged w p) := by
  unfold State.judgeStaged
  split
  · split
    · exact (setProduct_steady s _ _).trans (post_steady _ _)
    · exact ((copyBank_steady s _).trans (post_steady _ _)).trans (afterSwitch_steady _ _ _)
  · exact .refl s

theorem productBoundary_steady (s : State) (w : Nat) : Steady s (s.productBoundary w) := by
  unfold State.productBoundary
  dsimp only
  split
  · exact (Steady.foldl _ (judgeStaged_steady w) _ _).trans (requestAfterSwitch_steady _)
  · exact .foldl _ (judgeStaged_steady w) _ _

/-- R47: a boundary keeps the fleet, the parameters, the clock and the links steady. -/
theorem boundary_steady (s : State) (w : Nat) : Steady s (s.boundary w) :=
  ((((Steady.of_eq rfl rfl rfl rfl rfl rfl rfl rfl rfl id : Steady s
    { s with time := { s.time with boundaryMark := some w } }).trans (productBoundary_steady _ _)).trans
    (bookBoundary_steady _ _)).trans (activationBoundary_steady _ _)).trans (monitorBoundary_steady _ _)

theorem deliver_steady (s : State) (e : CalendarEvent) : Steady s (s.deliver e) := by
  cases e with
  | gate p w => exact closeGate_steady s p w
  | boundary w => exact boundary_steady s w
  | arrival p t => exact (registerTime_steady s p none).trans (arrival_steady _ p t)

theorem changeWindowLength_steady (s : State) : Steady s s.changeWindowLength := by
  unfold State.changeWindowLength
  split
  · exact .refl s
  · next d _ =>
    have taken : Steady s (match s.time.boundaryMark with
        | none => s
        | some m => if m < s.windowOf d then s.boundary (s.windowOf d) else s) := by
      split
      · exact .refl s
      · split
        · exact boundary_steady s _
        · exact .refl s
    exact (taken.trans (freshRing_steady _ _)).trans (.of_eq rfl rfl rfl rfl rfl rfl rfl rfl rfl id)

theorem writePending_steady (s : State) (p : Product) (b : Bank) : Steady s (s.writePending p b) := setProduct_steady s _ _

theorem applyNow_steady {s t : State} {p : Product} (h : s.applyNow p = .ok t) : Steady s t := by
  unfold State.applyNow at h
  split_ifs at h
  cases h
  exact ((copyBank_steady s _).trans (afterSwitch_steady _ _ _)).trans (requestAfterSwitch_steady _)

theorem stage_steady {s t : State} {p : Product} (h : s.stage p = .ok t) : Steady s t := by
  unfold State.stage at h
  split_ifs at h
  cases h
  exact setProduct_steady s _ _

theorem cancelStage_steady {s t : State} {p : Product} (h : s.cancelStage p = .ok t) : Steady s t := by
  unfold State.cancelStage at h
  split_ifs at h
  cases h
  exact setProduct_steady s _ _

/-! ### Links and the Management Unit -/

theorem handOnLink_steady (s : State) (port : Port) (up : Bool) (c : LinkCause) : Steady s (s.handOnLink port up c) := by
  have port_state (t : State) (f m : Bool) :
      Steady t { t with monitor := { t.monitor with fleetUp := f, meterUp := m } } :=
    ⟨rfl, rfl, rfl, rfl, rfl, rfl, rfl, rfl, rfl, rfl, .inl ⟨rfl, rfl⟩, id⟩
  unfold State.handOnLink
  refine Steady.trans ?_ (post_steady _ _)
  cases port with
  | fleet =>
    have moved : Steady s (if up then s.fleetCameUp else s.fleetWentDown) := by
      split
      · exact fleetCameUp_steady s
      · exact fleetWentDown_steady s
    exact (moved.trans (port_state _ up _)).trans (evaluate_steady _ _)
  | grid =>
    dsimp only
    split
    · exact (choose_egress s).steady
    · exact .refl s
  | meter => exact (port_state s _ up).trans (evaluate_steady _ _)

theorem takeRequest_steady (s : State) : Steady s s.takeRequest := management_steady s _

theorem respond_steady (s : State) (r : PendingRequest) (e : Option Reason) (b : Octets) : Steady s (s.respond r e b) :=
  (management_steady s _).trans (placeResponse_egress _ _).steady

theorem setWindowTo_steady (s : State) (w : TableWindow) : Steady s (s.setWindowTo w) := management_steady s _

theorem emptyTransmitter_steady (s : State) (port : Port) : Steady s (s.emptyTransmitter port) := by
  cases port <;> exact .of_eq rfl rfl rfl rfl rfl rfl rfl rfl rfl id

end Sys2Proof.Machine

namespace Sys2Proof.Machine

/-! ## Every command keeps the fleet's relations and the form of the tables -/

/-- The relations of R10 and R18 and the canonical form of the order tables pass from `s` to `t`. -/
structure KeepsForm (s t : State) : Prop where
  fleet : s.fleetHeld → t.fleetHeld
  tables : s.tablesHeld → t.tablesHeld

theorem KeepsForm.refl (s : State) : KeepsForm s s := ⟨id, id⟩

theorem KeepsForm.trans {s t u : State} (h : KeepsForm s t) (k : KeepsForm t u) : KeepsForm s u :=
  ⟨k.fleet ∘ h.fleet, k.tables ∘ h.tables⟩

theorem Steady.keepsForm {s t : State} (h : Steady s t) : KeepsForm s t := ⟨fleetHeld_of_fleet_eq h.fleet, h.tables⟩

theorem KeepsForm.of_eq {s t : State} (fleet : t.fleet = s.fleet) (records : t.allocation.records = s.allocation.records)
    (commitments : t.book.commitments = s.book.commitments) : KeepsForm s t :=
  ⟨fleetHeld_of_fleet_eq fleet, tablesHeld_of_eq records commitments⟩

/-- A command that answers `u` keeps what the step from `s` to `u` keeps. -/
theorem KeepsForm.of_next {s t u : State} (h : Host.Outcome.next (φ := Fault) (ρ := Refusal) u = .next t)
    (k : KeepsForm s u) : KeepsForm s t := by
  cases h
  exact k

/-! ### The Fleet Table's own operations -/

/-- The site at an occupied slot replaced by one with its static fields. -/
theorem setSite_keepsForm {s : State} {slot : Nat} {x : Site} (hx : s.siteAt slot = some x) (y : Site)
    (hs : y.static = x.static) : KeepsForm s (s.setSite slot y) :=
  ⟨setSite_fleetHeld hx (by rw [hs]) (by rw [hs]), tablesHeld_of_eq rfl rfl⟩

/-- Every site replaced by one with its static fields. -/
theorem mapSites_keepsForm (s : State) (g : Site → Site) (hg : ∀ x, (g x).static = x.static) :
    KeepsForm s { s with fleet := { s.fleet with sites := s.fleet.sites.map (fun e => (e.1, g e.2)) } } :=
  ⟨mapSites_fleetHeld g hg, tablesHeld_of_eq rfl rfl⟩

theorem enterBarred_keepsForm {s : State} {slot : Nat} {x : Site} (hx : s.siteAt slot = some x) (y : Site)
    (hs : y.static = x.static) (reason : BarReason) : KeepsForm s (s.enterBarred slot y reason) :=
  (setSite_keepsForm hx (y.barred reason) hs).trans ((post_steady _ _).trans (signalExclusion_steady _ _ _)).keepsForm

theorem barSite_keepsForm {s : State} {slot : Nat} {x : Site} (hx : s.siteAt slot = some x) :
    KeepsForm s (s.barSite slot x) := by
  unfold State.barSite
  split
  · split
    · exact .refl s
    · exact (setSite_keepsForm hx { x with barReason := some .host } rfl).trans (post_steady _ _).keepsForm
  · exact enterBarred_keepsForm hx x rfl _

theorem clearSite_keepsForm {s t : State} {slot : Nat} {x : Site} (hx : s.siteAt slot = some x)
    (h : s.clearSite slot x = .ok t) : KeepsForm s t := by
  unfold State.clearSite at h
  split at h
  · cases h; exact setSite_keepsForm hx _ rfl
  · cases h

theorem removeSite_keepsForm {s t : State} {slot : Nat} {x : Site} (hx : s.siteAt slot = some x)
    (h : s.removeSite slot x = .ok t) : KeepsForm s t := by
  refine ⟨removeSite_fleetHeld hx h, fun held => ?_⟩
  unfold State.removeSite at h
  split at h
  · cases h
    exact (signalExclusion_steady _ _ _).tables (tablesHeld_of_eq rfl rfl held)
  · cases h

theorem loadSite_keepsForm {s : State} {slot : Nat} {f : StaticFields} (h : s.loadRefusal slot f = none) :
    KeepsForm s (s.loadSite slot f) := by
  refine ⟨loadSite_fleetHeld h, fun held => ?_⟩
  cases hx : s.siteAt slot with
  | none => rw [loadSite_vacant hx]; exact tablesHeld_of_eq rfl rfl held
  | some x =>
    by_cases hn : x.static.siteNumber = f.siteNumber
    · rw [loadSite_same hx hn, State.moveCount_eq]
      exact (signalExclusion_steady _ _ _).tables (tablesHeld_of_eq rfl rfl held)
    · rw [loadSite_other hx hn, State.moveCount_eq]
      exact (signalExclusion_steady _ _ _).tables (tablesHeld_of_eq rfl rfl held)

theorem writeFeeder_keepsForm (s : State) (f up down : Nat) (enabled : Bool) :
    KeepsForm s (s.writeFeeder f up down enabled) := by
  refine ⟨writeFeeder_fleetHeld f up down enabled, fun held => ?_⟩
  unfold State.writeFeeder
  dsimp only
  split
  · exact (trigger_steady _).tables (tablesHeld_of_eq rfl rfl held)
  · exact tablesHeld_of_eq rfl rfl held

theorem reportUnconfirmed_keepsForm (s : State) (slot : Nat) : KeepsForm s (s.reportUnconfirmed slot) := by
  unfold State.reportUnconfirmed
  dsimp only
  split
  · exact .refl s
  · next x hx =>
    split
    · exact (setSite_keepsForm hx { x with state := .suspect, suspectExpiry := _ } rfl).trans
        ((post_steady _ _).trans (signalExclusion_steady _ _ _)).keepsForm
    · split
      · exact setSite_keepsForm hx _ rfl
      · exact .refl s

theorem reportLimit_keepsForm (s : State) (slot : Nat) (atOnce : Bool) : KeepsForm s (s.reportLimit slot atOnce) := by
  unfold State.reportLimit
  split
  · exact reportUnconfirmed_keepsForm s slot
  · exact (waitReport_steady s slot).keepsForm

theorem confirmationTimeout_keepsForm (s : State) (slot : Nat) (atOnce : Bool) :
    KeepsForm s (s.confirmationTimeout slot atOnce) := by
  have reported (t : State) (c : Prop) [Decidable c] :
      KeepsForm t (if c then { t with freeDraws := t.freeDraws + 1 }.reportLimit slot atOnce else t) := by
    split
    · exact (KeepsForm.of_eq rfl rfl rfl : KeepsForm t { t with freeDraws := t.freeDraws + 1 }).trans
        (reportLimit_keepsForm _ slot atOnce)
    · exact .refl t
  unfold State.confirmationTimeout
  extract_lets d t u
  exact ((setDispatch_steady s slot _).keepsForm.trans (reported t _)).trans
    ((setDispatch_steady u slot _).trans (trigger_steady _)).keepsForm

theorem takeReport_keepsForm (s : State) (slot : Nat) : KeepsForm s (s.takeReport slot) :=
  (dropReport_steady s slot).keepsForm.trans (reportUnconfirmed_keepsForm _ slot)

/-- R5: the site `x` under the bounds in force. -/
def State.regraded (s : State) (x : Site) : Site :=
  if x.state = .active ∨ x.state = .ageing ∨ x.state = .stale then { x with state := s.gradedState x } else x

theorem State.regraded_static (s : State) (x : Site) : (s.regraded x).static = x.static := by
  unfold State.regraded
  split <;> rfl

/-- R5: re-grading takes every site to its state under the bounds in force. -/
theorem regradeSites_eq (s : State) : s.regradeSites =
    { s with fleet := { s.fleet with sites := s.fleet.sites.map (fun e => (e.1, s.regraded e.2)) } } := by
  have same (e : Nat × Site) : (if e.2.state = .active ∨ e.2.state = .ageing ∨ e.2.state = .stale then
      (e.1, { e.2 with state := s.gradedState e.2 }) else e) = (e.1, s.regraded e.2) := by
    unfold State.regraded
    split <;> rfl
  simp only [State.regradeSites, same]

theorem regradeAll_keepsForm (s : State) : KeepsForm s s.regradeAll := by
  have regraded : KeepsForm s s.regradeSites := by
    rw [regradeSites_eq]
    exact mapSites_keepsForm s _ s.regraded_static
  exact regraded.trans (Steady.foldl _ (fun t (e : Nat × Site) => signalExclusion_steady t e.1 (s.siteEligible e.2)) _ _).keepsForm

/-! ### Telemetry Intake -/

theorem dropHead_keepsForm (s : State) (port : Port) : KeepsForm s (s.dropHead port) :=
  .of_eq (by simp) (by simp) (by simp)

theorem reportClass_keepsForm (s : State) (port : Port) (c : ErrClass) (shown : Bool) :
    KeepsForm s (s.reportClass port c shown) :=
  .of_eq (by simp) (by simp) (by simp)

theorem setEngine_keepsForm (s : State) (port : Port) (e : Engine) : KeepsForm s (s.setEngine port e) :=
  .of_eq (by simp) (by simp) (by simp)

theorem acceptReport_keepsForm {s : State} {slot : Nat} {x : Site} (hx : s.siteAt slot = some x) (r : SiteReport) :
    KeepsForm s (s.acceptReport slot x r) := by
  unfold State.acceptReport
  extract_lets t
  have accepted : KeepsForm s t := by
    refine KeepsForm.trans (setSite_keepsForm hx _ ?_) (confirmSlot_steady _ slot _).keepsForm
    rfl
  split
  · exact accepted.trans (trigger_steady t).keepsForm
  · exact accepted

theorem handleReport_keepsForm (s : State) (r : SiteReport) : KeepsForm s (s.handleReport r) := by
  unfold State.handleReport
  split
  · exact .of_eq rfl rfl rfl
  · split
    · exact .of_eq rfl rfl rfl
    · next x hx =>
      split
      · exact .of_eq rfl rfl rfl
      · split
        · unfold State.tagMismatch
          dsimp only
          split
          · exact enterBarred_keepsForm hx { x with tagRun := min (x.tagRun + 1) 15 } rfl _
          · exact setSite_keepsForm hx { x with tagRun := min (x.tagRun + 1) 15 } rfl
        · split
          · exact acceptReport_keepsForm hx r
          · exact (setSite_keepsForm hx { x with tagRun := 0 } rfl).trans (.of_eq rfl rfl rfl)

/-! ### The clock -/

theorem runAt_keepsForm (s : State) (d : Nat) : KeepsForm s (s.runAt d) := .of_eq rfl rfl rfl

theorem runCalendar_keepsForm (fuel : Nat) (s : State) (from0 limit : Nat) :
    KeepsForm s (s.runCalendar fuel from0 limit) := by
  induction fuel generalizing s from0 with
  | zero => exact .refl s
  | succ n ih =>
    unfold State.runCalendar
    split
    · exact .refl s
    · exact ((runAt_keepsForm s _).trans (deliver_steady _ _).keepsForm).trans (ih _ _)

theorem takeMark_keepsForm (s : State) (m : Nat) : KeepsForm s (s.takeMark m) := by
  unfold State.takeMark
  split
  · have marked : KeepsForm s { s with time := { s.time with
        clock := .running m
        gateMarks := PerProduct.ofFn (fun p => some (s.gateMarkAt p m))
        boundaryMark := some (s.windowOf m) } } := .of_eq rfl rfl rfl
    exact marked.trans ((freshRing_steady _ _).trans (monitorFirstMark_steady _ _)).keepsForm
  · next d _ =>
    unfold State.laterMark
    split
    · exact ((runAt_keepsForm s d).trans (runCalendar_keepsForm _ _ _ _)).trans (runAt_keepsForm _ _)
    · split
      · exact runAt_keepsForm s d
      · split
        · exact .of_eq rfl rfl rfl
        · exact (post_steady s _).keepsForm

theorem tick_keepsForm (s : State) : KeepsForm s s.tick := by
  unfold State.tick
  split <;> exact .of_eq rfl rfl rfl

/-! ### Link states -/

theorem goDown_keepsForm (s : State) (port : Port) (c : LinkCause) : KeepsForm s (s.goDown port c) :=
  (setEngine_keepsForm s port _).trans ((emptyTransmitter_steady _ port).trans (handOnLink_steady _ _ _ _)).keepsForm

theorem validFrame_keepsForm (s : State) (port : Port) : KeepsForm s (s.validFrame port) := by
  unfold State.validFrame
  dsimp only
  split
  · exact setEngine_keepsForm s _ _
  · split
    · exact (setEngine_keepsForm s _ _).trans (handOnLink_steady _ _ _ _).keepsForm
    · exact .refl s

theorem retimeLink_keepsForm (s : State) (port : Port) : KeepsForm s (s.retimeLink port) := by
  unfold State.retimeLink
  split
  · exact .refl s
  · split
    · dsimp only
      split
      · exact (setEngine_keepsForm s _ _).trans (goDown_keepsForm _ _ _)
      · exact setEngine_keepsForm s _ _
    · exact .refl s

/-! ### Parameters and the warm restart -/

theorem endInterval_keepsForm (s : State) : KeepsForm s s.endInterval := by
  unfold State.endInterval
  extract_lets duration _ t
  have started : KeepsForm s t := .of_eq rfl rfl rfl
  exact started.trans (Steady.foldl _ (fun u p => measure_steady u duration p) _ _).keepsForm

theorem retimeCensus_steady (s : State) : Steady s s.retimeCensus := by
  unfold State.retimeCensus
  dsimp only
  split
  · exact (census_steady s _).trans (censusTimerExpires_steady _)
  · exact census_steady s _

theorem retimeInterval_keepsForm (s : State) : KeepsForm s s.retimeInterval := by
  unfold State.retimeInterval
  extract_lets _ t
  have moved : KeepsForm s t := .of_eq rfl rfl rfl
  split
  · exact moved.trans (endInterval_keepsForm t)
  · exact moved

theorem retimeHeartbeat_keepsForm (s : State) : KeepsForm s s.retimeHeartbeat := by
  unfold State.retimeHeartbeat
  extract_lets _ t
  have moved : KeepsForm s t := .of_eq rfl rfl rfl
  split
  · exact moved.trans (evaluate_steady t true).keepsForm
  · exact moved

/-- A block that acts on a parameter only when it changed. -/
theorem KeepsForm.unless {s t : State} {c : Prop} [Decidable c] (h : KeepsForm s t) : KeepsForm s (if c then s else t) := by
  split
  · exact .refl s
  · exact h

theorem applyParams_keepsForm (s : State) (p : Params) : KeepsForm s (s.applyParams p) := by
  have replaced : KeepsForm s { s with params := p } := .of_eq rfl rfl rfl
  refine replaced.trans ?_
  unfold State.applyParams State.actOnParams
  extract_lets new t1 t2 t3 t4 t5 t6
  exact (regradeAll_keepsForm _).unless.trans <| (changeWindowLength_steady t1).keepsForm.unless.trans <|
    (retimeCensus_steady t2).keepsForm.unless.trans <| (regradeSilence_steady t3).keepsForm.unless.trans <|
    (retimeInterval_keepsForm t4).unless.trans <| (retimeHeartbeat_keepsForm t5).unless.trans <|
    KeepsForm.unless <| (retimeLink_keepsForm t6 _).trans <| (retimeLink_keepsForm _ _).trans (retimeLink_keepsForm _ _)

theorem restartFleet_keepsForm (s : State) : KeepsForm s s.restartFleet :=
  mapSites_keepsForm s Site.restarted (fun x => by unfold Site.restarted; split <;> rfl)

theorem postRestartChanges_steady (s old : State) : Steady s (s.postRestartChanges old) :=
  .foldl _ (fun t p => by
    split
    · exact post_steady t _
    · exact .refl t) _ _

theorem warmRestart_keepsForm (s : State) : KeepsForm s s.warmRestart := by
  have activation (t : State) : KeepsForm t t.restartActivation := .of_eq rfl rfl rfl
  have allocation (t : State) : KeepsForm t t.restartAllocation :=
    (allocation_steady t _ (fun w => mapRecords_wfOr w _)).keepsForm
  have monitor (t : State) : KeepsForm t t.restartMonitor := .of_eq rfl rfl rfl
  exact (restartFleet_keepsForm s).trans <| (census_steady _ _).keepsForm.trans <| (restartBook_steady _).keepsForm.trans <|
    (activation _).trans <| (allocation _).trans <| (monitor _).trans <|
    ((trigger_steady _).trans ((evaluate_steady _ _).trans (postRestartChanges_steady _ _))).keepsForm

/-! ### Requests -/

theorem respond_keepsForm (s : State) (r : PendingRequest) (e : Option Reason) (b : Octets) :
    KeepsForm s (s.respond r e b) := (respond_steady s r e b).keepsForm

theorem outOfFormat_keepsForm (s : State) (r : PendingRequest) : KeepsForm s (s.outOfFormat r) :=
  (reportClass_keepsForm s _ _ _).trans (respond_keepsForm _ _ _ _)

/-- A request keeps what its execution keeps. -/
theorem request_keepsForm {run : State → PendingRequest → State} (h : ∀ s r, KeepsForm s (run s r)) (s : State)
    (code length : Nat) : KeepsForm s (s.request code length run) := by
  unfold State.request
  split
  · exact .refl s
  · split
    · exact (takeRequest_steady s).keepsForm.trans (h _ _)
    · exact (takeRequest_steady s).keepsForm.trans (outOfFormat_keepsForm _ _)

/-- A request without a body keeps what the state it is done with keeps. -/
theorem answer_keepsForm {s : State} {x : Except Reason State} (h : ∀ t, x = .ok t → KeepsForm s t) (r : PendingRequest) :
    KeepsForm s (s.answer r x) := by
  unfold State.answer
  split
  · exact (h _ rfl).trans (respond_keepsForm _ _ _ _)
  · exact respond_keepsForm _ _ _ _

theorem siteRequest_keepsForm {act : State → Nat → Site → Except Reason State}
    (h : ∀ (s t : State) (slot : Nat) (x : Site), s.siteAt slot = some x → act s slot x = .ok t → KeepsForm s t)
    (s : State) (r : PendingRequest) : KeepsForm s (s.siteRequest act r) := by
  refine answer_keepsForm (fun t ht => ?_) r
  unfold State.siteNamed at ht
  split at ht
  · cases ht
  · next slot x named =>
    split at named
    · cases named
    · obtain ⟨y, hy, e⟩ := Option.map_eq_some_iff.1 named
      cases e
      exact h s t _ _ hy ht

theorem productRequest_keepsForm {act : State → Product → Except Reason State}
    (h : ∀ (s t : State) (p : Product), act s p = .ok t → Steady s t) (s : State) (r : PendingRequest) :
    KeepsForm s (s.productRequest act r) := by
  refine answer_keepsForm (fun t ht => ?_) r
  split at ht
  · cases ht
  · exact (h s t _ ht).keepsForm

theorem writeRecord_keepsForm {s : State} {table : TableName} {i : Nat} {o : Octets} {u : State × Option Product}
    (h : s.writeRecord table i o = .ok u) : KeepsForm s u.1 := by
  unfold State.writeRecord at h
  split at h
  · unfold State.writeSiteRecord at h
    split at h
    · cases h
    · next allowed => cases h; exact loadSite_keepsForm allowed
  · unfold State.writeFeederRecord at h
    split at h
    · cases h
    · split at h
      · cases h; exact writeFeeder_keepsForm s _ _ _ _
      · cases h
  · split at h
    · cases h
    · unfold State.writeBank at h
      split at h
      · cases h
      · split at h
        · cases h; exact (writePending_steady s _ _).keepsForm
        · cases h
  all_goals cases h

theorem writeRun_keepsForm (rest : List Octets) (take : Option Nat) (applied : Nat) (marks : BitVec 8) (w : TableWindow)
    (r : PendingRequest) (s : State) : KeepsForm s (State.writeRun rest take applied marks w r s) := by
  induction rest generalizing take applied marks w s with
  | nil => exact respond_keepsForm s _ _ _
  | cons o more ih =>
    unfold State.writeRun
    split
    · exact respond_keepsForm s _ _ _
    · split
      · exact (management_steady s _).keepsForm
      · split
        · exact respond_keepsForm s _ _ _
        · next written =>
          exact ((writeRecord_keepsForm written).trans (setWindowTo_steady _ _).keepsForm).trans (ih _ _ _ _ _)

theorem judgedWrite_keepsForm (s : State) (r : PendingRequest) (fixed : Nat) (take : Option Nat)
    (x : Except Reason TableWindow) : KeepsForm s (s.judgedWrite r fixed take x) := by
  unfold State.judgedWrite
  split
  · exact respond_keepsForm s _ _ _
  · unfold State.beginWrite
    split
    · exact respond_keepsForm s _ _ _
    · split
      · exact writeRun_keepsForm _ _ _ _ _ _ s
      · exact outOfFormat_keepsForm s r

theorem resumeWrite_keepsForm (s : State) (take : Option Nat) (x : InExecution) : KeepsForm s (s.resumeWrite take x) := by
  unfold State.resumeWrite
  split
  · exact writeRun_keepsForm _ _ _ _ _ _ s
  · exact .refl s

theorem readRun_steady (remaining : Nat) (take : Option Nat) (first count : Nat) (records : Octets) (w : TableWindow)
    (r : PendingRequest) (s : State) : Steady s (State.readRun remaining take first count records w r s) := by
  induction remaining generalizing take count records with
  | zero => exact (setWindowTo_steady s _).trans (respond_steady _ _ _ _)
  | succ n ih =>
    unfold State.readRun
    split
    · exact management_steady s _
    · exact ih _ _ _

theorem judgedRead_steady (s : State) (r : PendingRequest) (take : Option Nat) (x : Except Reason TableWindow) :
    Steady s (s.judgedRead r take x) := by
  unfold State.judgedRead
  split
  · exact respond_steady s _ _ _
  · exact readRun_steady _ _ _ _ _ _ _ s

theorem resumeRead_steady (s : State) (take : Option Nat) (x : InExecution) : Steady s (s.resumeRead take x) := by
  unfold State.resumeRead
  split
  · exact readRun_steady _ _ _ _ _ _ _ s
  · exact .refl s

theorem setWindow_keepsForm (s : State) (r : PendingRequest) : KeepsForm s (s.setWindow r) :=
  answer_keepsForm (fun t ht => by
    split at ht
    · cases ht
    · cases ht; exact (management_steady s _).keepsForm) r

theorem setReturnLimit_keepsForm (s : State) (r : PendingRequest) : KeepsForm s (s.setReturnLimit r) :=
  answer_keepsForm (fun t ht => by
    split at ht
    · cases ht; exact (management_steady s _).keepsForm
    · cases ht) r

theorem writeProduct_keepsForm (s : State) (r : PendingRequest) : KeepsForm s (s.writeProduct r) := by
  unfold State.writeProduct
  split
  · exact respond_keepsForm s _ _ _
  · split
    · exact respond_keepsForm s _ _ _
    · next written =>
      refine KeepsForm.trans ?_ (respond_keepsForm _ _ _ _)
      unfold State.writeBank at written
      split at written
      · cases written
      · split at written
        · cases written; exact (writePending_steady s _ _).keepsForm
        · cases written

theorem createOffer_keepsForm (s : State) (r : PendingRequest) : KeepsForm s (s.createOffer r) := by
  unfold State.createOffer
  split
  · split
    · exact respond_keepsForm s _ _ _
    · exact (addOffer_steady s _).keepsForm.trans (respond_keepsForm _ _ _ _)
  · exact respond_keepsForm s _ _ _

theorem updateOffer_keepsForm (s : State) (r : PendingRequest) : KeepsForm s (s.updateOffer r) :=
  answer_keepsForm (fun t ht => by
    split at ht
    · cases ht
    · split at ht
      · cases ht
      · split at ht
        · cases ht
        · cases ht
          exact ((mapOffer_steady s _ _).trans (clearReservation_steady _ _)).keepsForm) r

theorem submitOffer_keepsForm (s : State) (r : PendingRequest) : KeepsForm s (s.submitOffer r) := by
  unfold State.submitOffer
  split
  · exact respond_keepsForm s _ _ _
  · split
    · exact respond_keepsForm s _ _ _
    · split
      · exact respond_keepsForm s _ _ _
      · exact (queueOffer_steady s _ _).keepsForm.trans (respond_keepsForm _ _ _ _)

theorem withdrawRequest_keepsForm (s : State) (r : PendingRequest) : KeepsForm s (s.withdrawRequest r) :=
  answer_keepsForm (fun t ht => by
    split at ht
    · cases ht
    · exact (withdrawOffer_steady ht).keepsForm) r

theorem retireOffers_keepsForm (s : State) (r : PendingRequest) : KeepsForm s (s.retireOffers r) := by
  unfold State.retireOffers
  split
  · exact respond_keepsForm s _ _ _
  · exact (retire_steady s _).keepsForm.trans (respond_keepsForm _ _ _ _)

theorem readReserved_keepsForm (s : State) (r : PendingRequest) : KeepsForm s (s.readReserved r) := by
  unfold State.readReserved
  split <;> exact (reserve_steady s _).keepsForm.trans (respond_keepsForm _ _ _ _)

theorem updateConditional_keepsForm (s : State) (r : PendingRequest) : KeepsForm s (s.updateConditional r) := by
  unfold State.updateConditional
  split
  · exact (reserve_steady s _).keepsForm.trans (respond_keepsForm _ _ _ _)
  · split
    · extract_lets y t
      have updated : KeepsForm s t := ((mapOffer_steady s _ _).trans (reserve_steady _ _)).keepsForm
      split
      · unfold State.submitUpdated
        split
        · exact updated.trans (respond_keepsForm _ _ _ _)
        · exact updated.trans ((queueOffer_steady t _ _).keepsForm.trans (respond_keepsForm _ _ _ _))
      · exact updated.trans (respond_keepsForm _ _ _ _)
    · exact (reserve_steady s _).keepsForm.trans (respond_keepsForm _ _ _ _)

theorem requestCensus_keepsForm (s : State) (r : PendingRequest) : KeepsForm s (s.requestCensus r) := by
  unfold State.requestCensus
  split
  · exact respond_keepsForm s _ _ _
  · exact (requestFull_steady s).keepsForm.trans (respond_keepsForm _ _ _ _)
  · split
    · exact (requestSelect_steady s _).keepsForm.trans (respond_keepsForm _ _ _ _)
    · exact respond_keepsForm s _ _ _

theorem readStatus_keepsForm (s : State) (r : PendingRequest) : KeepsForm s (s.readStatus r) := by
  have cleared : KeepsForm s s.clearWasDown := .of_eq rfl rfl rfl
  exact cleared.trans ((respond_keepsForm _ _ _ _).trans (clearLatches_steady _).keepsForm)

theorem readLinkErrors_keepsForm (s : State) (r : PendingRequest) : KeepsForm s (s.readLinkErrors r) := by
  have cleared : KeepsForm s s.clearLinkErrors := .of_eq rfl rfl rfl
  exact cleared.trans (respond_keepsForm _ _ _ _)

theorem setParameters_keepsForm (s : State) (r : PendingRequest) : KeepsForm s (s.setParameters r) := by
  unfold State.setParameters
  split
  · exact respond_keepsForm s _ _ _
  · exact (applyParams_keepsForm s _).trans (respond_keepsForm _ _ _ _)

theorem restartRequest_keepsForm (s : State) (r : PendingRequest) : KeepsForm s (s.restartRequest r) :=
  ((respond_steady s r none _).trans (management_steady _ _)).keepsForm.trans (warmRestart_keepsForm _)

/-! ### Every command -/

theorem execFrameReceived_keepsForm {s t : State} {port : Port} {o : Octets} (h : execFrameReceived port o s = .next t) :
    KeepsForm s t := by
  unfold execFrameReceived at h
  split at h
  · exact .of_next h (reportClass_keepsForm s _ _ _)
  · exact .of_next h ((setEngine_keepsForm s _ _).trans (validFrame_keepsForm _ _))

theorem execSiteReport_keepsForm {s t : State} (h : execSiteReport s = .next t) : KeepsForm s t := by
  unfold execSiteReport at h
  split at h
  · exact .of_next h (.refl s)
  · split at h
    · exact .of_next h ((dropHead_keepsForm s _).trans (reportClass_keepsForm _ _ _ _))
    · exact .of_next h ((dropHead_keepsForm s _).trans (handleReport_keepsForm _ _))

theorem execSiteAgeing_keepsForm {s t : State} {slot : Nat} (h : execSiteAgeing slot s = .next t) : KeepsForm s t := by
  refine .of_next h ?_
  split
  · exact .refl s
  · next x hx =>
    split
    · exact .refl s
    · next st _ =>
      exact (setSite_keepsForm hx { x with state := st } rfl).trans (signalExclusion_steady _ _ _).keepsForm

theorem execSuspectExpiry_keepsForm {s t : State} {slot : Nat} (h : execSuspectExpiry slot s = .next t) :
    KeepsForm s t := by
  refine .of_next h ?_
  split
  · exact .refl s
  · next x hx =>
    split
    · exact setSite_keepsForm hx { x with state := s.gradedState x, suspectExpiry := none } rfl
    · exact .refl s

theorem execConfirmationTimeout_keepsForm {s t : State} {slot : Nat} (h : execConfirmationTimeout slot s = .next t) :
    KeepsForm s t := by
  refine .of_next h ?_
  split
  · exact takeReport_keepsForm s slot
  · split
    · exact confirmationTimeout_keepsForm s slot _
    · exact .refl s

theorem execClockMark_keepsForm {s t : State} (h : execClockMark s = .next t) : KeepsForm s t := by
  unfold execClockMark at h
  split at h
  · exact .of_next h (.refl s)
  · dsimp only at h
    split at h
    · exact .of_next h ((dropHead_keepsForm s _).trans (reportClass_keepsForm _ _ _ _))
    · exact .of_next h ((dropHead_keepsForm s _).trans (takeMark_keepsForm _ _))

theorem execHoldEnd_keepsForm {s t : State} (h : execHoldEnd s = .next t) : KeepsForm s t := by
  refine .of_next h ?_
  split
  · exact runAt_keepsForm s _
  all_goals exact .refl s

theorem execOfferResult_keepsForm {s t : State} (h : execOfferResult s = .next t) : KeepsForm s t := by
  have dropped := dropHead_keepsForm s .grid
  unfold execOfferResult at h
  split at h
  · exact .of_next h (.refl s)
  · dsimp only at h
    split at h
    · exact .of_next h (dropped.trans (reportClass_keepsForm _ _ _ _))
    · split at h
      · exact .of_next h (dropped.trans (reportClass_keepsForm _ _ _ _))
      · exact .of_next h (dropped.trans (takeResult_steady _ _ _ _ _).keepsForm)

theorem execActivationOrder_keepsForm {s t : State} (h : execActivationOrder s = .next t) : KeepsForm s t := by
  have dropped := dropHead_keepsForm s .grid
  unfold execActivationOrder at h
  split at h
  · exact .of_next h (.refl s)
  · dsimp only at h
    split at h
    · exact .of_next h (dropped.trans (reportClass_keepsForm _ _ _ _))
    · exact .of_next h (dropped.trans (takeOrder_steady _ _ _ _ _).keepsForm)

theorem execActivationEnd_keepsForm {s t : State} (h : execActivationEnd s = .next t) : KeepsForm s t := by
  have dropped := dropHead_keepsForm s .grid
  unfold execActivationEnd at h
  split at h
  · exact .of_next h (.refl s)
  · dsimp only at h
    split at h
    · exact .of_next h (dropped.trans (reportClass_keepsForm _ _ _ _))
    · exact .of_next h (dropped.trans (takeEnd_steady _ _ _).keepsForm)

theorem takeSample_keepsForm (s : State) (number frequency : Nat) : KeepsForm s (s.takeSample number frequency) := by
  have sampled : KeepsForm s { s with activation := { s.activation with
      sample := some { number := number, time := s.localTime } } } := .of_eq rfl rfl rfl
  exact sampled.trans ((mapActs_steady _ _).trans (handOn_steady _ _ _)).keepsForm

theorem execFreqSample_keepsForm {s t : State} (h : execFreqSample s = .next t) : KeepsForm s t := by
  have dropped := dropHead_keepsForm s .meter
  unfold execFreqSample at h
  split at h
  · exact .of_next h (.refl s)
  · dsimp only at h
    split at h
    · exact .of_next h (dropped.trans (reportClass_keepsForm _ _ _ _))
    · split at h
      · exact .of_next h (dropped.trans (takeSample_keepsForm _ _ _))
      · exact .of_next h (dropped.trans (.of_eq rfl rfl rfl))

theorem execRequestEnqueue_keepsForm {s t : State} (h : execRequestEnqueue s = .next t) : KeepsForm s t := by
  have dropped := dropHead_keepsForm s .grid
  unfold execRequestEnqueue at h
  split at h
  · exact .of_next h (.refl s)
  · dsimp only at h
    split at h
    · exact .of_next h (dropped.trans (management_steady _ _).keepsForm)
    · exact .of_next h (dropped.trans (reportClass_keepsForm _ _ _ _))

theorem execRequestOutOfFormat_keepsForm {s t : State} (h : execRequestOutOfFormat s = .next t) : KeepsForm s t := by
  have answered (r : PendingRequest) : KeepsForm s (s.takeRequest.outOfFormat r) :=
    (takeRequest_steady s).keepsForm.trans (outOfFormat_keepsForm _ r)
  refine .of_next h ?_
  split
  · exact .refl s
  · split
    · exact answered _
    · split
      · exact .refl s
      · exact answered _

theorem execWriteRecords_keepsForm {s t : State} {take : Option Nat} (h : execWriteRecords take s = .next t) :
    KeepsForm s t := by
  refine .of_next h ?_
  split
  · exact resumeWrite_keepsForm s _ _
  · split
    · exact .refl s
    · split
      · exact (takeRequest_steady s).keepsForm.trans (judgedWrite_keepsForm _ _ _ _ _)
      · exact (takeRequest_steady s).keepsForm.trans (outOfFormat_keepsForm _ _)

theorem execWriteContinue_keepsForm {s t : State} {take : Option Nat} (h : execWriteContinue take s = .next t) :
    KeepsForm s t := by
  refine .of_next h ?_
  split
  · exact resumeWrite_keepsForm s _ _
  · split
    · exact .refl s
    · exact (takeRequest_steady s).keepsForm.trans (judgedWrite_keepsForm _ _ _ _ _)

theorem execReadRecords_keepsForm {s t : State} {take : Option Nat} (h : execReadRecords take s = .next t) :
    KeepsForm s t := by
  refine .of_next h ?_
  split
  · exact (resumeRead_steady s _ _).keepsForm
  · exact request_keepsForm (fun _ _ => (judgedRead_steady _ _ _ _).keepsForm) s _ _

theorem execReadContinue_keepsForm {s t : State} {take : Option Nat} (h : execReadContinue take s = .next t) :
    KeepsForm s t := by
  refine .of_next h ?_
  split
  · exact (resumeRead_steady s _ _).keepsForm
  · exact request_keepsForm (fun _ _ => (judgedRead_steady _ _ _ _).keepsForm) s _ _

/-- A command that acts only when its condition holds. -/
theorem Steady.when {s t : State} {c : Prop} [Decidable c] (h : Steady s t) : KeepsForm s (if c then t else s) := by
  split
  · exact h.keepsForm
  · exact .refl s

theorem KeepsForm.when {s t : State} {c : Prop} [Decidable c] (h : KeepsForm s t) : KeepsForm s (if c then t else s) := by
  split
  · exact h
  · exact .refl s

/-- R10, R18: every command keeps the fleet's relations and the form of the tables. -/
theorem exec_keepsForm {i : Instr} {s t : State} (h : exec i s = .next t) : KeepsForm s t := by
  cases i with
  | coldReset =>
    exact .of_next h ⟨fun _ => fleetHeld_of_fleet_eq rfl reset_fleetHeld, fun _ => tablesHeld_of_eq rfl rfl reset_tablesHeld⟩
  | signalLoss port =>
    refine .of_next h ?_
    split
    · exact (setEngine_keepsForm s _ _).trans (goDown_keepsForm _ _ _)
    · exact setEngine_keepsForm s _ _
  | signalPresence port => exact .of_next h (setEngine_keepsForm s _ _)
  | frameReceived port octets => exact execFrameReceived_keepsForm h
  | linkTimeout port => exact .of_next h (goDown_keepsForm s _ _).when
  | siteReport => exact execSiteReport_keepsForm h
  | siteAgeing slot => exact execSiteAgeing_keepsForm h
  | suspectExpiry slot => exact execSuspectExpiry_keepsForm h
  | clockMark => exact execClockMark_keepsForm h
  | holdEnd => exact execHoldEnd_keepsForm h
  | windowBoundary window => exact .of_next h (deliver_steady s _).when
  | gateClosure product window => exact .of_next h (deliver_steady s _).when
  | effectiveTimeArrival product time => exact .of_next h (deliver_steady s _).when
  | offerResult => exact execOfferResult_keepsForm h
  | activationOrder => exact execActivationOrder_keepsForm h
  | activationEnd => exact execActivationEnd_keepsForm h
  | freqSample => exact execFreqSample_keepsForm h
  | sampleTimeout => exact .of_next h ((mapActs_steady s _).trans (handOn_steady _ _ _)).when
  | sampleLoss => exact .of_next h ((mapActs_steady s _).trans (handOn_steady _ _ _)).when
  | censusIntervalExpiry => exact .of_next h (censusTimerExpires_steady s).when
  | censusSlotRead =>
    refine .of_next h ?_
    split
    · exact .refl s
    · exact (census_steady s _).when
  | censusPublish =>
    refine .of_next h ?_
    split
    · exact .refl s
    · exact (publish_steady s _).keepsForm.unless
  | allocationPassEnd =>
    change execAllocationPassEnd s = _ at h
    unfold execAllocationPassEnd at h
    split at h
    · exact .of_next h (.refl s)
    · exact .of_next h (endPass_steady s _).keepsForm
  | releaseBegin => exact .of_next h (beginRelease_steady s).when
  | fleetTransmitDone =>
    refine .of_next h ?_
    split
    · exact .refl s
    · exact ((emptyTransmitter_steady s .fleet).trans (feedFleet_steady _)).keepsForm
  | confirmationTimeout slot => exact execConfirmationTimeout_keepsForm h
  | performanceIntervalEnd => exact .of_next h (endInterval_keepsForm s).when
  | heartbeat => exact .of_next h (evaluate_steady s true).when
  | gridTransmitDone =>
    refine .of_next h ?_
    split
    · exact .refl s
    · exact ((emptyTransmitter_steady s .grid).trans (choose_egress _).steady).keepsForm
  | requestEnqueue => exact execRequestEnqueue_keepsForm h
  | setWindow => exact .of_next h (request_keepsForm setWindow_keepsForm s _ _)
  | writeRecords take => exact execWriteRecords_keepsForm h
  | writeContinue take => exact execWriteContinue_keepsForm h
  | readRecords take => exact execReadRecords_keepsForm h
  | readContinue take => exact execReadContinue_keepsForm h
  | setReturnLimit => exact .of_next h (request_keepsForm setReturnLimit_keepsForm s _ _)
  | barSite =>
    refine .of_next h (request_keepsForm (siteRequest_keepsForm fun s t slot x hx ht => ?_) s _ _)
    cases ht
    exact barSite_keepsForm hx
  | clearSite =>
    exact .of_next h (request_keepsForm (siteRequest_keepsForm fun _ _ _ _ hx ht => clearSite_keepsForm hx ht) s _ _)
  | removeSite =>
    exact .of_next h (request_keepsForm (siteRequest_keepsForm fun _ _ _ _ hx ht => removeSite_keepsForm hx ht) s _ _)
  | writeProduct => exact .of_next h (request_keepsForm writeProduct_keepsForm s _ _)
  | stageProduct => exact .of_next h (request_keepsForm (productRequest_keepsForm fun _ _ _ => stage_steady) s _ _)
  | cancelStage => exact .of_next h (request_keepsForm (productRequest_keepsForm fun _ _ _ => cancelStage_steady) s _ _)
  | applyNow => exact .of_next h (request_keepsForm (productRequest_keepsForm fun _ _ _ => applyNow_steady) s _ _)
  | createOffer => exact .of_next h (request_keepsForm createOffer_keepsForm s _ _)
  | updateOffer => exact .of_next h (request_keepsForm updateOffer_keepsForm s _ _)
  | submitOffer => exact .of_next h (request_keepsForm submitOffer_keepsForm s _ _)
  | withdrawOffer => exact .of_next h (request_keepsForm withdrawRequest_keepsForm s _ _)
  | retireOffers => exact .of_next h (request_keepsForm retireOffers_keepsForm s _ _)
  | readOfferReserved => exact .of_next h (request_keepsForm readReserved_keepsForm s _ _)
  | updateOfferConditional => exact .of_next h (request_keepsForm updateConditional_keepsForm s _ _)
  | requestCensus => exact .of_next h (request_keepsForm requestCensus_keepsForm s _ _)
  | readStatus => exact .of_next h (request_keepsForm readStatus_keepsForm s _ _)
  | readLinkErrors => exact .of_next h (request_keepsForm readLinkErrors_keepsForm s _ _)
  | setParameters => exact .of_next h (request_keepsForm setParameters_keepsForm s _ _)
  | restart => exact .of_next h (request_keepsForm restartRequest_keepsForm s _ _)
  | requestOutOfFormat => exact execRequestOutOfFormat_keepsForm h

/-- R10, R18: every step keeps the fleet's relations and the form of the tables. -/
theorem step_keepsForm {s t : State} (h : step s = .next t) : KeepsForm s t := by
  unfold step at h
  split at h
  · refine .of_next h ?_
    unfold State.idle
    split
    · exact tick_keepsForm s
    · exact .of_eq rfl rfl rfl
  · next c rest _ =>
    exact (KeepsForm.of_eq rfl rfl rfl : KeepsForm s { s with pending := rest }).trans (exec_keepsForm h)

/-- Settles O59: each step, the idle one and each of the commands, keeps both relations. -/
theorem fleetAndTablesStayHeld : Obligations.FleetAndTablesStayHeld := by
  unfold Obligations.FleetAndTablesStayHeld
  exact fun s t h => ⟨(step_keepsForm h).fleet, (step_keepsForm h).tables⟩

end Sys2Proof.Machine

namespace Sys2Proof.Machine

/-! ## The state after a cold reset -/

/-- Settles O4: every block of the state COLD_RESET answers, read off the reset state. -/
theorem coldResetSetsEveryBlock : Obligations.ColdResetSetsEveryBlock := by
  unfold Obligations.ColdResetSetsEveryBlock
  intro s
  refine ⟨{ State.reset with freeDraws := s.freeDraws, pending := s.pending }, rfl, ?_⟩
  have gates : ∀ p, State.reset.time.gateMarks.get p = none := PerProduct.get_all _
  have effective : ∀ p, State.reset.time.effective.get p = none := PerProduct.get_all _
  have passes : ∀ p, State.reset.allocation.lastPass.get p = LastPass.reset := PerProduct.get_all _
  have monitor : ∀ p, State.reset.monitor.products.get p = MonitorProduct.reset := PerProduct.get_all _
  refine ⟨⟨fun _ => rfl, fun _ => rfl, fun _ => rfl, rfl⟩, ⟨rfl, rfl, rfl, gates, effective⟩, fun p => ?_,
    ⟨rfl, rfl, rfl, rfl, rfl, rfl, rfl⟩, ⟨reset_act, rfl, rfl⟩,
    ⟨fun _ => rfl, passes, rfl, rfl, rfl, rfl, rfl, rfl, rfl, rfl⟩,
    ⟨fun p => ?_, rfl, rfl, rfl, rfl, rfl⟩, fun port => ?_, ⟨rfl, rfl, rfl, rfl, rfl, rfl, rfl, rfl, rfl, rfl⟩,
    ⟨rfl, rfl, rfl, rfl, rfl, rfl⟩, rfl⟩
  · dsimp only
    rw [reset_products]
    exact ⟨rfl, rfl, rfl⟩
  · simp only [State.mon, monitor p]
    exact ⟨rfl, rfl, rfl, rfl, rfl, rfl, rfl, rfl, rfl⟩
  · cases port <;> rfl

/-- R52: the default record of every product lies in its ranges. -/
theorem bank_reset_inRange (p : Product) : (Bank.reset p).inRange = true := by
  revert p
  decide

theorem engine_reset_bounded (port : Port) : Engine.reset.bounded port := ⟨Nat.zero_le _, Nat.zero_le _⟩

/-- Settles O60: the stores are empty, the banks and parameters are the default ones, and no product is enabled. -/
theorem resetMeetsTheInvariants : Obligations.ResetMeetsTheInvariants := by
  unfold Obligations.ResetMeetsTheInvariants
  refine ⟨fun p => ?_, by unfold State.paramsHeld; decide, fun p => ?_, fun p q _ => ?_, ?_, ?_, List.Pairwise.nil,
    ⟨rfl, rfl, rfl, reset_commitments⟩, reset_fleetHeld, reset_tablesHeld⟩
  · rw [reset_act]; exact le_refl 0
  · rw [reset_products]; exact ⟨bank_reset_inRange p, bank_reset_inRange p⟩
  · simp [reset_bank, reset_products, Bank.reset]
  · exact ⟨engine_reset_bounded _, engine_reset_bounded _, engine_reset_bounded _, Nat.zero_le _, Nat.zero_le _⟩
  · exact ⟨Nat.zero_le _, List.nodup_nil, fun _ _ => Nat.zero_le _, List.nodup_nil, fun _ h => absurd h List.not_mem_nil⟩

end Sys2Proof.Machine

namespace Sys2Proof.Machine

/-! ## Eligibility, allocations and one trigger -/

/-- R9: when a site is eligible. -/
theorem siteEligible_iff (s : State) (x : Site) : s.siteEligible x = true ↔
    (x.state = .active ∨ x.state = .ageing) ∧ (∃ h, x.report = some h ∧ h.condition = .normal) ∧
      (s.feeder x.static.feeder).enabled = true := by
  unfold State.siteEligible
  cases x.report <;> simp [and_assoc]

/-- A slot is allocated when some product's allocation is not 0. -/
theorem allocated_iff (s : State) (slot : Nat) :
    s.allocated slot = true ↔ ∃ p : Product, (s.dispatch slot).allocation.get p ≠ 0 := by
  simp only [State.allocated, PerProduct.toList, List.any_cons, List.any_nil, Bool.or_false, Bool.or_eq_true,
    decide_eq_true_eq]
  constructor
  · rintro (h | h | h | h | h | h | h | h)
    exacts [⟨0, h⟩, ⟨1, h⟩, ⟨2, h⟩, ⟨3, h⟩, ⟨4, h⟩, ⟨5, h⟩, ⟨6, h⟩, ⟨7, h⟩]
  · rintro ⟨p, h⟩
    fin_cases p <;> simp_all [PerProduct.get]

theorem eligible_of_siteAt {s : State} {slot : Nat} {x : Site} (h : s.siteAt slot = some x) :
    s.eligible slot = s.siteEligible x := by
  simp [State.eligible, h]

/-- Allocations read the dispatch records alone. -/
theorem allocated_congr {s t : State} (h : t.allocation.records = s.allocation.records) (slot : Nat) :
    t.allocated slot = s.allocated slot := by
  simp only [State.allocated, State.dispatch, h]

@[simp] theorem State.trigger_records (s : State) : s.trigger.allocation.records = s.allocation.records := by
  rw [trigger_eq]

@[simp] theorem State.signalExclusion_records (s : State) (slot : Nat) (b : Bool) :
    (s.signalExclusion slot b).allocation.records = s.allocation.records := by
  unfold State.signalExclusion
  split
  · exact s.trigger_records
  · rfl

/-- R126: a trigger counts from any state with the same Allocation Engine, under any wording of its condition. -/
theorem State.TriggersOnce.congr {s s' t : State} {c c' : Prop} (h : s.TriggersOnce t c)
    (hs : s'.allocation = s.allocation) (hc : c' ↔ c) : s'.TriggersOnce t c' where
  kept n := by rw [hs]; exact h.kept (mt hc.2 n)
  pended n := by rw [hs]; exact h.pended (hc.1 n)
  started n := by rw [hs]; exact h.started (hc.1 n)

/-- R126: one trigger, made when `b` holds. -/
theorem triggersOnce_when (s : State) (b : Bool) : s.TriggersOnce (if b then s.trigger else s) (b = true) := by
  cases b with
  | false => exact ⟨fun _ => rfl, by simp, by simp⟩
  | true => exact (trigger_triggersOnce s).congr rfl (by simp)

theorem State.dispatch_setDispatch_same {s : State} (w : s.tablesHeld) (slot : Nat) (d : DispatchRecord) :
    (s.setDispatch slot d).dispatch slot = d := Table.readOr_writeOr_same (Table.wf_of_wfOr w.1) slot d

theorem State.dispatch_setDispatch_other {s : State} (w : s.tablesHeld) {slot k : Nat} (h : k ≠ slot)
    (d : DispatchRecord) : (s.setDispatch slot d).dispatch k = s.dispatch k :=
  Table.readOr_writeOr_other (Table.wf_of_wfOr w.1) h d

/-! ## Site reports (R23 to R36) -/

/-- R23: the head frame leaves the Fleet buffer, and the report it carries is handled. -/
theorem siteReport_handled {s : State} {f : Frame} {rest : List Frame} {r : SiteReport}
    (hb : s.links.fleet.buffer = f :: rest) (hp : parseSiteReport f.payload = some r) :
    exec .siteReport s = .next ((s.dropHead .fleet).handleReport r) := by
  change execSiteReport s = _
  simp [execSiteReport, hb, hp]

/-- R30: the sequence of a report passes when it is ahead of the held one. -/
theorem sequencePasses_iff (old : Option ReportFields) (n : Nat) : sequencePasses old n = true ↔
    ∀ h, old = some h → 1 ≤ (n + 65536 - h.sequence % 65536) % 65536 ∧ (n + 65536 - h.sequence % 65536) % 65536 ≤ 32767 := by
  cases old <;> simp [sequencePasses, aheadOf]

/-- R32: the power limited by the ratings, as a bound from either side. -/
theorem clampPower_eq (p : Int) (f : StaticFields) :
    clampPower p f = max (-(f.chargeRating : Int)) (min p f.dischargeRating) := by
  unfold clampPower
  split
  · omega
  · split <;> omega

/-- R35: the report moves the condition away from NORMAL. -/
theorem leavesNormal_iff (old : Option ReportFields) (c : Condition) :
    leavesNormal old c = true ↔ (∃ h, old = some h ∧ h.condition = .normal) ∧ c ≠ .normal := by
  cases old <;> simp [leavesNormal]

/-- R137: a confirmation is taken while unconfirmed, for a release at or ahead of release sent. -/
theorem confirm_eq (d : DispatchRecord) (applied : Nat) (confirms : Prop) [Decidable confirms]
    (h : confirms ↔ d.confirmed = false ∧ applied ≠ 0 ∧
      ∃ sent, d.releaseSent = some sent ∧ (applied + 65536 - sent % 65536) % 65536 ≤ 32767) :
    d.confirm applied = if confirms then { d with confirmed := true, run := 0, expiry := none, carry := false } else d := by
  unfold DispatchRecord.confirm
  cases hd : d.releaseSent with
  | none => simp [h, hd]
  | some sent => simp [h, hd, atOrAhead, and_assoc]

/-- R25: a report of a number that is not mapped. -/
theorem handleReport_unmapped {s : State} {r : SiteReport} (h : s.slotOf r.siteNumber = none) :
    s.handleReport r = s.raiseUnknown := by
  simp [State.handleReport, h]

/-- R27 to R31: the checks of a report of a mapped site, in their order. -/
theorem handleReport_mapped {s : State} {r : SiteReport} {slot : Nat} {x : Site}
    (hs : s.slotOf r.siteNumber = some slot) (hx : s.siteAt slot = some x) :
    s.handleReport r =
      if x.state = .barred then s.raiseUnknown
      else if x.static.tag ≠ r.tag then s.tagMismatch slot x
      else if sequencePasses x.report r.sequence then s.acceptReport slot x r
      else (s.setSite slot { x with tagRun := 0 }).raiseUnknown := by
  simp [State.handleReport, hs, hx]

/-- R34 to R36: apart from the Allocation Engine, acceptance replaces the site. -/
theorem acceptReport_eq (s : State) (slot : Nat) (x : Site) (r : SiteReport) :
    s.acceptReport slot x r =
      { s.setSite slot { x with
          report := some (acceptedFields r x.static s.localTime), state := stateOnAcceptance x.state, tagRun := 0 } with
        allocation := (s.acceptReport slot x r).allocation } := by
  unfold State.acceptReport
  dsimp only
  split
  · rw [trigger_eq]; rfl
  · rfl

/-- R36: acceptance hands the confirmation on. -/
theorem acceptReport_records (s : State) (slot : Nat) (x : Site) (r : SiteReport) :
    (s.acceptReport slot x r).allocation.records = (s.confirmSlot slot r.appliedRelease).allocation.records := by
  unfold State.acceptReport
  dsimp only
  split
  · rw [State.trigger_records]; rfl
  · rfl

/-- R35: acceptance makes one trigger when the report leaves NORMAL with a non-zero allocation. -/
theorem acceptReport_triggersOnce (s : State) (slot : Nat) (x : Site) (r : SiteReport) :
    (s.confirmSlot slot r.appliedRelease).TriggersOnce (s.acceptReport slot x r)
      ((leavesNormal x.report r.condition && s.allocated slot) = true) :=
  (triggersOnce_when ((s.setSite slot _).confirmSlot slot r.appliedRelease) _).congr rfl Iff.rfl

/-- Settles O11: the report passes every check, so it is accepted; then each block is read off. -/
theorem acceptedReportReplacesTheFields : Obligations.AcceptedReportReplacesTheFields := by
  classical
  unfold Obligations.AcceptedReportReplacesTheFields
  intro s f rest r slot x hb hp hs hx barred tag sequence held stored power d confirms excluded
  have accepted : (s.dropHead .fleet).handleReport r = (s.dropHead .fleet).acceptReport slot x r := by
    rw [handleReport_mapped (s := s.dropHead .fleet) hs hx]
    simp [barred, tag, (sequencePasses_iff _ _).2 sequence]
  refine ⟨_, by rw [siteReport_handled hb hp, accepted], ?_⟩
  have confirmed : ((s.dropHead .fleet).acceptReport slot x r).allocation.records =
      (s.setDispatch slot (d.confirm r.appliedRelease)).allocation.records := acceptReport_records _ slot x r
  have written := confirm_eq d r.appliedRelease confirms Iff.rfl
  have reads (k : Nat) : ((s.dropHead .fleet).acceptReport slot x r).dispatch k =
      (s.setDispatch slot (d.confirm r.appliedRelease)).dispatch k := by rw [State.dispatch, confirmed]; rfl
  have once := acceptReport_triggersOnce (s.dropHead .fleet) slot x r
  have shape := acceptReport_eq (s.dropHead .fleet) slot x r
  generalize (s.dropHead .fleet).acceptReport slot x r = t at *
  generalize t.allocation = a at *
  subst shape
  refine ⟨?_, fun k hk => State.siteAt_setSite_other s hk _, fun yes => ?_, fun no => ?_, fun k hk => ?_, ?_, ?_,
    rfl, rfl, rfl, rfl, rfl, rfl, rfl, rfl, rfl, rfl, rfl, rfl⟩
  · refine (State.siteAt_setSite_same s slot _).trans ?_
    simp only [acceptedFields, clampPower_eq, stateOnAcceptance]
    rfl
  · rw [reads, State.dispatch_setDispatch_same held, written, if_pos yes]
  · rw [reads, State.dispatch_setDispatch_same held, written, if_neg no]
  · rw [reads, State.dispatch_setDispatch_other held hk]
  · refine once.congr ?_ ?_
    · rw [confirmed]; rfl
    · have same : (s.dropHead .fleet).allocated slot = s.allocated slot := rfl
      rw [Bool.and_eq_true, leavesNormal_iff, same, allocated_iff, and_assoc]
  · simp [State.dropHead, State.setEngine, State.engine, hb, State.setSite]

/-- R9: an exclusion makes its trigger, or leaves the state. -/
theorem signalExclusion_when (s : State) (slot : Nat) (was : Bool) (c : Prop) [Decidable c]
    (h : c ↔ was = true ∧ s.eligible slot = false ∧ s.allocated slot = true) :
    s.signalExclusion slot was = if c then s.trigger else s := by
  simp [State.signalExclusion, h, and_assoc]

/-- R9: a site in a state that is neither ACTIVE nor AGEING is not eligible. -/
theorem siteEligible_of_state {s : State} {x : Site} (active : x.state ≠ .active) (ageing : x.state ≠ .ageing) :
    s.siteEligible x = false := by
  simp [State.siteEligible, active, ageing]

/-- R8, R9, R14: a site enters BARRED with its notice, and with a trigger when it was eligible and allocated. -/
theorem enterBarred_eq (s : State) (slot : Nat) (x : Site) (reason : BarReason) (c : Prop) [Decidable c]
    (h : c ↔ s.siteEligible x = true ∧ s.allocated slot = true) :
    s.enterBarred slot x reason =
      if c then ((s.setSite slot (x.barred reason)).post (.siteBarred slot x.static.siteNumber reason)).trigger
      else (s.setSite slot (x.barred reason)).post (.siteBarred slot x.static.siteNumber reason) := by
  refine signalExclusion_when _ _ _ _ ?_
  have eligible : State.eligible ((s.setSite slot (x.barred reason)).post (.siteBarred slot x.static.siteNumber reason))
      slot = false := by
    rw [eligible_of_siteAt (x := x.barred reason) (by simp only [State.siteAt, State.post_fleet]; exact Table.find_put_same _ _ _)]
    exact siteEligible_of_state (by simp [Site.barred]) (by simp [Site.barred])
  have records : State.allocated ((s.setSite slot (x.barred reason)).post (.siteBarred slot x.static.siteNumber reason))
      slot = s.allocated slot := allocated_congr (by simp) slot
  simp [h, eligible, records]

/-- Settles O12: each check in its order, with what its failure leaves. -/
theorem discardedReportChangesWhatItsCheckSays : Obligations.DiscardedReportChangesWhatItsCheckSays := by
  unfold Obligations.DiscardedReportChangesWhatItsCheckSays
  intro s f rest hb u discarded
  refine ⟨fun hp => ?_, fun r hp => ⟨fun hs => ?_, fun slot x hs hx => ?_⟩⟩
  · change execSiteReport s = _
    simp [execSiteReport, hb, hp, u]
  · rw [siteReport_handled hb hp, handleReport_unmapped (s := s.dropHead .fleet) hs]
    rfl
  · rw [siteReport_handled hb hp, handleReport_mapped (s := s.dropHead .fleet) hs hx]
    refine ⟨fun barred => ?_, fun barred tag below => ?_, fun barred tag reached => ?_, fun h hr barred tag behind => ?_⟩
    · rw [if_pos barred]; rfl
    · rw [if_neg barred, if_pos tag]
      exact congrArg _ (if_neg (not_le.2 below))
    · rw [if_neg barred, if_pos tag]
      refine congrArg _ ((if_pos reached).trans (enterBarred_eq _ _ _ _ _ ?_))
      have eligible : u.siteEligible { x with tagRun := min (x.tagRun + 1) 15 } = s.siteEligible x := rfl
      have allocated : u.allocated slot = s.allocated slot := rfl
      rw [eligible, allocated, siteEligible_iff, allocated_iff]
      simp only [and_assoc]
    · have fails : ¬ sequencePasses x.report r.sequence = true := fun passes =>
        behind ((sequencePasses_iff _ _).1 passes h hr)
      rw [if_neg barred, if_neg (by simpa using tag), if_neg fails]
      rfl

/-! ## Ageing (R5, R7) -/

/-- Settles O13: an ageing event changes the state alone; eligibility ends at STALE only. -/
theorem sitesAgeAndSuspectHoldEnds : Obligations.SitesAgeAndSuspectHoldEnds := by
  unfold Obligations.SitesAgeAndSuspectHoldEnds
  intro slot s x r hx hr
  have aged (st : SiteState) (h : s.agedState x = some st) : exec (.siteAgeing slot) s =
      .next ((s.setSite slot { x with state := st }).signalExclusion slot (s.siteEligible x)) := by
    change execSiteAgeing slot s = _
    simp [execSiteAgeing, hx, h]
  have eligible (st : SiteState) : (s.setSite slot { x with state := st }).eligible slot =
      s.siteEligible { x with state := st } := eligible_of_siteAt (State.siteAt_setSite_same s slot _)
  refine ⟨fun active due => ?_, fun ageing due => ?_, fun expiry suspect hexpiry due => ?_⟩
  · rw [aged .ageing (by simp [State.agedState, hr, active, due]), signalExclusion_when _ _ _ False, if_neg id]
    have kept : s.siteEligible { x with state := .ageing } = s.siteEligible x := by simp [State.siteEligible, active]
    rw [eligible, kept]
    cases s.siteEligible x <;> simp
  · rw [aged .stale (by simp [State.agedState, hr, ageing, due])]
    congr 1
    refine signalExclusion_when _ _ _ _ ?_
    have stale : s.siteEligible { x with state := .stale } = false := siteEligible_of_state nofun nofun
    have records : (s.setSite slot { x with state := .stale }).allocated slot = s.allocated slot := rfl
    rw [eligible, stale, records]
    simp
  · change execSuspectExpiry slot s = _
    have ended : s.suspectOver x = true := by simp [State.suspectOver, suspect, hexpiry, due]
    simp only [execSuspectExpiry, hx, ended, if_true, State.gradedState, hr, Params.gradeAge, ReportFields.age]
    rfl

end Sys2Proof.Machine

namespace Sys2Proof.Machine

/-! ## The confirmation timeout and the limit report (R6, R138, R140) -/

/-- What a pass latches is not the Allocation Engine's. -/
theorem State.LatchedBy.of_allocation {s : State} {l : PassLatch} (h : s.LatchedBy l) (a : Allocation) :
    State.LatchedBy { s with allocation := a } l :=
  ⟨h.targets, h.banks, h.roster, h.census, h.slots⟩

/-! ### The egress reads nothing of the Allocation Engine -/

theorem handOverOffer_allocation (s : State) (a : Allocation) (id : Nat) :
    State.handOverOffer { s with allocation := a } id = { s.handOverOffer id with allocation := a } := by
  have found : State.findOffer { s with allocation := a } id = s.findOffer id := rfl
  cases h : s.findOffer id with
  | none => simp [State.handOverOffer, found, h]
  | some o => simp only [State.handOverOffer, found, h]; rfl

theorem handOverWithdraw_allocation (s : State) (a : Allocation) (id : Nat) :
    State.handOverWithdraw { s with allocation := a } id = { s.handOverWithdraw id with allocation := a } := by
  have found : State.findOffer { s with allocation := a } id = s.findOffer id := rfl
  cases h : s.findOffer id with
  | none => simp [State.handOverWithdraw, found, h]
  | some o => simp only [State.handOverWithdraw, found, h]; rfl

theorem handOver_allocation (s : State) (a : Allocation) (x : Source) :
    State.handOver { s with allocation := a } x = { s.handOver x with allocation := a } := by
  cases x with
  | ack =>
    cases h : s.arbiter.ack <;> simp [State.handOver, h]
    rfl
  | availability =>
    cases h : s.arbiter.availability <;> simp [State.handOver, h]
    rfl
  | offer =>
    cases h : s.arbiter.offers with
    | nil => simp [State.handOver, h]
    | cons e rest =>
      cases e with
      | offer id => simp only [State.handOver, h]; exact handOverOffer_allocation { s with arbiter := { s.arbiter with offers := rest } } a id
      | withdraw id => simp only [State.handOver, h]; exact handOverWithdraw_allocation { s with arbiter := { s.arbiter with offers := rest } } a id
  | report =>
    cases h : s.arbiter.reports <;> simp [State.handOver, h]
    rfl
  | response =>
    cases h : s.arbiter.response <;> simp [State.handOver, h]
    rfl
  | notice =>
    cases h : s.management.notices <;> simp [State.handOver, h]
    rfl

theorem choose_allocation (s : State) (a : Allocation) :
    State.choose { s with allocation := a } = { s.choose with allocation := a } := by
  have chosen : State.chosenSource { s with allocation := a } = s.chosenSource := rfl
  unfold State.choose
  simp only [chosen]
  split
  · cases s.chosenSource with
    | none => rfl
    | some x => exact handOver_allocation s a x
  · rfl

/-- R193: a notice is posted alike whatever the Allocation Engine holds. -/
theorem post_allocation (s : State) (a : Allocation) (n : Notice) :
    State.post { s with allocation := a } n = { s.post n with allocation := a } := by
  unfold State.post State.afterPlacing
  dsimp only
  split
  · split
    · split
      · exact choose_allocation { s with management := { s.management with notices := s.management.notices ++ [n] } } a
      · rfl
    · rfl
  · rfl

/-- R126: a trigger leaves the dispatch records. -/
theorem State.TriggersOnce.records {s t : State} {c : Prop} (h : s.TriggersOnce t c) :
    t.allocation.records = s.allocation.records := by
  by_cases hc : c
  · cases hp : s.allocation.pass with
    | some l => rw [h.pended hc (by simp [hp])]
    | none =>
      obtain ⟨l, -, e⟩ := h.started hc hp
      rw [e]
  · rw [h.kept hc]

/-- R6, R9: a limit report taken triggers once when the slot's site was eligible and allocated. -/
theorem reportUnconfirmed_triggersOnce (s : State) (slot : Nat) :
    s.TriggersOnce (s.reportUnconfirmed slot) (s.eligible slot = true ∧ s.allocated slot = true) := by
  have quiet {t : State} (ha : t.allocation = s.allocation) (he : s.eligible slot = false) :
      s.TriggersOnce t (s.eligible slot = true ∧ s.allocated slot = true) :=
    ⟨fun _ => ha, by simp [he], by simp [he]⟩
  unfold State.reportUnconfirmed
  extract_lets expiry
  cases hx : s.siteAt slot with
  | none => exact quiet rfl (by simp [State.eligible, hx])
  | some x =>
    have eligible := eligible_of_siteAt hx
    dsimp only
    split
    · refine (signalExclusion_triggersOnce _ slot (s.siteEligible x)).congr (by simp) ?_
      have suspect : State.eligible ((s.setSite slot { x with state := .suspect, suspectExpiry := some expiry }).post
          (.siteSuspect slot x.static.siteNumber expiry)) slot = false := by
        rw [eligible_of_siteAt (x := { x with state := .suspect, suspectExpiry := some expiry })
          (by simp only [State.siteAt, State.post_fleet]; exact Table.find_put_same _ _ _)]
        exact siteEligible_of_state nofun nofun
      have records : State.allocated ((s.setSite slot { x with state := .suspect, suspectExpiry := some expiry }).post
          (.siteSuspect slot x.static.siteNumber expiry)) slot = s.allocated slot := allocated_congr (by simp) slot
      simp [eligible, suspect, records]
    · next other =>
      have ineligible : s.eligible slot = false := by
        rw [eligible]
        exact siteEligible_of_state (fun h => other (.inl h)) (fun h => other (.inr (.inl h)))
      split <;> exact quiet rfl ineligible

/-- R6: what a limit report taken does to the site, whatever the Allocation Engine holds before and after it. -/
theorem reportUnconfirmed_acts (s : State) (slot : Nat) (b a : Allocation) :
    let hold := s.localTime + s.params.suspectHold * 1000
    let t : State := { State.reportUnconfirmed { s with allocation := b } slot with allocation := a }
    (s.siteAt slot = none → t = { s with allocation := t.allocation }) ∧
    ∀ x, s.siteAt slot = some x →
      (x.state = .active ∨ x.state = .ageing ∨ x.state = .stale →
        t = { (s.setSite slot { x with state := .suspect, suspectExpiry := some hold }).post
                (.siteSuspect slot x.static.siteNumber hold) with allocation := t.allocation }) ∧
      (x.state = .suspect →
        t = { s.setSite slot { x with suspectExpiry := some hold } with allocation := t.allocation }) ∧
      (x.state = .listed ∨ x.state = .barred → t = { s with allocation := t.allocation }) := by
  intro hold t
  have shape {u : State} (h : State.reportUnconfirmed { s with allocation := b } slot =
      { u with allocation := (State.reportUnconfirmed { s with allocation := b } slot).allocation }) :
      t = { u with allocation := t.allocation } := by
    simp only [t]
    rw [h]
  refine ⟨fun vacant => shape ?_, fun x hx => ⟨fun entering => shape ?_, fun suspect => shape ?_, fun other => shape ?_⟩⟩
  · have vacant : State.siteAt { s with allocation := b } slot = none := vacant
    simp [State.reportUnconfirmed, vacant]
  all_goals have hx : State.siteAt { s with allocation := b } slot = some x := hx
  · simp only [State.reportUnconfirmed, hx, if_pos entering]
    refine (signalExclusion_eq _ _ _).trans ?_
    rw [show State.setSite { s with allocation := b } slot _ = { s.setSite slot _ with allocation := b } from rfl,
      post_allocation]
    rfl
  · simp [State.reportUnconfirmed, hx, suspect, hold]
    rfl
  · rcases other with other | other <;> simp [State.reportUnconfirmed, hx, other]

/-- R138: the mark set and the timeout's own trigger made, after `u` was left with the report made and one trigger for it
under `excluded`. -/
theorem timeout_marks_and_triggers {s u : State} {slot : Nat} {d : DispatchRecord} {reports : List Nat} {excluded : Prop}
    (held : u.tablesHeld) (own : u.dispatch slot = d) (others : ∀ k, k ≠ slot → u.dispatch k = s.dispatch k)
    (once : State.TriggersOnce { s with allocation := { s.allocation with
      records := u.allocation.records, reports := reports } } u excluded) :
    let t := (u.setDispatch slot { u.dispatch slot with carry := true }).trigger
    let kept : Allocation := { s.allocation with records := t.allocation.records, reports := reports }
    t = { u with allocation := t.allocation } ∧
    t.dispatch slot = { d with carry := true } ∧ (∀ k, k ≠ slot → t.dispatch k = s.dispatch k) ∧
    (s.allocation.pass.isSome = true → t.allocation = { kept with passPending := true }) ∧
    (s.allocation.pass = none →
      (∃ l, t.LatchedBy l ∧ t.allocation = { kept with pass := some l, passPending := t.allocation.passPending }) ∧
      (t.allocation.passPending = true ↔ excluded)) := by
  intro t kept
  have marked := trigger_triggersOnce (u.setDispatch slot { u.dispatch slot with carry := true })
  have alone : t = { u with allocation := t.allocation } := by simp only [t]; rw [trigger_eq]; rfl
  have reads (k : Nat) : t.dispatch k = (u.setDispatch slot { u.dispatch slot with carry := true }).dispatch k := by
    simp only [State.dispatch, t, State.trigger_records]
  -- the timeout's trigger when the pass runs already, and when it does not
  have pends (h : u.allocation.pass.isSome = true) :
      t.allocation = { u.allocation with records := t.allocation.records, passPending := true } := by
    rw [marked.pended trivial h]; rfl
  have starts (h : u.allocation.pass = none) : ∃ l, t.LatchedBy l ∧
      t.allocation = { u.allocation with records := t.allocation.records, pass := some l, passPending := false } := by
    obtain ⟨l, latched, e⟩ := marked.started trivial h
    exact ⟨l, latched, by rw [e]; rfl⟩
  refine ⟨alone, by rw [reads, State.dispatch_setDispatch_same held, own],
    fun k hk => by rw [reads, State.dispatch_setDispatch_other held hk, others k hk], fun running => ?_, fun idle => ?_⟩
  · by_cases ex : excluded
    · have e := once.pended ex running
      rw [pends (by rw [e]; exact running), e]
    · have e := once.kept ex
      rw [pends (by rw [e]; exact running), e]
  · by_cases ex : excluded
    · obtain ⟨l, latched, e⟩ := once.started ex idle
      have pending := pends (by rw [e]; rfl)
      refine ⟨⟨l, ?_, ?_⟩, fun _ => ex, fun _ => by rw [pending]⟩
      · rw [alone]; exact latched.of_allocation _
      · rw [pending, e]
    · have e := once.kept ex
      obtain ⟨l, latched, started⟩ := starts (by rw [e]; exact idle)
      refine ⟨⟨l, latched, ?_⟩, fun h => ?_, fun h => absurd h ex⟩
      · rw [started, e]
      · rw [started] at h; cases h

/-- R138: a confirmation timeout that is due is taken where no limit report waits. -/
theorem confirmationTimeout_due {s : State} {slot expiry : Nat} (waiting : slot ∉ s.allocation.reports)
    (armed : (s.dispatch slot).expiry = some expiry) (due : expiry ≤ s.localTime) :
    exec (.confirmationTimeout slot) s =
      .next (s.confirmationTimeout slot (Config.limitReportAtOnce s.freeDraws)) := by
  change execConfirmationTimeout slot s = _
  simp [execConfirmationTimeout, waiting, State.confirmationDue, armed, due]

/-- R6, R138: at the limit and at once, the Fleet Table has taken the report before the mark is set. -/
theorem confirmationTimeout_atOnce {s : State} {slot : Nat} {d : DispatchRecord}
    (limit : (s.dispatch slot).sent ≠ 0 ∧ s.params.unconfirmedLimit ≤ (s.dispatch slot).runAfterTimeout)
    (stopped : d = { s.dispatch slot with expiry := none, run := (s.dispatch slot).runAfterTimeout }) :
    let u := State.reportUnconfirmed { s.setDispatch slot d with freeDraws := s.freeDraws + 1 } slot
    s.confirmationTimeout slot true = (u.setDispatch slot { u.dispatch slot with carry := true }).trigger := by
  subst stopped
  simp only [State.confirmationTimeout, if_pos limit]
  rfl

/-- R6, R138: at the limit and later, the report waits. -/
theorem confirmationTimeout_later {s : State} {slot : Nat} {d : DispatchRecord}
    (limit : (s.dispatch slot).sent ≠ 0 ∧ s.params.unconfirmedLimit ≤ (s.dispatch slot).runAfterTimeout)
    (stopped : d = { s.dispatch slot with expiry := none, run := (s.dispatch slot).runAfterTimeout }) :
    let u := State.waitReport { s.setDispatch slot d with freeDraws := s.freeDraws + 1 } slot
    s.confirmationTimeout slot false = (u.setDispatch slot { u.dispatch slot with carry := true }).trigger := by
  subst stopped
  simp only [State.confirmationTimeout, if_pos limit]
  rfl

/-- R138: below the limit no report is made. -/
theorem confirmationTimeout_unreported {s : State} {slot : Nat} {d : DispatchRecord} (atOnce : Bool)
    (below : ¬ ((s.dispatch slot).sent ≠ 0 ∧ s.params.unconfirmedLimit ≤ (s.dispatch slot).runAfterTimeout))
    (stopped : d = { s.dispatch slot with expiry := none, run := (s.dispatch slot).runAfterTimeout }) :
    let u := s.setDispatch slot d
    s.confirmationTimeout slot atOnce = (u.setDispatch slot { u.dispatch slot with carry := true }).trigger := by
  subst stopped
  simp only [State.confirmationTimeout, if_neg below]

/-- Settles O40: a timeout without a report, one whose report waits and one whose report is taken at once differ in the
state that the mark and the timeout's trigger find; a report handed over later is the report alone. -/
theorem confirmationTimeoutMarksTheSlot : Obligations.ConfirmationTimeoutMarksTheSlot := by
  unfold Obligations.ConfirmationTimeoutMarksTheSlot
  intro slot s atOnce hold acts excluded
  refine ⟨fun waiting held expiry armed due => ?_, fun waiting => ?_⟩
  · intro d run reported
    refine ⟨_, confirmationTimeout_due waiting armed due, ?_⟩
    intro kept
    let d' : DispatchRecord := { d with expiry := none, run := run }
    have tables := (setDispatch_steady s slot d').tables held
    have own := State.dispatch_setDispatch_same held slot d'
    have others (k : Nat) (hk : k ≠ slot) : (s.setDispatch slot d').dispatch k = s.dispatch k :=
      State.dispatch_setDispatch_other held hk d'
    by_cases limit : reported
    · cases now : Config.limitReportAtOnce s.freeDraws with
      | true =>
        let v : State := { s.setDispatch slot d' with freeDraws := s.freeDraws + 1 }
        have taken := reportUnconfirmed_triggersOnce v slot
        have allocated : v.allocated slot = s.allocated slot := by
          rw [Bool.eq_iff_iff, allocated_iff, allocated_iff]
          exact exists_congr fun p => by rw [show v.dispatch slot = d' from own]
        have reads (k : Nat) : (v.reportUnconfirmed slot).dispatch k = v.dispatch k := by
          simp only [State.dispatch, taken.records]
        have once : State.TriggersOnce { s with allocation := { s.allocation with
            records := (v.reportUnconfirmed slot).allocation.records, reports := s.allocation.reports } }
            (v.reportUnconfirmed slot) excluded := by
          refine taken.congr ?_ (by rw [allocated]; rfl)
          rw [taken.records]; rfl
        obtain ⟨shape, marked, rest, running, idle⟩ := timeout_marks_and_triggers
          ((reportUnconfirmed_keepsForm v slot).tables tables) ((reads slot).trans own)
          (fun k hk => (reads k).trans (others k hk)) once
        have ends := confirmationTimeout_atOnce (d := d') limit rfl
        change _ = ((v.reportUnconfirmed slot).setDispatch slot _).trigger at ends
        rw [← ends] at shape marked rest running idle
        have acted := reportUnconfirmed_acts v slot v.allocation (s.confirmationTimeout slot true).allocation
        rw [← shape] at acted
        simp only [kept, atOnce, now, limit, Bool.true_eq_false, and_false, if_false, true_and]
        exact ⟨marked, rest, fun _ _ => acted, fun _ h => h.elim, fun h => (h trivial).elim, running, idle⟩
      | false =>
        obtain ⟨shape, marked, rest, running, idle⟩ := timeout_marks_and_triggers
          (u := State.waitReport { s.setDispatch slot d' with freeDraws := s.freeDraws + 1 } slot) tables own others
          (reports := s.allocation.reports ++ [slot]) (excluded := False) ⟨fun _ => rfl, False.elim, False.elim⟩
        have ends := confirmationTimeout_later (d := d') limit rfl
        dsimp only at ends
        rw [← ends] at shape marked rest running idle
        simp only [kept, atOnce, now, limit, Bool.false_eq_true, and_false, false_and, if_true, true_and]
        exact ⟨marked, rest, fun _ h => h.elim, fun _ _ => shape, fun h => (h trivial).elim, running, idle⟩
    · have below := confirmationTimeout_unreported (d := d') atOnce limit rfl
      obtain ⟨shape, marked, rest, running, idle⟩ := timeout_marks_and_triggers tables own others
        (reports := s.allocation.reports) (excluded := False) ⟨fun _ => rfl, False.elim, False.elim⟩
      rw [← below] at shape marked rest running idle
      simp only [kept, limit, false_and, if_false]
      exact ⟨marked, rest, False.elim, False.elim, fun _ => shape, running, idle⟩
  · have taken : exec (.confirmationTimeout slot) s = .next ((s.dropReport slot).reportUnconfirmed slot) := by
      change execConfirmationTimeout slot s = _
      simp only [execConfirmationTimeout, if_pos waiting, State.takeReport]
    exact ⟨_, taken, reportUnconfirmed_acts s slot (s.dropReport slot).allocation ((s.dropReport slot).reportUnconfirmed slot).allocation,
      (reportUnconfirmed_triggersOnce (s.dropReport slot) slot).congr rfl Iff.rfl⟩

end Sys2Proof.Machine

namespace Sys2Proof.Machine

/-! ## Requests about one site (R13 to R16) -/

/-- R184: a request of the code and length a command executes is run. -/
theorem request_run {s : State} {r : PendingRequest} {code length : Nat} {run : State → PendingRequest → State}
    (next : s.nextOf code = some r) (hl : r.payload.length = length) :
    s.request code length run = run s.takeRequest r := by
  simp [State.request, next, hl]

/-- R13: a number that is not mapped names no record. -/
theorem siteRequest_unmapped {s : State} {r : PendingRequest} (act : State → Nat → Site → Except Reason State)
    (h : s.slotOf (fieldAt r.payload 1 4) = none) : s.siteRequest act r = s.respond r (some .noSuchRecord) [] := by
  simp [State.siteRequest, State.siteNamed, h, State.answer]

/-- R13: a mapped number names the site in its slot. -/
theorem siteRequest_mapped {s : State} {r : PendingRequest} (act : State → Nat → Site → Except Reason State)
    {slot : Nat} {x : Site} (h : s.slotOf (fieldAt r.payload 1 4) = some slot) (hx : s.siteAt slot = some x) :
    s.siteRequest act r = s.answer r (act s slot x) := by
  simp [State.siteRequest, State.siteNamed, h, hx]

/-- R9: a site that is eligible and allocated, by its fields. -/
theorem eligible_allocated_iff (s : State) (slot : Nat) (x : Site) :
    s.siteEligible x = true ∧ s.allocated slot = true ↔ (x.state = .active ∨ x.state = .ageing) ∧
      (∃ h, x.report = some h ∧ h.condition = .normal) ∧ (s.feeder x.static.feeder).enabled = true ∧
      ∃ p : Product, (s.dispatch slot).allocation.get p ≠ 0 := by
  rw [siteEligible_iff, allocated_iff]
  simp only [and_assoc]

/-- R11, R16: when a slot is free of dispatch. -/
theorem undispatched_iff (s : State) (slot : Nat) : s.undispatched slot = true ↔
    (s.dispatch slot).sent = 0 ∧ (s.dispatch slot).confirmed = true ∧
      ¬ ∃ e, s.allocation.emission = some e ∧ ∃ f ∈ e.frames, ∃ y ∈ f, y.slot = slot := by
  unfold State.undispatched State.entryWaits
  cases s.allocation.emission with
  | none => simp
  | some e => simp [and_assoc]

/-- R9: an exclusion of a site that is not eligible any more triggers when it was, and the slot is allocated. -/
theorem signalExclusion_ineligible {s t : State} {slot : Nat} {was : Bool} {c : Prop}
    (out : t.eligible slot = false) (records : t.allocation = s.allocation)
    (hc : c ↔ was = true ∧ s.allocated slot = true) : s.TriggersOnce (t.signalExclusion slot was) c := by
  have allocated : t.allocated slot = s.allocated slot := allocated_congr (by rw [records]) slot
  exact (signalExclusion_triggersOnce t slot was).congr records.symm (by simp [hc, out, allocated])

/-- R14: BAR_SITE by whether the site is BARRED with reason HOST already; its post comes with the new site. -/
theorem barSite_effect (s : State) (slot : Nat) (x : Site) :
    let barred : Site := { x with
      state := .barred, barReason := some .host
      suspectExpiry := if x.state = .barred then x.suspectExpiry else none }
    let w := if x.state = .barred ∧ x.barReason = some .host then s
      else (s.setSite slot barred).post (.siteBarred slot x.static.siteNumber .host)
    let t := s.barSite slot x
    t = { w with allocation := t.allocation } ∧
    s.TriggersOnce t (s.siteEligible x = true ∧ s.allocated slot = true) ∧
    (s.siteAt slot = some x → t.siteAt slot = some barred ∧ ∀ k, k ≠ slot → t.siteAt k = s.siteAt k) := by
  intro barred w t
  have quiet {u : State} (hb : x.state = .barred) (ha : u.allocation = s.allocation) :
      s.TriggersOnce u (s.siteEligible x = true ∧ s.allocated slot = true) := by
    have out : s.siteEligible x = false := siteEligible_of_state (by simp [hb]) (by simp [hb])
    exact ⟨fun _ => ha, by simp [out], by simp [out]⟩
  have reads {u : State} (hu : u.fleet = (s.setSite slot barred).fleet) :
      u.siteAt slot = some barred ∧ ∀ k, k ≠ slot → u.siteAt k = s.siteAt k := by
    simp only [State.siteAt, hu]
    exact ⟨Table.find_put_same _ _ _, fun k hk => Table.find_put_other _ hk _⟩
  by_cases hb : x.state = .barred
  · by_cases host : x.barReason = some .host
    · have ht : t = s := by simp [t, State.barSite, hb, host]
      have hw : w = s := if_pos ⟨hb, host⟩
      have same : barred = x := by
        simp only [barred, if_pos hb]
        rw [← hb, ← host]
      rw [hw, ht, same]
      exact ⟨rfl, quiet hb rfl, fun hx => ⟨hx, fun _ _ => rfl⟩⟩
    · have ht : t = w := by
        simp only [t, w, State.barSite, if_pos hb, if_neg host, barred]
        rw [if_neg (fun h => host h.2), ← hb]
      have hw : w = (s.setSite slot barred).post (.siteBarred slot x.static.siteNumber .host) :=
        if_neg (fun h => host h.2)
      rw [ht]
      exact ⟨rfl, quiet hb (by simp [hw]), fun _ => reads (by simp [hw])⟩
  · have hw : w = (s.setSite slot barred).post (.siteBarred slot x.static.siteNumber .host) :=
      if_neg (fun h => hb h.1)
    have ht : t = w.signalExclusion slot (s.siteEligible x) := by
      simp only [t, hw, State.barSite, if_neg hb, State.enterBarred, Site.barred, barred]
    have sites := reads (u := w) (by simp [hw])
    have out : w.eligible slot = false := by
      rw [eligible_of_siteAt sites.1]
      exact siteEligible_of_state nofun nofun
    rw [ht]
    exact ⟨signalExclusion_eq _ _ _, signalExclusion_ineligible out (by simp [hw]) Iff.rfl,
      fun _ => reads (by simp [hw])⟩

/-- R16: REMOVE_SITE of a slot free of dispatch. -/
theorem removeSite_effect {s : State} {slot : Nat} {x : Site} (held : s.fleetHeld) (hx : s.siteAt slot = some x)
    (free : s.undispatched slot = true) :
    ∃ t : State, s.removeSite slot x = .ok t ∧ t = { s with fleet := t.fleet, allocation := t.allocation } ∧
      (s.dropReport slot).TriggersOnce t (s.siteEligible x = true ∧ s.allocated slot = true) ∧
      t.siteAt slot = none ∧ (∀ k, k ≠ slot → t.siteAt k = s.siteAt k) ∧
      t.slotOf x.static.siteNumber = none ∧ (∀ n, n ≠ x.static.siteNumber → t.slotOf n = s.slotOf n) ∧
      (t.feeder x.static.feeder).siteCount + 1 = (s.feeder x.static.feeder).siteCount ∧
      (∀ f, t.feeder f = { s.feeder f with siteCount := (t.feeder f).siteCount } ∧
        (f ≠ x.static.feeder → (t.feeder f).siteCount = (s.feeder f).siteCount)) ∧ t.fleetHeld := by
  have held' := held
  have pos := held.siteCount_pos hx
  obtain ⟨wsites, wmap, wfeeders, -, -⟩ := held
  let v : State := { s.dropReport slot with fleet := { s.fleet with sites := Table.drop s.fleet.sites slot } }
  let u := (v.unmapSite x.static.siteNumber).countDown x.static.feeder
  have removed : s.removeSite slot x = .ok (u.signalExclusion slot (s.siteEligible x)) := if_pos free
  have vacant : u.siteAt slot = none := Table.find_drop_same wsites slot
  have counted (f : Nat) : u.feeder f = _ :=
    State.feeder_countDown (s := v.unmapSite x.static.siteNumber) (Table.wf_of_wfOr wfeeders) x.static.feeder f
  have fleet : (u.signalExclusion slot (s.siteEligible x)).fleet = u.fleet := State.signalExclusion_fleet _ _ _
  have old (f : Nat) : (v.unmapSite x.static.siteNumber).feeder f = s.feeder f := rfl
  have feeder (f : Nat) : (u.signalExclusion slot (s.siteEligible x)).feeder f = u.feeder f := by
    simp only [State.feeder, fleet]
  refine ⟨_, removed, ?_, ?_, ?_, fun k hk => ?_, ?_, fun n hn => ?_, ?_, fun f => ?_, removeSite_fleetHeld hx removed held'⟩
  · rw [fleet]
    exact signalExclusion_eq u slot (s.siteEligible x)
  · exact signalExclusion_ineligible (by simp only [State.eligible, vacant]) rfl Iff.rfl
  · simp only [State.siteAt, fleet]; exact vacant
  · simp only [State.siteAt, fleet]; exact Table.find_drop_other wsites hk
  · simp only [State.slotOf, fleet]; exact Table.find_drop_same wmap _
  · simp only [State.slotOf, fleet]; exact Table.find_drop_other wmap hn
  · rw [feeder, counted, old]
    simp only [if_true]
    omega
  · rw [feeder, counted, old]
    exact ⟨rfl, fun hf => by simp [hf]⟩

/-- Settles O51: each request runs on the site it names, by its command's own effect. -/
theorem sitesAreBarredClearedAndRemoved : Obligations.SitesAreBarredClearedAndRemoved := by
  unfold Obligations.SitesAreBarredClearedAndRemoved
  intro s r held hl u number
  refine ⟨fun unmapped => ⟨fun next => ?_, fun next => ?_, fun next => ?_⟩, fun slot x mapped hx => ?_⟩
  · change execBarSite s = _
    rw [execBarSite, request_run next hl, siteRequest_unmapped (s := u) _ unmapped]
  · change execClearSite s = _
    rw [execClearSite, request_run next hl, siteRequest_unmapped (s := u) _ unmapped]
  · change execRemoveSite s = _
    rw [execRemoveSite, request_run next hl, siteRequest_unmapped (s := u) _ unmapped]
  · intro excluded
    have own : x.static.siteNumber = number := held.siteNumber_eq mapped hx
    have mapped' : u.slotOf number = some slot := mapped
    have hx' : u.siteAt slot = some x := hx
    have was : excluded ↔ u.siteEligible x = true ∧ u.allocated slot = true := (eligible_allocated_iff s slot x).symm
    refine ⟨fun next => ⟨u.barSite slot x, ?_, ?_⟩, fun next => ⟨fun barred => ?_, fun other => ?_⟩, fun next => ?_⟩
    · change execBarSite s = _
      rw [execBarSite, request_run next hl, siteRequest_mapped _ mapped' hx']
      rfl
    · obtain ⟨shape, once, sites⟩ := barSite_effect u slot x
      rw [own] at shape
      obtain ⟨own, others⟩ := sites hx'
      exact ⟨shape, once.congr rfl was, own, others⟩
    · change execClearSite s = _
      rw [execClearSite, request_run next hl, siteRequest_mapped _ mapped' hx', State.clearSite, if_pos barred]
      rfl
    · change execClearSite s = _
      rw [execClearSite, request_run next hl, siteRequest_mapped _ mapped' hx', State.clearSite, if_neg other]
      rfl
    · intro d waits free
      have run : exec .removeSite s = .next (u.answer r (u.removeSite slot x)) := by
        change execRemoveSite s = _
        rw [execRemoveSite, request_run next hl, siteRequest_mapped _ mapped' hx']
      have unbound : u.undispatched slot = true ↔ free := undispatched_iff s slot
      rw [run]
      refine ⟨fun bound => ?_, fun isFree => ?_⟩
      · rw [State.removeSite, if_neg (fun h => bound (unbound.1 h))]
        rfl
      · obtain ⟨t, removed, shape, once, effects⟩ := removeSite_effect (s := u) held hx' (unbound.2 isFree)
        rw [removed]
        rw [own] at effects
        exact ⟨t, rfl, shape, once.congr rfl was, effects⟩

end Sys2Proof.Machine

namespace Sys2Proof.Machine

/-! ## Written site records (R11, R12) -/

/-- R2: the ranges of the static fields. -/
theorem staticInRange_iff (f : StaticFields) : f.inRange = true ↔
    1 ≤ f.siteNumber ∧ f.siteNumber ≤ 4294967295 ∧ f.feeder ≤ 63 ∧ f.dischargeRating ≤ 20000 ∧
      f.chargeRating ≤ 20000 ∧ f.eFloor ≤ f.eCeil ∧ f.eCeil ≤ 65535 := by
  simp only [StaticFields.inRange, Bool.and_eq_true, decide_eq_true_eq]
  have bound : Config.feeders = 64 := rfl
  omega

/-- What a load leaves of everything but the loaded slot, the Site Map and the counts. -/
structure LoadFrame (s t : State) (slot : Nat) : Prop where
  sites : ∀ k, k ≠ slot → t.siteAt k = s.siteAt k
  feeders : ∀ g, t.feeder g = { s.feeder g with siteCount := (t.feeder g).siteCount }
  records : t.allocation.records = s.allocation.records
  rest : t = { s with fleet := t.fleet, allocation := t.allocation }

theorem LoadFrame.trans {s t u : State} {slot : Nat} (h : LoadFrame s t slot) (k : LoadFrame t u slot) :
    LoadFrame s u slot where
  sites j hj := (k.sites j hj).trans (h.sites j hj)
  feeders g := by rw [k.feeders, h.feeders]
  records := k.records.trans h.records
  rest := by
    have old := h.rest
    have new := k.rest
    generalize t.fleet = a at *
    generalize t.allocation = b at *
    subst old
    exact new

/-- A write of the slot and of the Site Map alone. -/
theorem setSite_loadFrame {s t : State} {slot : Nat} {y : Site} {m : Table Nat}
    (h : t = { s with fleet := { (s.setSite slot y).fleet with siteMap := m } }) : LoadFrame s t slot where
  sites _ hk := by rw [h]; exact State.siteAt_setSite_other s hk y
  feeders _ := by rw [h]; rfl
  records := by rw [h]
  rest := by rw [h]

theorem moveCount_loadFrame {s : State} (w : Table.wfOr s.fleet.feeders Feeder.reset = true) (slot f g : Nat) :
    LoadFrame s (s.moveCount f g) slot where
  sites k _ := by rw [State.moveCount_eq]; rfl
  feeders k := (State.feeder_moveCount w f g k).1
  records := by rw [State.moveCount_eq]
  rest := by rw [State.moveCount_eq]

theorem countUp_loadFrame {s : State} (w : Table.wfOr s.fleet.feeders Feeder.reset = true) (slot g : Nat) :
    LoadFrame s (s.countUp g) slot where
  sites _ _ := rfl
  feeders k := by rw [State.feeder_countUp (Table.wf_of_wfOr w)]
  records := rfl
  rest := rfl

theorem signalExclusion_loadFrame (s : State) (slot : Nat) (was : Bool) :
    LoadFrame s (s.signalExclusion slot was) slot where
  sites k _ := by simp only [State.siteAt, State.signalExclusion_fleet]
  feeders g := by simp only [State.feeder, State.signalExclusion_fleet]
  records := State.signalExclusion_records s slot was
  rest := by
    rw [State.signalExclusion_fleet]
    exact signalExclusion_eq s slot was

/-- R12: what a load leaves, whatever the slot held. -/
theorem loadSite_frame {s : State} (held : s.fleetHeld) (slot : Nat) (f : StaticFields) :
    LoadFrame s (s.loadSite slot f) slot := by
  obtain ⟨-, -, wfeeders, -, -⟩ := held
  cases hx : s.siteAt slot with
  | none =>
    rw [loadSite_vacant hx]
    exact (setSite_loadFrame rfl).trans
      (countUp_loadFrame (s := (s.setSite slot (listedSite f)).mapSite f.siteNumber slot) wfeeders slot _)
  | some x =>
    by_cases hn : x.static.siteNumber = f.siteNumber
    · rw [loadSite_same hx hn]
      let u := s.setSite slot { x with static := f, tagRun := if x.static.tag = f.tag then x.tagRun else 0 }
      exact ((setSite_loadFrame rfl).trans (moveCount_loadFrame (s := u) wfeeders slot _ _)).trans
        (signalExclusion_loadFrame _ _ _)
    · rw [loadSite_other hx hn]
      let u := ((s.setSite slot (listedSite f)).unmapSite x.static.siteNumber).mapSite f.siteNumber slot
      exact ((setSite_loadFrame rfl).trans (moveCount_loadFrame (s := u) wfeeders slot _ _)).trans
        (signalExclusion_loadFrame _ _ _)

/-- R12: the site a load leaves in its slot. -/
theorem siteAt_moved (s : State) (f g slot : Nat) (was : Bool) :
    ((s.moveCount f g).signalExclusion slot was).siteAt slot = s.siteAt slot := by
  simp only [State.siteAt, State.signalExclusion_fleet]
  rw [State.moveCount_eq]

/-- R9, R12: a load of the number the slot holds takes eligibility by its feeder's state alone. -/
theorem loadSite_same_triggersOnce {s : State} {slot : Nat} {x : Site} {f : StaticFields} (held : s.fleetHeld)
    (hx : s.siteAt slot = some x) (hn : x.static.siteNumber = f.siteNumber) :
    s.TriggersOnce (s.loadSite slot f)
      (s.siteEligible x = true ∧ (s.feeder f.feeder).enabled = false ∧ s.allocated slot = true) := by
  let y : Site := { x with static := f, tagRun := if x.static.tag = f.tag then x.tagRun else 0 }
  let u := (s.setSite slot y).moveCount x.static.feeder f.feeder
  obtain ⟨-, -, wfeeders, -, -⟩ := held
  have frame : LoadFrame (s.setSite slot y) u slot :=
    moveCount_loadFrame (s := s.setSite slot y) wfeeders slot _ _
  have placed : u.siteAt slot = some y := by
    simp only [u]
    rw [State.moveCount_eq]
    exact State.siteAt_setSite_same s slot y
  have enabled : (u.feeder f.feeder).enabled = (s.feeder f.feeder).enabled := by rw [frame.feeders]; rfl
  have engine : u.allocation = s.allocation := by
    simp only [u]
    rw [State.moveCount_eq]
    rfl
  have allocated : u.allocated slot = s.allocated slot := allocated_congr (by rw [engine]) slot
  rw [loadSite_same hx hn]
  refine (signalExclusion_triggersOnce u slot (s.siteEligible x)).congr engine.symm ?_
  rw [eligible_of_siteAt placed, allocated]
  refine and_congr_right fun was => and_congr_left fun _ => ?_
  obtain ⟨states, report, -⟩ := (siteEligible_iff s x).1 was
  have reached : u.siteEligible y = true ↔ (s.feeder f.feeder).enabled = true := by
    rw [siteEligible_iff, ← enabled]
    exact ⟨fun ⟨_, _, h⟩ => h, fun h => ⟨states, report, h⟩⟩
  rw [← Bool.not_eq_true, ← Bool.not_eq_true, reached]

/-- R9, R12: a load of another number leaves a LISTED site in the slot, which is not eligible. -/
theorem loadSite_other_triggersOnce {s : State} {slot : Nat} {x : Site} {f : StaticFields}
    (hx : s.siteAt slot = some x) (hn : x.static.siteNumber ≠ f.siteNumber) :
    s.TriggersOnce (s.loadSite slot f) (s.siteEligible x = true ∧ s.allocated slot = true) := by
  rw [loadSite_other hx hn]
  refine signalExclusion_ineligible ?_ (by rw [State.moveCount_eq]; rfl) Iff.rfl
  rw [eligible_of_siteAt (x := listedSite f) (by rw [State.moveCount_eq]; exact State.siteAt_setSite_same s slot _)]
  exact siteEligible_of_state nofun nofun

/-! ## Written feeder records (R17) -/

/-- R17: what a feeder write leaves, and its trigger. -/
theorem writeFeeder_effect {s : State} (held : s.fleetHeld) (g up down : Nat) (enabled : Bool) :
    let t := s.writeFeeder g up down enabled
    t.feeder g = { capUp := up, capDown := down, enabled := enabled, siteCount := (s.feeder g).siteCount } ∧
    (∀ k, k ≠ g → t.feeder k = s.feeder k) ∧ t.fleet.sites = s.fleet.sites ∧ t.fleet.siteMap = s.fleet.siteMap ∧
    s.TriggersOnce t ((s.feeder g).enabled = true ∧ enabled = false ∧
      ∃ e ∈ s.fleet.sites, e.2.static.feeder = g ∧ s.allocated e.1 = true) ∧
    t = { s with fleet := t.fleet, allocation := t.allocation } ∧ t.allocation.records = s.allocation.records := by
  intro t
  obtain ⟨-, -, wfeeders, -, -⟩ := held
  let y : Feeder := { s.feeder g with capUp := up, capDown := down, enabled := enabled }
  let c := (s.feeder g).enabled && !enabled &&
    s.fleet.sites.any (fun e => decide (e.2.static.feeder = g) && s.allocated e.1)
  have ht : t = if c then (s.setFeeder g y).trigger else s.setFeeder g y := rfl
  have fleet : t.fleet = (s.setFeeder g y).fleet := by
    rw [ht]
    split <;> simp
  have reads (k : Nat) : t.feeder k = (s.setFeeder g y).feeder k := by simp only [State.feeder, fleet]
  have written := State.feeder_setFeeder (Table.wf_of_wfOr wfeeders) g (x := y)
  have once : (s.setFeeder g y).TriggersOnce t (c = true) := triggersOnce_when _ c
  refine ⟨by rw [reads, written, if_pos rfl], fun k hk => by rw [reads, written, if_neg hk], by rw [fleet]; rfl,
    by rw [fleet]; rfl, once.congr rfl ?_, ?_, once.records⟩
  · simp [c, List.any_eq_true, and_assoc]
  · rw [fleet, ht]
    split
    · rw [trigger_eq]; rfl
    · rfl

/-! ## The three tables that may be written -/

/-- R11, R12: the judgement of a written site record. -/
theorem writeRecord_sites (s : State) (slot : Nat) (o : Octets) :
    s.writeRecord .sites slot o = match s.loadRefusal slot (parseStatic o) with
      | some e => .error e
      | none => .ok (s.loadSite slot (parseStatic o), none) := by
  unfold State.writeRecord State.writeSiteRecord
  cases s.loadRefusal slot (parseStatic o) <;> rfl

/-- R17: the judgement of a written feeder record. -/
theorem writeRecord_feeders (s : State) (g : Nat) (o : Octets) :
    s.writeRecord .feeders g o =
      if fieldAt o 0 4 ≤ 100000000 ∧ fieldAt o 4 4 ≤ 100000000 ∧ fieldAt o 8 1 ≤ 1 then
        .ok (s.writeFeeder g (fieldAt o 0 4) (fieldAt o 4 4) (decide (fieldAt o 8 1 = 0)), none)
      else .error .badField := by
  unfold State.writeRecord State.writeFeederRecord optionOctet
  by_cases zero : fieldAt o 8 1 = 0
  · by_cases caps : fieldAt o 0 4 ≤ 100000000 ∧ fieldAt o 4 4 ≤ 100000000 <;>
      simp [zero, capsInRange, caps, Except.map]
  · by_cases one : fieldAt o 8 1 = 1
    · by_cases caps : fieldAt o 0 4 ≤ 100000000 ∧ fieldAt o 4 4 ≤ 100000000 <;>
        simp [one, capsInRange, caps, Except.map]
    · have above : ¬ fieldAt o 8 1 ≤ 1 := by omega
      simp [zero, one, above, Except.map]

/-- R51: the judgement of a written product record. -/
theorem writeRecord_products (s : State) (p : Product) (o : Octets) :
    s.writeRecord .products p.val o = match parseBank o with
      | none => .error .badField
      | some b => if b.inRange then
          .ok (s.writePending p b, if (s.products.get p).staged = true then some p else none)
        else .error .badField := by
  have named : productOf p.val = some p := by simp [productOf]
  simp only [State.writeRecord, State.writeBank, named]
  cases parseBank o with
  | none => rfl
  | some b => cases h : b.inRange <;> simp [Except.map, h]

/-- Settles O49: the judgement of each table's record, and what its write does. -/
theorem writtenRecordsAreJudgedAndApplied : Obligations.WrittenRecordsAreJudgedAndApplied := by
  unfold Obligations.WrittenRecordsAreJudgedAndApplied
  refine ⟨fun s slot o held => ?_, fun s g o held => ?_, fun s p o => ?_⟩
  · intro f written ranges elsewhere dispatched listed others
    have inRange : f.inRange = true ↔ ranges := staticInRange_iff f
    have bound : s.undispatched slot = false ↔ dispatched := by
      simp only [State.undispatched, dispatched, ← Bool.not_eq_true, Bool.and_eq_true, decide_eq_true_eq, and_assoc,
        Bool.not_eq_true']
    have judged : written = _ := writeRecord_sites s slot o
    have refused (e : Reason) (h : s.loadRefusal slot f = some e) : written = .error e := by rw [judged, h]
    have passes (hr : ranges) (he : ¬ elsewhere)
        (free : ∀ x, s.siteAt slot = some x → x.static.siteNumber ≠ f.siteNumber → ¬ dispatched) :
        s.loadRefusal slot f = none := by
      rw [loadRefusal_eq, if_neg (by simp [inRange.2 hr]), if_neg he, if_neg]
      rintro ⟨x, hx, hn, hd⟩
      exact free x hx hn (bound.1 hd)
    -- what every load that passes its checks does, once the site it leaves is known
    have loaded (h : s.loadRefusal slot f = none) {y : Site} (hy : (s.loadSite slot f).siteAt slot = some y)
        (hn : y.static = f) : written = .ok (s.loadSite slot f, none) ∧ others (s.loadSite slot f) := by
      have kept := loadSite_fleetHeld h held
      have frame := loadSite_frame held slot f
      refine ⟨by rw [judged, h], frame.sites, (congrArg (fun g => State.slotOf _ g.siteNumber) hn).symm.trans (kept.slotOf_eq hy), fun g => ?_, kept, ?_⟩
      · rw [frame.feeders]
        exact ⟨rfl, rfl, rfl⟩
      · have rest := frame.rest
        have records := frame.records
        generalize s.loadSite slot f = t at *
        refine ⟨?_, ?_, ?_, ?_, ?_, ?_, ?_, records⟩ <;> rw [rest]
    refine ⟨fun out => refused _ ?_, fun hr he => refused _ ?_, fun hr he vacant => ?_, fun x hr he hx hn => ?_,
      fun x hr he hx hn => ⟨fun hd => refused _ ?_, fun free => ?_⟩⟩
    · rw [loadRefusal_eq, if_pos (by rw [← Bool.not_eq_true, inRange]; exact out)]
    · rw [loadRefusal_eq, if_neg (by simp [inRange.2 hr]), if_pos he]
    · have shape := loadSite_vacant vacant f
      have placed : (s.loadSite slot f).siteAt slot = some listed := by
        rw [shape]
        exact State.siteAt_setSite_same s slot listed
      obtain ⟨ok, rest⟩ := loaded (passes hr he (by simp [vacant])) placed rfl
      refine ⟨_, ok, placed, ?_, by rw [shape]; rfl, rest⟩
      obtain ⟨-, -, wfeeders, -, -⟩ := held
      rw [shape, State.feeder_countUp (s := (s.setSite slot (listedSite f)).mapSite f.siteNumber slot) (Table.wf_of_wfOr wfeeders)]
      simp only [if_true]
      rfl
    · have placed : (s.loadSite slot f).siteAt slot =
          some { x with static := f, tagRun := if x.static.tag = f.tag then x.tagRun else 0 } := by
        rw [loadSite_same hx hn, siteAt_moved]
        exact State.siteAt_setSite_same s slot _
      have accepted := passes hr he fun y hy other => by
        rw [hx] at hy
        cases hy
        exact absurd hn other
      obtain ⟨ok, rest⟩ := loaded accepted placed rfl
      exact ⟨_, ok, placed, loadSite_same_triggersOnce held hx hn, rest⟩
    · rw [loadRefusal_eq, if_neg (by simp [inRange.2 hr]), if_neg he, if_pos ⟨x, hx, hn, bound.2 hd⟩]
    · have shape := loadSite_other hx hn
      have placed : (s.loadSite slot f).siteAt slot = some listed := by
        rw [shape, siteAt_moved]
        exact State.siteAt_setSite_same s slot listed
      obtain ⟨ok, rest⟩ := loaded (passes hr he fun _ _ _ => free) placed rfl
      refine ⟨_, ok, placed, ?_, loadSite_other_triggersOnce hx hn, rest⟩
      obtain ⟨-, wmap, -, -, -⟩ := held
      rw [shape]
      simp only [State.slotOf, State.signalExclusion_fleet]
      rw [State.moveCount_eq]
      exact (Table.find_put_other _ hn _).trans (Table.find_drop_same wmap _)
  · intro up down disabled written
    have judged : written = _ := writeRecord_feeders s g o
    refine ⟨fun bad => ?_, fun hup hdown hdis => ?_⟩
    · rw [judged, if_neg (by omega)]
    · obtain ⟨own, kept, sites, siteMap, once, rest, records⟩ := writeFeeder_effect held g up down (decide (disabled = 0))
      refine ⟨_, judged.trans (if_pos ⟨hup, hdown, hdis⟩), own, kept, sites, siteMap, once.congr rfl ?_, records, ?_⟩
      · have one : disabled = 1 ↔ decide (disabled = 0) = false := by
          rw [decide_eq_false_iff_not]
          omega
        rw [one]
      · generalize s.writeFeeder g up down (decide (disabled = 0)) = t at *
        exact ⟨by rw [rest], by rw [rest], by rw [rest]⟩
  · intro written
    have judged : written = _ := writeRecord_products s p o
    refine ⟨fun none => ?_, fun b hb out => ?_, fun b hb within => ?_⟩
    · rw [judged, none]
    · rw [judged, hb]; simp [out]
    · refine ⟨s.writePending p b, ?_, ?_, fun q hq => ?_, rfl⟩
      · rw [judged, hb]; simp [within]
      · simp [State.writePending, State.setProduct, State.bank]
      · simp [State.writePending, State.setProduct, hq]

end Sys2Proof.Machine

namespace Sys2Proof.Machine

/-! ## What hand-overs leave of the book (R88, R100) -/

/-- The book and the RESPONSE source across placings and choices: as they stood while no choice is made; otherwise an
offer only becomes SUBMITTED, and an absent reservation stays absent. -/
structure HandOverFrame (s t : State) : Prop where
  holds : s.gridHolds = true → t.gridHolds = true ∧ t.arbiter.response = s.arbiter.response ∧
    t.book.offers = s.book.offers
  settled : (∀ o ∈ s.book.offers, o.state ≠ .draft ∧ o.state ≠ .queued) →
    ∀ o ∈ t.book.offers, o.state ≠ .draft ∧ o.state ≠ .queued
  unreserved : s.book.reservation = none → t.book.reservation = none

theorem HandOverFrame.refl (s : State) : HandOverFrame s s := ⟨fun h => ⟨h, rfl, rfl⟩, id, id⟩

theorem HandOverFrame.trans {s t u : State} (h : HandOverFrame s t) (k : HandOverFrame t u) : HandOverFrame s u where
  holds hs := by
    obtain ⟨ht, response, offers⟩ := h.holds hs
    obtain ⟨hu, response', offers'⟩ := k.holds ht
    exact ⟨hu, response'.trans response, offers'.trans offers⟩
  settled := k.settled ∘ h.settled
  unreserved := k.unreserved ∘ h.unreserved

theorem HandOverFrame.foldl {α : Type} (f : State → α → State) (h : ∀ s a, HandOverFrame s (f s a)) (l : List α)
    (s : State) : HandOverFrame s (l.foldl f s) := by
  induction l generalizing s with
  | nil => exact .refl s
  | cons a l ih => exact (h s a).trans (ih _)

/-- A change outside the book, the links and the RESPONSE source. -/
theorem HandOverFrame.of_eq {s t : State} (links : t.links = s.links) (book : t.book = s.book)
    (response : t.arbiter.response = s.arbiter.response) : HandOverFrame s t :=
  ⟨fun h => ⟨by rw [State.gridHolds, links]; exact h, response, by rw [book]⟩, by rw [book]; exact id,
    by rw [book]; exact id⟩

/-- R88: a hand-over settles no offer back and reserves nothing. -/
structure BookSettles (s t : State) : Prop where
  settled : (∀ o ∈ s.book.offers, o.state ≠ .draft ∧ o.state ≠ .queued) →
    ∀ o ∈ t.book.offers, o.state ≠ .draft ∧ o.state ≠ .queued
  unreserved : s.book.reservation = none → t.book.reservation = none

theorem BookSettles.of_eq {s t : State} (h : t.book = s.book) : BookSettles s t := by
  constructor <;> rw [h] <;> exact id

theorem handOverOffer_settles (s : State) (id : Nat) : BookSettles s (s.handOverOffer id) := by
  unfold State.handOverOffer
  split
  · exact .of_eq rfl
  · refine ⟨fun h o ho => ?_, fun h => ?_⟩
    · obtain ⟨x, hx, rfl⟩ := List.mem_map.1 ho
      split
      · exact ⟨nofun, nofun⟩
      · exact h x hx
    · change (if s.book.reservation = some id then none else s.book.reservation) = none
      rw [h]
      rfl

/-- R178: of the frames handed over, an OFFER alone works on the book. -/
theorem handOver_settles (s : State) (x : Source) : BookSettles s (s.handOver x) := by
  cases x with
  | offer =>
    unfold State.handOver
    dsimp only
    split
    · exact .of_eq rfl
    · next id rest _ =>
      obtain ⟨settled, unreserved⟩ := handOverOffer_settles { s with arbiter := { s.arbiter with offers := rest } } id
      exact ⟨settled, unreserved⟩
    · unfold State.handOverWithdraw
      split <;> exact .of_eq rfl
  | ack | availability | report | response | notice =>
    unfold State.handOver
    dsimp only
    split <;> exact .of_eq rfl

theorem choose_handOver (s : State) : HandOverFrame s s.choose := by
  by_cases h : s.gridHolds = true
  · rw [choose_of_gridHolds h]
    exact .refl s
  · have settles : BookSettles s s.choose := by
      unfold State.choose
      split
      · split
        · exact .of_eq rfl
        · exact handOver_settles s _
      · exact .of_eq rfl
    exact ⟨fun holds => absurd holds h, settles.settled, settles.unreserved⟩

theorem afterPlacing_handOver (s : State) (b : Bool) : HandOverFrame s (s.afterPlacing b) := by
  unfold State.afterPlacing
  split
  · exact choose_handOver s
  · exact .refl s

theorem post_handOver (s : State) (n : Notice) : HandOverFrame s (s.post n) := by
  unfold State.post
  split
  · split
    · refine HandOverFrame.trans ?_ (afterPlacing_handOver _ _)
      exact .of_eq rfl rfl rfl
    · exact .of_eq rfl rfl rfl
  · exact .refl s

theorem queueAvailability_handOver (s : State) : HandOverFrame s s.queueAvailability := by
  unfold State.queueAvailability State.placeAvailability
  refine HandOverFrame.trans ?_ (afterPlacing_handOver _ _)
  exact .of_eq rfl rfl rfl

theorem evaluate_handOver (s : State) (b : Bool) : HandOverFrame s (s.evaluate b) :=
  evaluate_rel .refl .trans post_handOver (fun _ _ => .of_eq rfl rfl rfl) queueAvailability_handOver s b

/-! ## The evaluation's condition sets (R156) -/

/-- R156: an evaluation leaves each product the conditions its sources give. -/
theorem evaluate_conditions (s : State) (b : Bool) (p : Product) :
    ((s.evaluate b).mon p).conditions = s.conditionsOf p := by
  have posted : ∀ u : State, EgressOnly u (allProducts.foldl
      (fun t p => t.postConditionChange p (s.mon p).conditions (s.conditionsOf p)) u) :=
    fun u => EgressOnly.foldl _ (fun v p => postConditionChange_egress v p _ _) _ u
  have recomputed : ((allProducts.foldl (fun t p => t.postConditionChange p (s.mon p).conditions (s.conditionsOf p))
      s.recomputed).redeclared.mon p).conditions = s.conditionsOf p := by
    have kept := (posted s.recomputed).monitor
    generalize allProducts.foldl _ s.recomputed = u at *
    simp only [State.redeclared, State.mon, PerProduct.get_ofFn, kept]
    simp only [State.recomputed, PerProduct.get_ofFn]
  unfold State.evaluate
  dsimp only
  split
  · rw [← recomputed]
    simp only [State.queueAvailability, State.mon]
    rw [(placeAvailability_egress _ _).monitor]
  · exact recomputed

/-! ## The warm restart, block by block (R192) -/

/-- R144: a table of dispatch records changed by one function reads as that function of what it read. -/
theorem readOr_mapRecords {t : Table DispatchRecord} {low : Nat} (w : Table.risingFrom t low = true)
    {f : DispatchRecord → DispatchRecord} (hf : f DispatchRecord.reset = DispatchRecord.reset) (k : Nat) :
    Table.readOr (mapRecords t f) DispatchRecord.reset k = f (Table.readOr t DispatchRecord.reset k) := by
  induction t generalizing low with
  | nil => exact hf.symm
  | cons e t ih =>
    obtain ⟨j, d⟩ := e
    simp only [Table.risingFrom, Bool.and_eq_true, decide_eq_true_eq] at w
    obtain ⟨-, rising⟩ := w
    have rest := ih rising
    have absent (hk : k < j + 1) : Table.readOr t DispatchRecord.reset k = DispatchRecord.reset := by
      rw [Table.readOr, Table.find_below rising hk]
      rfl
    by_cases dropped : f d = DispatchRecord.reset
    · have shape : mapRecords ((j, d) :: t) f = mapRecords t f := List.filterMap_cons_none (if_pos dropped)
      rw [shape, rest]
      by_cases same : j = k
      · subst same
        rw [absent (by omega), hf]
        simp [Table.readOr, Table.find, dropped]
      · by_cases below : k < j
        · rw [absent (by omega)]
          simp [Table.readOr, Table.find, same, below]
        · simp [Table.readOr, Table.find, same, below]
    · have shape : mapRecords ((j, d) :: t) f = (j, f d) :: mapRecords t f := List.filterMap_cons_some (if_neg dropped)
      rw [shape]
      by_cases same : j = k
      · simp [Table.readOr, Table.find, same]
      · by_cases below : k < j
        · simp [Table.readOr, Table.find, same, below, hf]
        · simpa [Table.readOr, Table.find, same, below] using rest

/-- The blocks set by a warm restart, before the evaluation and the notices. -/
def State.restartBlocks (s : State) : State :=
  s.restartFleet.restartCensus.restartBook.restartActivation.restartAllocation.restartMonitor.trigger

theorem warmRestart_eq (s : State) : s.warmRestart = (s.restartBlocks.evaluate false).postRestartChanges s := rfl

theorem postRestartChanges_egress (s old : State) : EgressOnly s (s.postRestartChanges old) :=
  .foldl _ (fun t p => by
    split
    · exact post_egress t _
    · exact .refl t) _ _

theorem postRestartChanges_handOver (s old : State) : HandOverFrame s (s.postRestartChanges old) :=
  .foldl _ (fun t p => by
    split
    · exact post_handOver t _
    · exact .refl t) _ _

theorem warmRestart_evaluation (s : State) : EvaluationOnly s.restartBlocks s.warmRestart :=
  (evaluate_evaluation _ false).trans (postRestartChanges_egress _ s).evaluation

theorem warmRestart_steady (s : State) : Steady s.restartBlocks s.warmRestart :=
  (evaluate_steady _ false).trans (postRestartChanges_steady _ s)

theorem warmRestart_handOver (s : State) : HandOverFrame s.restartBlocks s.warmRestart :=
  (evaluate_handOver _ false).trans (postRestartChanges_handOver _ s)

/-- R144, R192: the trigger of a restart finds no pass and starts one. -/
theorem restartBlocks_starts (s : State) : s.restartBlocks =
    s.restartFleet.restartCensus.restartBook.restartActivation.restartAllocation.restartMonitor.startPass :=
  trigger_of_idle rfl

/-- R22: every site after a restart. -/
theorem warmRestart_siteAt (s : State) (slot : Nat) :
    s.warmRestart.siteAt slot = (s.siteAt slot).map Site.restarted := by
  simp only [State.siteAt, (warmRestart_steady s).fleet, restartBlocks_starts]
  exact Table.find_map _ _ _

/-- R144: every dispatch record after a restart. -/
theorem warmRestart_dispatch {s : State} (held : s.tablesHeld) (slot : Nat) :
    s.warmRestart.dispatch slot = (s.dispatch slot).restarted := by
  have records : s.warmRestart.allocation.records = mapRecords s.allocation.records DispatchRecord.restarted := by
    rw [(warmRestart_evaluation s).egress.allocation, restartBlocks_starts]
    rfl
  rw [State.dispatch, records]
  exact readOr_mapRecords (Table.wf_of_wfOr held.1) rfl slot

/-- R123: every activation record after a restart. -/
theorem warmRestart_act (s : State) (p : Product) : s.warmRestart.act p =
    { state := if s.followsFrequency p && decide (0 < s.windowObligation p) then s.silenceState else .idle,
      obligation := s.windowObligation p, target := 0, currentId := none, order := none } := by
  rw [State.act, (warmRestart_evaluation s).egress.activation, restartBlocks_starts]
  exact PerProduct.get_ofFn _ p

/-- R109, R163: the Monitor's products after a restart, their condition sets and declarations aside. -/
theorem warmRestart_mon (s : State) (p : Product) : s.warmRestart.mon p =
    { (s.mon p).restarted (decide ((s.warmRestart.act p).state = .lost)) with
      conditions := (s.warmRestart.mon p).conditions, declaration := (s.warmRestart.mon p).declaration } := by
  have measured := (warmRestart_evaluation s).measured p
  have records : s.warmRestart.act p = s.restartBlocks.act p := by
    rw [State.act, (warmRestart_evaluation s).egress.activation]
    rfl
  have restarted : s.restartBlocks.mon p = (s.mon p).restarted (decide ((s.restartBlocks.act p).state = .lost)) := by
    rw [restartBlocks_starts]
    exact PerProduct.get_ofFn _ p
  rw [records, ← restarted]
  exact measured

/-- R60, R155: the NO_CENSUS condition holds after a restart. -/
theorem warmRestart_noCensus (s : State) (p : Product) : (s.warmRestart.mon p).conditions.noCensus = true := by
  rw [warmRestart_eq, State.mon, (postRestartChanges_egress _ s).monitor]
  change ((s.restartBlocks.evaluate false).mon p).conditions.noCensus = true
  rw [evaluate_conditions, restartBlocks_starts]
  rfl

/-- R163: the Monitor's timers after a restart. -/
theorem warmRestart_timers (s : State) : s.warmRestart.monitor.intervalStart = s.localTime ∧
    s.warmRestart.monitor.intervalExpiry = s.localTime + s.params.performanceInterval * 1000 ∧
    s.warmRestart.monitor.heartbeatExpiry = s.localTime + s.params.heartbeatInterval * 1000 := by
  have steady := warmRestart_steady s
  have expiry : s.restartBlocks.monitor.heartbeatExpiry = s.localTime + s.params.heartbeatInterval * 1000 := by
    rw [restartBlocks_starts]
    rfl
  have now : s.restartBlocks.localTime + s.restartBlocks.params.heartbeatInterval * 1000 =
      s.localTime + s.params.heartbeatInterval * 1000 := by
    rw [restartBlocks_starts]
    rfl
  refine ⟨by rw [steady.intervalStart, restartBlocks_starts]; rfl, by rw [steady.intervalExpiry, restartBlocks_starts]; rfl, ?_⟩
  rcases steady.heartbeat with ⟨h, -⟩ | ⟨h, -⟩
  · rw [h, expiry]
  · rw [h, now]

/-- R103: the book after a restart. -/
theorem warmRestart_book (s : State) :
    let t := s.warmRestart
    t.book.reservation = none ∧ t.book.ring = s.book.ring ∧ t.book.commitments = s.book.commitments ∧
    t.book.lastId = s.book.lastId ∧ t.book.created = s.book.created ∧
    ∀ o ∈ t.book.offers, o.state ≠ .draft ∧ o.state ≠ .queued := by
  have egress := (warmRestart_evaluation s).egress
  have handOver := warmRestart_handOver s
  rw [restartBlocks_starts] at egress handOver
  refine ⟨handOver.unreserved rfl, egress.ring, egress.commitments, egress.lastId, egress.created,
    handOver.settled fun o ho => ?_⟩
  obtain ⟨-, kept⟩ := List.mem_filter.1 ho
  simpa using kept

/-- R108, R119: the silence has reached a bound. -/
theorem silenceReaches_iff (s : State) (bound : Nat) : silenceReaches s.silence bound = true ↔
    ∀ x, s.activation.sample = some x → bound ≤ s.localTime - x.time := by
  unfold State.silence
  cases s.activation.sample <;> simp [silenceReaches]

/-- R108, R119: the state a silence gives, in the words of the rule. -/
theorem silenceState_eq (s : State) (lost holding : Prop) [Decidable lost] [Decidable holding]
    (hl : lost ↔ ∀ x, s.activation.sample = some x → s.params.sampleTimeout + s.params.holdTime ≤ s.localTime - x.time)
    (hh : holding ↔ ∀ x, s.activation.sample = some x → s.params.sampleTimeout ≤ s.localTime - x.time) :
    s.silenceState = if lost then .lost else if holding then .holding else .active := by
  simp only [State.silenceState, silenceReaches_iff, ← hl, ← hh]

/-- R184: a response changes the response's source and what a choice hands over. -/
theorem respond_egress (s : State) (r : PendingRequest) (e : Option Reason) (b : Octets) :
    EgressOnly (s.setManagement { s.management with inExecution := none }) (s.respond r e b) := placeResponse_egress _ _

/-- R192: the state in which RESTART finds the blocks: the response placed, the request queue empty. -/
theorem restartRequest_eq (s : State) (r : PendingRequest) : ∃ w : State, s.restartRequest r = w.warmRestart ∧
    EgressOnly (s.setManagement { s.management with inExecution := none, queue := [] }) w ∧
    (s.gridHolds = true → w.gridHolds = true ∧ w.book = s.book ∧ w.arbiter.response =
      some { sequence := r.sequence, code := (requestCode r.payload).getD 0, refusal := none,
             body := octetsOf 1 s.management.queue.length }) := by
  have sent := respond_egress s r none (octetsOf 1 s.management.queue.length)
  refine ⟨_, rfl, { sent with queue := rfl }, fun holds => ?_⟩
  let answer : Response := { sequence := r.sequence, code := (requestCode r.payload).getD 0, refusal := none,
                             body := octetsOf 1 s.management.queue.length }
  let placed : State := { (s.setManagement { s.management with inExecution := none }) with
    arbiter := { s.arbiter with response := some answer } }
  have quiet : s.respond r none (octetsOf 1 s.management.queue.length) = placed :=
    afterPlacing_of_gridHolds (s := placed) holds _
  rw [quiet]
  exact ⟨holds, rfl, rfl⟩

/-- Settles O55: the restart of every block, from the state that the response and the emptied queue leave. -/
theorem restartSetsEachBlockAndKeepsTheRest : Obligations.RestartSetsEachBlockAndKeepsTheRest := by
  unfold Obligations.RestartSetsEachBlockAndKeepsTheRest
  intro s r next hl held
  have code : requestCode r.payload = some 25 := by
    simp only [State.nextOf, Option.filter_eq_some_iff, decide_eq_true_eq] at next
    exact next.2
  obtain ⟨w, shape, before, quiet⟩ := restartRequest_eq s.takeRequest r
  have run : exec .restart s = .next w.warmRestart := by
    change execRestart s = _
    rw [execRestart, request_run next hl, shape]
  refine ⟨_, run, ?_⟩
  have egress := (warmRestart_evaluation w).egress
  rw [restartBlocks_starts] at egress
  have siteMap : w.fleet.siteMap = s.fleet.siteMap := congrArg Fleet.siteMap before.fleet
  have feeders : w.fleet.feeders = s.fleet.feeders := congrArg Fleet.feeders before.fleet
  have counter : w.census.counter = s.census.counter := congrArg Census.counter before.census
  have allocation : w.allocation = s.allocation := before.allocation
  have time : w.time = s.time := before.time
  have sample : w.activation.sample = s.activation.sample := congrArg Activation.sample before.activation
  have now : w.localTime = s.localTime := by rw [State.localTime, before.time]; rfl
  have params : w.params = s.params := before.params
  have bank (p : Product) : w.bank p = s.bank p := by rw [State.bank, before.products]; rfl
  have commitment (p : Product) (v : Nat) : w.commitment p v = s.commitment p v := by
    simp only [State.commitment, before.ring, before.commitments]
    rfl
  have window : w.currentWindow = s.currentWindow := by
    have span : w.windowOf = s.windowOf := by
      funext v
      simp only [State.windowOf, State.windowMs, params]
    rw [State.currentWindow, State.currentWindow, span, State.deviceTime, before.time]
    rfl
  have obligation (p : Product) : w.windowObligation p =
      match s.currentWindow with
      | none => 0
      | some v => s.commitment p v := by
    simp only [State.windowObligation, window, commitment] <;> rfl
  obtain ⟨start, expiry, heartbeat⟩ := warmRestart_timers w
  obtain ⟨reservation, ring, commitments, lastId, created, settled⟩ := warmRestart_book w
  refine ⟨fun holds => ?_, fun slot => ⟨?_, ?_⟩, ?_, ?_, ?_, ⟨?_, ?_, ?_, ?_, ?_, ?_, ?_⟩,
    ⟨reservation, ring.trans before.ring, commitments.trans before.commitments, lastId.trans before.lastId,
      created.trans before.created, settled⟩, fun p => ?_, ⟨?_, ?_, ?_, ?_, ?_, ?_, ?_, ?_⟩, ⟨?_, ?_, ?_⟩,
    ⟨?_, ?_, ?_, ?_⟩, ?_, ?_, ?_, ?_, ?_, ?_, ?_, ?_, ?_⟩
  · obtain ⟨held', book, response⟩ := quiet holds
    have handOver := (warmRestart_handOver w).holds
    rw [restartBlocks_starts] at handOver
    obtain ⟨-, answer, offers⟩ := handOver held'
    refine ⟨answer.trans (response.trans ?_), offers.trans ?_⟩
    · simp [code, State.takeRequest, State.setManagement, octetsOf]
    · rw [← show w.book = s.book from book]
      rfl
  · rw [warmRestart_siteAt, State.siteAt, before.fleet]
    rfl
  · rw [warmRestart_dispatch (tablesHeld_of_eq (congrArg Allocation.records before.allocation) before.commitments held), State.dispatch,
      before.allocation]
    rfl
  · rw [egress.fleet]
    exact siteMap
  · rw [egress.fleet]
    exact feeders
  · exact egress.unknownSites.trans before.unknownSites
  · rw [egress.census]; rfl
  · rw [egress.census]; rfl
  · rw [egress.census]; rfl
  · rw [egress.census]; rfl
  · rw [egress.census]; rfl
  · rw [egress.census]
    exact counter
  · rw [egress.census, ← now, ← params]
    rfl
  · intro silent
    have act := warmRestart_act w p
    have mon := warmRestart_mon w p
    have follows : w.followsFrequency p = ((s.bank p).enabled && decide ((s.bank p).mode = .frequency)) := by
      rw [State.followsFrequency, bank]
    have owed : (w.warmRestart.act p).obligation = w.windowObligation p := by rw [act]
    have same : w.mon p = s.mon p := by rw [State.mon, before.monitor]; rfl
    refine ⟨owed.trans (obligation p), by rw [act], by rw [act], by rw [act], ?_, fun h => ?_, ?_, fun enabled mode some => ?_,
      ?_, by rw [mon]; rfl, by rw [mon]; rfl, by rw [mon]; rfl, by rw [mon]; rfl, ?_, ?_, warmRestart_noCensus w p⟩
    · rw [egress.time]
      exact PerProduct.get_all _ p
    · rw [owed] at h
      rw [act, follows]
      rcases h with h | h | h <;> simp [h]
    · rw [egress.allocation]
      exact PerProduct.get_all _ p
    · rw [owed] at some
      rw [act, follows]
      simp only [enabled, mode, some, decide_true, Bool.and_self, if_true]
      exact silenceState_eq w _ _ (by rw [sample, now, params]) (by rw [sample, now, params])
    · rw [mon]
      exact decide_eq_true_iff
    · rw [mon, ← same]; rfl
    · rw [mon, ← same]; rfl
  · rw [egress.allocation]; rfl
  · rw [egress.allocation]; rfl
  · rw [egress.allocation]; rfl
  · rw [egress.allocation]; rfl
  · rw [egress.allocation]; rfl
  · rw [egress.allocation, ← allocation]; rfl
  · rw [egress.allocation, ← allocation]; rfl
  · rw [egress.allocation, ← allocation]; rfl
  · rw [start, now]
  · rw [expiry, now, params]
  · rw [heartbeat, now, params]
  · exact egress.queue.trans before.queue
  · exact egress.inExecution.trans before.inExecution
  · exact egress.window.trans before.window
  · exact egress.returnLimit.trans before.returnLimit
  · exact egress.fleetEngine.trans before.fleetEngine
  · exact egress.meterEngine.trans before.meterEngine
  · exact egress.fleetTx.trans before.fleetTx
  · rw [egress.time, ← time]; rfl
  · rw [egress.time, ← time]; rfl
  · rw [egress.time, ← time]; rfl
  · exact egress.products.trans before.products
  · exact egress.params.trans before.params
  · rw [egress.activation]
    exact sample

end Sys2Proof.Machine

namespace Sys2Proof.Machine

/-! ## Frames of the blocks that act on parameters (R191)

`BlocksKept` is what everything after a new window length leaves: the fleet, device time, the banks, the census, the ring
with its commitments and each current record's window. `RecordsKept` adds the activation records and FREQ_LOSS;
`TimersKept` and `EnginesKept` are the parts of `Steady` about the Monitor's timers and the Frame Engines. -/

structure BlocksKept (s t : State) : Prop where
  fleet : t.fleet = s.fleet
  params : t.params = s.params
  time : t.time = s.time
  products : t.products = s.products
  census : t.census = s.census
  ring : t.book.ring = s.book.ring
  commitments : t.book.commitments = s.book.commitments
  sample : t.activation.sample = s.activation.sample
  window : ∀ p, (t.mon p).current.window = (s.mon p).current.window

theorem BlocksKept.refl (s : State) : BlocksKept s s := ⟨rfl, rfl, rfl, rfl, rfl, rfl, rfl, rfl, fun _ => rfl⟩

theorem BlocksKept.trans {s t u : State} (h : BlocksKept s t) (k : BlocksKept t u) : BlocksKept s u where
  fleet := k.fleet.trans h.fleet
  params := k.params.trans h.params
  time := k.time.trans h.time
  products := k.products.trans h.products
  census := k.census.trans h.census
  ring := k.ring.trans h.ring
  commitments := k.commitments.trans h.commitments
  sample := k.sample.trans h.sample
  window p := (k.window p).trans (h.window p)

structure RecordsKept (s t : State) : Prop extends BlocksKept s t where
  records : t.activation.records = s.activation.records
  losses : ∀ p, (t.mon p).freqLost = (s.mon p).freqLost

theorem RecordsKept.refl (s : State) : RecordsKept s s := ⟨.refl s, rfl, fun _ => rfl⟩

theorem RecordsKept.trans {s t u : State} (h : RecordsKept s t) (k : RecordsKept t u) : RecordsKept s u where
  toBlocksKept := h.toBlocksKept.trans k.toBlocksKept
  records := k.records.trans h.records
  losses p := (k.losses p).trans (h.losses p)

theorem RecordsKept.foldl {α : Type} (f : State → α → State) (h : ∀ s a, RecordsKept s (f s a)) (l : List α) (s : State) :
    RecordsKept s (l.foldl f s) := by
  induction l generalizing s with
  | nil => exact .refl s
  | cons a l ih => exact (h s a).trans (ih _)

theorem EvaluationOnly.recordsKept {s t : State} (h : EvaluationOnly s t) : RecordsKept s t where
  fleet := h.egress.fleet
  params := h.egress.params
  time := h.egress.time
  products := h.egress.products
  census := h.egress.census
  ring := h.egress.ring
  commitments := h.egress.commitments
  sample := congrArg Activation.sample h.egress.activation
  window p := by rw [h.measured p]
  records := congrArg Activation.records h.egress.activation
  losses p := by rw [h.measured p]

theorem EgressOnly.recordsKept {s t : State} (h : EgressOnly s t) : RecordsKept s t := h.evaluation.recordsKept

/-- A product of the Monitor written with the window of its current record kept. -/
theorem setMon_blocksKept (s : State) (p : Product) {m : MonitorProduct}
    (hm : m.current.window = (s.mon p).current.window) : BlocksKept s (s.setMon p m) :=
  ⟨rfl, rfl, rfl, rfl, rfl, rfl, rfl, rfl, fun q => by
    simp only [State.setMon, State.mon, PerProduct.get_set]
    split
    · next h => rw [h]; exact hm
    · rfl⟩

theorem setMon_recordsKept (s : State) (p : Product) {m : MonitorProduct}
    (hm : m.current.window = (s.mon p).current.window) (hl : m.freqLost = (s.mon p).freqLost) :
    RecordsKept s (s.setMon p m) where
  toBlocksKept := setMon_blocksKept s p hm
  records := rfl
  losses q := by
    simp only [State.setMon, State.mon, PerProduct.get_set]
    split
    · next h => rw [h]; exact hl
    · rfl

/-- The Monitor's timers and link states, the Frame Engines and the Allocation Engine are none of the blocks named. -/
theorem RecordsKept.of_eq {s t : State} (fleet : t.fleet = s.fleet) (params : t.params = s.params) (time : t.time = s.time)
    (products : t.products = s.products) (census : t.census = s.census) (book : t.book = s.book)
    (activation : t.activation = s.activation) (monitor : t.monitor.products = s.monitor.products) : RecordsKept s t where
  fleet := fleet
  params := params
  time := time
  products := products
  census := census
  ring := by rw [book]
  commitments := by rw [book]
  sample := by rw [activation]
  window p := by rw [State.mon, monitor]; rfl
  records := by rw [activation]
  losses p := by rw [State.mon, monitor]; rfl

structure TimersKept (s t : State) : Prop where
  params : t.params = s.params
  localTime : t.localTime = s.localTime
  intervalStart : t.monitor.intervalStart = s.monitor.intervalStart
  intervalExpiry : t.monitor.intervalExpiry = s.monitor.intervalExpiry
  heartbeat : HeartbeatKept s t

theorem Steady.timers {s t : State} (h : Steady s t) : TimersKept s t :=
  ⟨h.params, h.localTime, h.intervalStart, h.intervalExpiry, h.heartbeat⟩

theorem HeartbeatKept.trans {s t u : State} (params : t.params = s.params) (localTime : t.localTime = s.localTime)
    (h : HeartbeatKept s t) (k : HeartbeatKept t u) : HeartbeatKept s u := by
  unfold HeartbeatKept at *
  rw [params, localTime] at k
  rcases k with ⟨expiry, base⟩ | queued
  · rw [expiry, base]
    exact h
  · exact .inr queued

theorem TimersKept.refl (s : State) : TimersKept s s := (Steady.refl s).timers

theorem TimersKept.trans {s t u : State} (h : TimersKept s t) (k : TimersKept t u) : TimersKept s u where
  params := k.params.trans h.params
  localTime := k.localTime.trans h.localTime
  intervalStart := k.intervalStart.trans h.intervalStart
  intervalExpiry := k.intervalExpiry.trans h.intervalExpiry
  heartbeat := h.heartbeat.trans h.params h.localTime k.heartbeat

/-- The Frame Engine of a port stands, its summary aside, which a response may empty (R171). -/
def EngineKept (port : Port) (s t : State) : Prop :=
  t.engine port = { s.engine port with summary := (t.engine port).summary }

theorem EngineKept.refl (port : Port) (s : State) : EngineKept port s s := rfl

theorem EngineKept.trans {port : Port} {s t u : State} (h : EngineKept port s t) (k : EngineKept port t u) :
    EngineKept port s u := by
  unfold EngineKept at *
  rw [k, h]

theorem Steady.engine {s t : State} (h : Steady s t) (port : Port) : EngineKept port s t := by
  unfold EngineKept
  cases port with
  | fleet => simp only [State.engine, h.fleetEngine]
  | grid => simp only [State.engine]; exact h.gridEngine
  | meter => simp only [State.engine, h.meterEngine]

theorem setEngine_engine_same (s : State) (port : Port) (e : Engine) : (s.setEngine port e).engine port = e := by
  cases port <;> rfl

theorem setEngine_engine_other (s : State) {port q : Port} (h : q ≠ port) (e : Engine) :
    (s.setEngine port e).engine q = s.engine q := by
  cases port <;> cases q <;> simp_all [State.setEngine, State.engine]

/-! ## The Monitor (R147 to R153, R156) -/

theorem alarmRule_recordsKept (s : State) (p : Product) : RecordsKept s (s.alarmRule p) := by
  unfold State.alarmRule
  extract_lets m threshold _ t
  have latched : RecordsKept s t := setMon_recordsKept s p rfl rfl
  split
  · split
    · exact latched
    · exact (latched.trans (post_egress _ _).recordsKept).trans (evaluate_evaluation _ _).recordsKept
  · exact .refl s

theorem measure_recordsKept (s : State) (duration : Nat) (p : Product) : RecordsKept s (s.measure duration p) := by
  unfold State.measure
  extract_lets requested delivered deficient t u
  have measured : RecordsKept s t := setMon_recordsKept s p rfl rfl
  have alarmed : RecordsKept t u := by
    simp only [u]
    split
    · exact alarmRule_recordsKept _ _
    · exact .refl _
  exact (measured.trans alarmed).trans (placeReport_egress _ _ _).recordsKept

/-- R147: the end of an interval starts the next one and measures. -/
theorem endInterval_started (s : State) :
    let started : State := { s with monitor := { s.monitor with
      intervalStart := s.localTime, intervalExpiry := s.localTime + s.params.performanceInterval * 1000 } }
    RecordsKept s s.endInterval ∧ Steady started s.endInterval := by
  intro started
  have begun : RecordsKept s started := .of_eq rfl rfl rfl rfl rfl rfl rfl rfl
  exact ⟨begun.trans (.foldl _ (fun t p => measure_recordsKept t _ p) _ _),
    .foldl _ (fun t p => measure_steady t _ p) _ _⟩

/-- R160: a new performance interval. -/
theorem retimeInterval_effect (s : State) :
    let expiry := s.monitor.intervalStart + s.params.performanceInterval * 1000
    let t := s.retimeInterval
    RecordsKept s t ∧ (∀ port, EngineKept port s t) ∧ HeartbeatKept s t ∧
    (s.localTime < expiry →
      t.monitor.intervalStart = s.monitor.intervalStart ∧ t.monitor.intervalExpiry = expiry) ∧
    (expiry ≤ s.localTime → t.monitor.intervalStart = s.localTime ∧
      t.monitor.intervalExpiry = s.localTime + s.params.performanceInterval * 1000) := by
  intro expiry t
  let moved : State := { s with monitor := { s.monitor with intervalExpiry := expiry } }
  have records : RecordsKept s moved := .of_eq rfl rfl rfl rfl rfl rfl rfl rfl
  by_cases due : expiry ≤ s.localTime
  · have ht : t = moved.endInterval := if_pos (decide_eq_true due)
    obtain ⟨kept, steady⟩ := endInterval_started moved
    rw [ht]
    exact ⟨records.trans kept, fun port => steady.engine port, steady.heartbeat, fun h => absurd due (by omega),
      fun _ => ⟨steady.intervalStart, steady.intervalExpiry⟩⟩
  · have ht : t = moved := if_neg (fun h => due (of_decide_eq_true h))
    rw [ht]
    exact ⟨records, fun _ => rfl, .inl ⟨rfl, rfl⟩, fun _ => ⟨rfl, rfl⟩, fun h => absurd h due⟩

/-- R159: an evaluation for the heartbeat queues a frame, which sets the heartbeat expiry. -/
theorem evaluate_heartbeat (s : State) :
    (s.evaluate true).monitor.heartbeatBase = s.localTime ∧
    (s.evaluate true).monitor.heartbeatExpiry = s.localTime + s.params.heartbeatInterval * 1000 := by
  have posted : ∀ u : State, EgressOnly u (allProducts.foldl
      (fun t p => t.postConditionChange p (s.mon p).conditions (s.conditionsOf p)) u) :=
    fun u => EgressOnly.foldl _ (fun v p => postConditionChange_egress v p _ _) _ u
  have time := (posted s.recomputed).time
  have params := (posted s.recomputed).params
  unfold State.evaluate
  dsimp only
  rw [if_pos (by simp)]
  generalize allProducts.foldl _ s.recomputed = u at *
  have queued := (placeAvailability_egress { u.redeclared with monitor := { u.redeclared.monitor with
    heartbeatExpiry := u.redeclared.localTime + u.redeclared.params.heartbeatInterval * 1000,
    heartbeatBase := u.redeclared.localTime } } u.redeclared.availabilityEntries).monitor
  have now : u.redeclared.localTime = s.localTime := by
    change u.time.localTime = _
    rw [time]
    rfl
  have params : u.redeclared.params = s.params := params
  rw [State.queueAvailability, queued, now, params]
  exact ⟨rfl, rfl⟩

/-- R160: a new heartbeat interval. -/
theorem retimeHeartbeat_effect (s : State) :
    let expiry := s.monitor.heartbeatBase + s.params.heartbeatInterval * 1000
    let t := s.retimeHeartbeat
    RecordsKept s t ∧ (∀ port, EngineKept port s t) ∧ t.monitor.intervalStart = s.monitor.intervalStart ∧
    t.monitor.intervalExpiry = s.monitor.intervalExpiry ∧
    (s.localTime < expiry → t.monitor.heartbeatBase = s.monitor.heartbeatBase ∧ t.monitor.heartbeatExpiry = expiry) ∧
    (expiry ≤ s.localTime → t.monitor.heartbeatBase = s.localTime ∧
      t.monitor.heartbeatExpiry = s.localTime + s.params.heartbeatInterval * 1000) := by
  intro expiry t
  let moved : State := { s with monitor := { s.monitor with heartbeatExpiry := expiry } }
  have records : RecordsKept s moved := .of_eq rfl rfl rfl rfl rfl rfl rfl rfl
  by_cases due : expiry ≤ s.localTime
  · have ht : t = moved.evaluate true := if_pos (decide_eq_true due)
    have steady := evaluate_steady moved true
    rw [ht]
    exact ⟨records.trans (evaluate_evaluation moved true).recordsKept, fun port => steady.engine port,
      steady.intervalStart, steady.intervalExpiry, fun h => absurd due (by omega), fun _ => evaluate_heartbeat moved⟩
  · have ht : t = moved := if_neg (fun h => due (of_decide_eq_true h))
    rw [ht]
    exact ⟨records, fun _ => rfl, rfl, rfl, fun _ => ⟨rfl, rfl⟩, fun h => absurd h due⟩

/-! ## The links (R172, R175) -/

theorem emptyTransmitter_recordsKept (s : State) (port : Port) : RecordsKept s (s.emptyTransmitter port) := by
  cases port <;> exact .of_eq rfl rfl rfl rfl rfl rfl rfl rfl

/-- R172: a port that has gone DOWN is handed on. -/
theorem handOnLink_down_recordsKept (s : State) (port : Port) (c : LinkCause) :
    RecordsKept s (s.handOnLink port false c) := by
  unfold State.handOnLink
  refine RecordsKept.trans ?_ (post_egress _ _).recordsKept
  cases port with
  | fleet =>
    refine RecordsKept.trans ?_ (evaluate_evaluation _ _).recordsKept
    exact .of_eq rfl rfl rfl rfl rfl rfl rfl rfl
  | grid => exact .refl s
  | meter =>
    refine RecordsKept.trans ?_ (evaluate_evaluation _ _).recordsKept
    exact .of_eq rfl rfl rfl rfl rfl rfl rfl rfl

theorem setEngine_recordsKept (s : State) (port : Port) (e : Engine) : RecordsKept s (s.setEngine port e) := by
  cases port <;> exact .of_eq rfl rfl rfl rfl rfl rfl rfl rfl

theorem setEngine_timers (s : State) (port : Port) (e : Engine) : TimersKept s (s.setEngine port e) := by
  cases port <;> exact ⟨rfl, rfl, rfl, rfl, .inl ⟨rfl, rfl⟩⟩

/-- R172: a port that goes DOWN: its Frame Engine, those of the other ports, and what else is left. -/
theorem goDown_effect (s : State) (port : Port) (c : LinkCause) :
    let t := s.goDown port c
    RecordsKept s t ∧ TimersKept s t ∧ ((t.engine port).up = false ∧ (t.engine port).wasDown = true) ∧
    ∀ q, q ≠ port → EngineKept q s t := by
  intro t
  let down := s.setEngine port (s.engine port).down
  have handed : Steady down t := (emptyTransmitter_steady _ port).trans (handOnLink_steady _ _ _ _)
  have own := handed.engine port
  refine ⟨((setEngine_recordsKept s port _).trans (emptyTransmitter_recordsKept _ port)).trans
    (handOnLink_down_recordsKept _ _ _), (setEngine_timers s port _).trans handed.timers, ?_, fun q hq => ?_⟩
  · rw [own, setEngine_engine_same]
    exact ⟨rfl, rfl⟩
  · have other := handed.engine q
    unfold EngineKept at other ⊢
    rw [other, setEngine_engine_other s hq]

/-- R175: a new link timeout at one port. -/
theorem retimeLink_effect (s : State) (port : Port) :
    let t := s.retimeLink port
    RecordsKept s t ∧ TimersKept s t ∧ (∀ q, q ≠ port → EngineKept q s t) ∧
    (∀ v, (s.engine port).up = true → (s.engine port).lastValid = some v →
      let expiry := v + s.params.linkTimeout * 1000
      (s.localTime < expiry → (t.engine port).up = true ∧ (t.engine port).expiry = some expiry) ∧
      (expiry ≤ s.localTime → (t.engine port).up = false ∧ (t.engine port).wasDown = true)) ∧
    ((s.engine port).up = false → t = s) := by
  intro t
  cases valid : (s.engine port).lastValid with
  | none =>
    have ht : t = s := by simp [t, State.retimeLink, valid]
    rw [ht]
    exact ⟨.refl s, .refl s, fun q _ => .refl q s, nofun, fun _ => rfl⟩
  | some v =>
    cases up : (s.engine port).up with
    | false =>
      have ht : t = s := by simp [t, State.retimeLink, valid, up]
      rw [ht]
      exact ⟨.refl s, .refl s, fun q _ => .refl q s, nofun, fun _ => rfl⟩
    | true =>
      let expiry := v + s.params.linkTimeout * 1000
      let u := s.setEngine port { s.engine port with expiry := some expiry }
      have ht : t = if u.linkOver port then u.goDown port .timeout else u := by
        change s.retimeLink port = _
        unfold State.retimeLink
        rw [valid]
        dsimp only
        rw [if_pos up]
      have engine : u.engine port = { s.engine port with expiry := some expiry } := setEngine_engine_same s port _
      have due : u.linkOver port = true ↔ expiry ≤ s.localTime := by
        have now : u.localTime = s.localTime := (setEngine_timers s port _).localTime
        simp only [State.linkOver, engine, up, now, Bool.true_and, decide_eq_true_eq]
      have records := setEngine_recordsKept s port { s.engine port with expiry := some expiry }
      have timers := setEngine_timers s port { s.engine port with expiry := some expiry }
      have others (q : Port) (hq : q ≠ port) : EngineKept q s u := by
        rw [EngineKept, setEngine_engine_other s hq]
      by_cases h : expiry ≤ s.localTime
      · obtain ⟨records', timers', down, others'⟩ := goDown_effect u port .timeout
        rw [ht, if_pos (due.2 h)]
        refine ⟨records.trans records', timers.trans timers', fun q hq => (others q hq).trans (others' q hq),
          fun w _ hw => ⟨fun early => ?_, fun _ => down⟩, nofun⟩
        cases hw
        exact absurd h (by omega)
      · rw [ht, if_neg (mt due.1 h)]
        refine ⟨records, timers, others, fun w _ hw => ⟨fun _ => ?_, fun late => ?_⟩, nofun⟩
        · cases hw
          rw [engine]
          exact ⟨up, rfl⟩
        · cases hw
          exact absurd late h

end Sys2Proof.Machine

namespace Sys2Proof.Machine

/-! ## The sites' bounds and the census interval (R5, R65) -/

/-- A fold of steps that change the Allocation Engine alone. -/
theorem foldl_allocation {α : Type} (f : State → α → State)
    (h : ∀ s a, f s a = { s with allocation := (f s a).allocation }) (l : List α) (s : State) :
    l.foldl f s = { s with allocation := (l.foldl f s).allocation } := by
  induction l generalizing s with
  | nil => rfl
  | cons a l ih =>
    have first := h s a
    have rest := ih (f s a)
    rw [List.foldl_cons]
    generalize l.foldl f (f s a) = u at *
    exact rest.trans (by rw [first])

/-- R5: re-grading changes the sites, by their age, and makes triggers. -/
theorem regradeAll_effect (s : State) :
    s.regradeAll = { s with
      fleet := { s.fleet with sites := s.fleet.sites.map (fun e => (e.1, s.regraded e.2)) }
      allocation := s.regradeAll.allocation } := by
  have excluded : s.regradeAll = { s.regradeSites with allocation := s.regradeAll.allocation } :=
    foldl_allocation _ (fun t (e : Nat × Site) => signalExclusion_eq t e.1 (s.siteEligible e.2)) _ _
  generalize s.regradeAll = u at *
  exact excluded.trans (by rw [regradeSites_eq])

/-- R65: a new census interval. -/
theorem retimeCensus_effect (s : State) :
    let expiry := s.census.timerBase + s.params.censusInterval * 1000
    let t := s.retimeCensus
    t = { s with census := t.census } ∧
    (s.localTime < expiry → t.census = { s.census with timerExpiry := expiry }) ∧
    (expiry ≤ s.localTime → t.census.timerExpiry = s.localTime + s.params.censusInterval * 1000 ∧
      (s.census.run = none → ∃ n, t.census.run = some n ∧ n.kind = .full ∧ n.nextSlot = 0) ∧
      (s.census.run.isSome = true → t.census.run = s.census.run ∧ t.census.fullPending = true)) := by
  intro expiry t
  let moved : State := { s with census := { s.census with timerExpiry := expiry } }
  by_cases due : expiry ≤ s.localTime
  · have ht : t = moved.censusTimerExpires := if_pos (decide_eq_true due)
    rw [ht]
    cases hr : s.census.run with
    | none =>
      have started : moved.requestFull.1 = moved.startRun .full := by simp [State.requestFull, moved, hr]
      simp only [State.censusTimerExpires, started]
      exact ⟨rfl, fun h => absurd due (by omega), fun _ => ⟨rfl, fun _ => ⟨_, rfl, rfl, rfl⟩, nofun⟩⟩
    | some run =>
      have pending : moved.requestFull.1 = { moved with census := { moved.census with
          fullPending := true, selectPending := none } } := by simp [State.requestFull, moved, hr]
      simp only [State.censusTimerExpires, pending]
      exact ⟨rfl, fun h => absurd due (by omega), fun _ => ⟨rfl, nofun, fun _ => ⟨hr, trivial⟩⟩⟩
  · have ht : t = moved := if_neg (fun h => due (of_decide_eq_true h))
    rw [ht]
    exact ⟨rfl, fun _ => rfl, fun h => absurd h due⟩

/-! ## Handing on by the Activation Unit (R109) -/

theorem signalLost_mon (s : State) (p q : Product) (lost : Bool) :
    ((s.signalLost p lost).mon q).freqLost = (if q = p then lost else (s.mon q).freqLost) ∧
    ((s.signalLost p lost).mon q).current = (s.mon q).current := by
  rw [State.signalLost, (evaluate_evaluation (s.setMon p { s.mon p with freqLost := lost }) false).measured q]
  simp only [State.setMon, State.mon, PerProduct.get_set]
  by_cases h : q = p
  · subst h
    simp
  · simp [h]

/-- R109: every product that entered or left LOST is signalled, and no other. -/
theorem handOn_freqLost (s old : State) (c : Cause) (p : Product) :
    ((s.handOn old c).mon p).freqLost =
      if s.lossChanged old p then decide ((s.act p).state = .lost) else (s.mon p).freqLost := by
  have signalled (l : List Product) : ∀ t : State, ((l.foldl (fun t p =>
      if s.lossChanged old p then t.signalLost p (decide ((s.act p).state = .lost)) else t) t).mon p).freqLost =
      if p ∈ l ∧ s.lossChanged old p = true then decide ((s.act p).state = .lost) else (t.mon p).freqLost := by
    induction l with
    | nil => simp
    | cons q l ih =>
      intro t
      rw [List.foldl_cons, ih]
      by_cases later : p ∈ l ∧ s.lossChanged old p = true
      · rw [if_pos later, if_pos ⟨.tail q later.1, later.2⟩]
      · rw [if_neg later]
        by_cases changed : s.lossChanged old q = true
        · rw [if_pos changed, (signalLost_mon t q p _).1]
          by_cases own : p = q
          · subst own
            simp [changed]
          · rw [if_neg own, if_neg (fun h => later ⟨(List.mem_cons.1 h.1).resolve_left own, h.2⟩)]
        · rw [if_neg changed, if_neg]
          rintro ⟨h, hp⟩
          rcases List.mem_cons.1 h with rfl | h
          · exact changed hp
          · exact later ⟨h, hp⟩
  have noted (l : List Product) (t : State) : ((l.foldl (fun t p =>
      if s.changeNoted old p then t.post (s.activationNotice p c) else t) t).mon p).freqLost = (t.mon p).freqLost :=
    foldl_keeps (fun u : State => (u.mon p).freqLost) _ (fun u q => by
      split
      · rw [State.mon, State.post_monitor]; rfl
      · rfl) l t
  have listed : p ∈ allProducts := by fin_cases p <;> decide
  unfold State.handOn
  extract_lets t u
  have triggered : (t.mon p).freqLost = (s.mon p).freqLost := by
    simp only [t]
    split
    · rw [State.mon, trigger_eq]; rfl
    · rfl
  rw [noted]
  refine (signalled allProducts t).trans ?_
  simp only [listed, true_and, triggered]

/-- R109: handing on leaves the blocks that only a boundary changes. -/
theorem handOn_blocksKept (s old : State) (c : Cause) : BlocksKept s (s.handOn old c) where
  fleet := s.handOn_fleet old c
  params := s.handOn_params old c
  time := s.handOn_time old c
  products := s.handOn_products old c
  census := s.handOn_census old c
  ring := handOn_keeps (fun s => s.book.ring) (by simp) (fun s p b => (evaluate_evaluation _ _).egress.ring)
    (fun s n => (post_egress s n).ring) s old c
  commitments := handOn_keeps (fun s => s.book.commitments) (by simp)
    (fun s p b => (evaluate_evaluation _ _).egress.commitments) (fun s n => (post_egress s n).commitments) s old c
  sample := by rw [s.handOn_activation old c]
  window p := handOn_keeps (fun s => (s.mon p).current.window) (fun s => by rw [State.mon, trigger_eq]; rfl)
    (fun s q b => by rw [(signalLost_mon s q p b).2]) (fun s n => by rw [State.mon, State.post_monitor]; rfl) s old c

/-- R119: the records re-graded by the silence. -/
theorem regradeSilence_effect (s : State) :
    let t := s.regradeSilence
    BlocksKept s t ∧
    (∀ p, t.act p = if s.follows p then
        { s.act p with state := s.silenceState, target := if s.silenceState = .lost then 0 else (s.act p).target }
      else s.act p) ∧
    ∀ p, (t.mon p).freqLost = if s.regradeRecords.lossChanged s p then decide ((s.regradeRecords.act p).state = .lost)
      else (s.mon p).freqLost := by
  intro t
  have mapped : BlocksKept s s.regradeRecords := ⟨rfl, rfl, rfl, rfl, rfl, rfl, rfl, rfl, fun _ => rfl⟩
  refine ⟨mapped.trans (handOn_blocksKept _ s _), fun p => ?_, fun p => handOn_freqLost s.regradeRecords s _ p⟩
  simp only [t, State.regradeSilence, State.act, State.handOn_activation]
  exact PerProduct.get_ofFn _ p

/-! ## The commitments across a boundary (R47) -/

theorem handOn_commitments (s old : State) (c : Cause) : (s.handOn old c).book.commitments = s.book.commitments :=
  (handOn_blocksKept s old c).commitments

theorem lapseGate_commitments (s : State) (p : Product) (w : Nat) :
    (s.lapseGate p w).book.commitments = s.book.commitments := by
  unfold State.lapseGate
  rw [foldl_keeps (fun s : State => s.book.commitments) _ (fun t o => (post_egress t _).commitments),
    foldl_keeps (fun s : State => s.book.commitments) State.lapseOffer (fun _ _ => rfl)]

theorem closeGates_commitments (s : State) (p : Product) (g n : Nat) :
    (s.closeGates p g n).book.commitments = s.book.commitments := by
  induction n generalizing s g with
  | zero => rfl
  | succ n ih => exact (ih _ _).trans (lapseGate_commitments _ p _)

theorem adjustGate_commitments (s : State) (p : Product) : (s.adjustGate p).book.commitments = s.book.commitments := by
  unfold State.adjustGate
  split
  · exact closeGates_commitments s _ _ _
  · rfl

theorem resetForSwitch_commitments (s : State) (p : Product) :
    (s.resetForSwitch p).book.commitments = s.book.commitments := by
  have acked (t : State) (id : Nat) (o : AckOutcome) (at0 : Option Nat) :
      (t.ackFor p id o at0).book.commitments = t.book.commitments := (ackFor_egress t p id o at0).commitments
  unfold State.resetForSwitch
  dsimp only
  rw [handOn_commitments]
  cases (s.act p).currentId <;> cases (s.act p).order <;> simp only [acked] <;> rfl

theorem afterSwitch_commitments (s : State) (p : Product) (old : Bank) :
    (s.afterSwitch p old).book.commitments = s.book.commitments := by
  unfold State.afterSwitch
  extract_lets t
  have adjusted : t.book.commitments = s.book.commitments := by
    simp only [t]
    split
    · rfl
    · exact adjustGate_commitments s p
  split
  · rw [resetForSwitch_commitments, adjusted]
  · exact adjusted

theorem judgeStaged_commitments (w : Nat) (s : State) (p : Product) :
    (s.judgeStaged w p).book.commitments = s.book.commitments := by
  unfold State.judgeStaged
  split
  · split
    · exact (post_egress _ _).commitments
    · exact (afterSwitch_commitments _ _ _).trans (post_egress _ _).commitments
  · rfl

theorem productBoundary_commitments (s : State) (w : Nat) :
    (s.productBoundary w).book.commitments = s.book.commitments := by
  have judged := foldl_keeps (fun s : State => s.book.commitments) _ (judgeStaged_commitments w) allProducts s
  unfold State.productBoundary
  dsimp only
  split
  · refine Eq.trans ?_ judged
    simp only [State.requestAfterSwitch, State.requestFull]
    split <;> rfl
  · exact judged

theorem boundaryOffer_commitments (s : State) (o : Offer) : (s.boundaryOffer o).book.commitments = s.book.commitments := by
  unfold State.boundaryOffer
  split <;> rfl

theorem closeOffer_commitments (s : State) (o : Offer) : (s.closeOffer o).book.commitments = s.book.commitments := by
  unfold State.closeOffer
  split <;> rfl

/-- R97: the ring after a boundary, of a product without commitments. -/
theorem bookBoundary_uncommitted {s : State} {p : Product} (h : s.book.commitments.get p = []) (w : Nat) :
    (s.bookBoundary w).book.commitments.get p = [] := by
  unfold State.bookBoundary
  extract_lets t u
  have kept : u.book.commitments = s.book.commitments :=
    (foldl_keeps (fun s : State => s.book.commitments) _ closeOffer_commitments _ t).trans
      (foldl_keeps (fun s : State => s.book.commitments) _ boundaryOffer_commitments _ s)
  rw [foldl_keeps (fun s : State => s.book.commitments) _ (fun t o => (post_egress t _).commitments)]
  simp only [State.recycleRing, PerProduct.get_ofFn, kept, h, List.filter_nil]

/-- R106, R152: a boundary gives each current record its window, and a product without commitments no obligation. -/
theorem boundary_effect (s : State) (w : Nat) (p : Product) :
    ((s.boundary w).mon p).current.window = some w ∧
    (s.book.commitments.get p = [] → ((s.boundary w).act p).obligation = 0 ∧ ((s.boundary w).act p).target = 0) := by
  let a : State := { s with time := { s.time with boundaryMark := some w } }
  let b := (a.productBoundary w).bookBoundary w
  let c := b.activationBoundary w
  have hs : s.boundary w = c.monitorBoundary w := rfl
  refine ⟨?_, fun h => ?_⟩
  · rw [hs, State.monitorBoundary, (evaluate_evaluation _ false).measured p]
    simp only [State.mon, PerProduct.get_ofFn]
    rfl
  · have none : b.book.commitments.get p = [] := bookBoundary_uncommitted (by
      rw [productBoundary_commitments]
      exact h) w
    have uncommitted : b.commitment p w = 0 := by
      unfold State.commitment
      rw [none]
      split
      · rfl
      · simp [Table.readOr]
    have act : (s.boundary w).act p = b.boundaryRecord p (b.commitment p w) := by
      rw [hs, State.monitorBoundary, State.act, (evaluate_evaluation _ false).egress.activation]
      simp only [c, State.activationBoundary, State.handOn_activation]
      rw [foldl_keeps (fun s : State => s.activation)]
      · exact PerProduct.get_ofFn _ p
      · intro t q
        split
        · rfl
        · exact (ackFor_egress t q _ _ _).activation
    rw [act, uncommitted]
    unfold State.boundaryRecord
    dsimp only
    split_ifs <;> simp

/-- R49: a new window length while device time is set: a boundary where the window index rises, then the fresh ring and
the marks. -/
theorem changeWindowLength_set {s : State} {d : Nat} (hd : s.deviceTime = some d) : ∃ u : State,
    (∀ k, s.time.boundaryMark = some k → k < s.windowOf d → u = s.boundary (s.windowOf d)) ∧
    s.changeWindowLength = { u.freshRing (s.windowOf d) with time := { u.time with
      boundaryMark := some (s.windowOf d)
      gateMarks := PerProduct.ofFn (fun p => some (u.gateMarkAt p d)) } } := by
  unfold State.changeWindowLength
  rw [hd]
  cases mark : s.time.boundaryMark with
  | none => exact ⟨s, nofun, rfl⟩
  | some m =>
    refine ⟨if m < s.windowOf d then s.boundary (s.windowOf d) else s, fun k hk below => ?_, rfl⟩
    cases hk
    exact if_pos below

theorem changeWindowLength_effect {s : State} {d : Nat} (hd : s.deviceTime = some d) :
    let w := s.windowOf d
    let t := s.changeWindowLength
    t.time.boundaryMark = some w ∧ t.book.ring = some w ∧ (∀ p v, t.commitment p v = 0) ∧
    (∀ p, t.time.gateMarks.get p = some (t.gateMarkAt p d)) ∧
    (∀ k, s.time.boundaryMark = some k → k < w → ∀ p, (t.mon p).current.window = some w ∧
      (s.book.commitments.get p = [] → (t.act p).obligation = 0 ∧ (t.act p).target = 0)) := by
  intro w t
  obtain ⟨u, risen, shape⟩ := changeWindowLength_set hd
  have ht : t = _ := shape
  rw [ht]
  refine ⟨rfl, rfl, fun p v => ?_, fun p => PerProduct.get_ofFn _ p, fun k hk below p => ?_⟩
  · simp [State.commitment, State.freshRing, Table.readOr]
  · have effect := boundary_effect s w p
    rw [← risen k hk below] at effect
    exact effect

/-- R49: while device time is NOT_SET a new window length changes nothing. -/
theorem changeWindowLength_unset {s : State} (h : s.deviceTime = none) : s.changeWindowLength = s := by
  unfold State.changeWindowLength
  rw [h]

end Sys2Proof.Machine

namespace Sys2Proof.Machine

/-! ## SET_PARAMETERS, block by block (R191) -/

/-- R191: the states between the blocks' actions on a parameter record that replaced `old`. -/
structure ActedOn (old : Params) (s t1 t2 t3 t4 t5 t6 t : State) : Prop where
  sites : t1 = if s.params.fFresh = old.fFresh ∧ s.params.fStale = old.fStale then s else s.regradeAll
  window : t2 = if s.params.windowLength = old.windowLength then t1 else t1.changeWindowLength
  census : t3 = if s.params.censusInterval = old.censusInterval then t2 else t2.retimeCensus
  silence : t4 = if s.params.sampleTimeout = old.sampleTimeout ∧ s.params.holdTime = old.holdTime then t3
    else t3.regradeSilence
  interval : t5 = if s.params.performanceInterval = old.performanceInterval then t4 else t4.retimeInterval
  heartbeat : t6 = if s.params.heartbeatInterval = old.heartbeatInterval then t5 else t5.retimeHeartbeat
  links : t = if s.params.linkTimeout = old.linkTimeout then t6
    else ((t6.retimeLink .fleet).retimeLink .grid).retimeLink .meter

theorem actOnParams_stages (s : State) (old : Params) :
    ∃ t1 t2 t3 t4 t5 t6, ActedOn old s t1 t2 t3 t4 t5 t6 (s.actOnParams old) :=
  ⟨_, _, _, _, _, _, rfl, rfl, rfl, rfl, rfl, rfl, rfl⟩

/-- Whether a record follows frequency reads its bank and its obligation alone. -/
theorem follows_congr {s t : State} {p : Product} (bank : t.bank p = s.bank p) (act : t.act p = s.act p) :
    t.follows p = s.follows p := by
  rw [State.follows, State.followsFrequency, bank, act]
  rfl

/-- The silence's state reads the sample, local time and the parameters alone. -/
theorem silenceState_congr {s t : State} (sample : t.activation.sample = s.activation.sample)
    (now : t.localTime = s.localTime) (params : t.params = s.params) : t.silenceState = s.silenceState := by
  have silence : t.silence = s.silence := by rw [State.silence, sample, now]; rfl
  rw [State.silenceState, silence, params]
  rfl

section Stages
variable {old : Params} {s t1 t2 t3 t4 t5 t6 t : State} (h : ActedOn old s t1 t2 t3 t4 t5 t6 t)
include h

/-! ### What each action leaves -/

theorem ActedOn.sitesOnly : t1 = { s with fleet := t1.fleet, allocation := t1.allocation } := by
  rw [h.sites]
  split
  · rfl
  · exact (regradeAll_effect s).trans (by rw [regradeAll_effect s])

theorem ActedOn.windowSteady : Steady t1 t2 := by
  rw [h.window]
  split
  · exact .refl t1
  · exact changeWindowLength_steady t1

theorem ActedOn.censusOnly : t3 = { t2 with census := t3.census } := by
  rw [h.census]
  split
  · rfl
  · exact (retimeCensus_effect t2).1

theorem ActedOn.silenceSteady : Steady t3 t4 := by
  rw [h.silence]
  split
  · exact .refl t3
  · exact regradeSilence_steady t3

theorem ActedOn.silenceBlocks : BlocksKept t3 t4 := by
  rw [h.silence]
  split
  · exact .refl t3
  · exact (regradeSilence_effect t3).1

theorem ActedOn.intervalLeaves : RecordsKept t4 t5 ∧ (∀ port, EngineKept port t4 t5) ∧ HeartbeatKept t4 t5 := by
  rw [h.interval]
  split
  · exact ⟨.refl t4, fun _ => rfl, .inl ⟨rfl, rfl⟩⟩
  · obtain ⟨records, engines, heartbeat, -⟩ := retimeInterval_effect t4
    exact ⟨records, engines, heartbeat⟩

theorem ActedOn.heartbeatLeaves : RecordsKept t5 t6 ∧ (∀ port, EngineKept port t5 t6) ∧
    t6.monitor.intervalStart = t5.monitor.intervalStart ∧ t6.monitor.intervalExpiry = t5.monitor.intervalExpiry := by
  rw [h.heartbeat]
  split
  · exact ⟨.refl t5, fun _ => rfl, rfl, rfl⟩
  · obtain ⟨records, engines, start, expiry, -⟩ := retimeHeartbeat_effect t5
    exact ⟨records, engines, start, expiry⟩

theorem ActedOn.linksLeave : RecordsKept t6 t ∧ TimersKept t6 t := by
  rw [h.links]
  split
  · exact ⟨.refl t6, .refl t6⟩
  · obtain ⟨records, timers, -⟩ := retimeLink_effect t6 .fleet
    obtain ⟨records', timers', -⟩ := retimeLink_effect (t6.retimeLink .fleet) .grid
    obtain ⟨records'', timers'', -⟩ := retimeLink_effect ((t6.retimeLink .fleet).retimeLink .grid) .meter
    exact ⟨(records.trans records').trans records'', (timers.trans timers').trans timers''⟩

/-- After the silence, the records stand. -/
theorem ActedOn.recordsAfter : RecordsKept t4 t :=
  (h.intervalLeaves.1.trans h.heartbeatLeaves.1).trans h.linksLeave.1

/-- After the census, the blocks that only a boundary changes stand. -/
theorem ActedOn.blocksAfter : BlocksKept t3 t := h.silenceBlocks.trans h.recordsAfter.toBlocksKept

/-- The parameters and local time in every stage the clauses speak of. -/
theorem ActedOn.now : (t1.params = s.params ∧ t1.localTime = s.localTime) ∧ (t2.params = s.params ∧
    t2.localTime = s.localTime) ∧ (t3.params = s.params ∧ t3.localTime = s.localTime) ∧ (t4.params = s.params ∧
    t4.localTime = s.localTime) ∧ (t5.params = s.params ∧ t5.localTime = s.localTime) ∧
    (t6.params = s.params ∧ t6.localTime = s.localTime) ∧ (t.params = s.params ∧ t.localTime = s.localTime) := by
  have after {a b : State} (k : BlocksKept a b) (ha : a.params = s.params ∧ a.localTime = s.localTime) :
      b.params = s.params ∧ b.localTime = s.localTime :=
    ⟨k.params.trans ha.1, by rw [State.localTime, k.time]; exact ha.2⟩
  have first : t1.params = s.params ∧ t1.localTime = s.localTime := by
    rw [h.sitesOnly]
    exact ⟨rfl, rfl⟩
  have second : t2.params = s.params ∧ t2.localTime = s.localTime :=
    ⟨h.windowSteady.params.trans first.1, h.windowSteady.localTime.trans first.2⟩
  have third : t3.params = s.params ∧ t3.localTime = s.localTime := by
    rw [h.censusOnly]
    exact second
  have fourth := after h.silenceBlocks third
  have fifth := after h.intervalLeaves.1.toBlocksKept fourth
  have sixth := after h.heartbeatLeaves.1.toBlocksKept fifth
  exact ⟨first, second, third, fourth, fifth, sixth, after h.linksLeave.1.toBlocksKept sixth⟩

/-- While the window length stands, or device time is NOT_SET, the second action leaves the state. -/
theorem ActedOn.windowIdle (c : s.params.windowLength = old.windowLength ∨ s.deviceTime = none) : t2 = t1 := by
  rw [h.window]
  split
  · rfl
  · next changed =>
    refine changeWindowLength_unset ?_
    rw [h.sitesOnly]
    exact c.resolve_left changed

/-! ### The clauses of R191 -/

theorem ActedOn.frame : t.params = s.params ∧ t.time.localTime = s.time.localTime ∧ t.time.clock = s.time.clock ∧
    t.fleet.siteMap = s.fleet.siteMap ∧ t.fleet.feeders = s.fleet.feeders := by
  obtain ⟨-, -, -, -, -, -, params, now⟩ := h.now
  have fleet : t.fleet = t1.fleet := by rw [h.blocksAfter.fleet, h.censusOnly]; exact h.windowSteady.fleet
  have clock : t.time.clock = s.time.clock := by
    rw [h.blocksAfter.time, h.censusOnly]
    exact h.windowSteady.clock.trans (by rw [h.sitesOnly])
  refine ⟨params, now, clock, ?_, ?_⟩ <;> rw [fleet, h.sites] <;> split
  · rfl
  · rw [regradeAll_effect]
  · rfl
  · rw [regradeAll_effect]

/-- R5: the sites under new bounds. -/
theorem ActedOn.sitesGraded (bounds : s.params.fFresh ≠ old.fFresh ∨ s.params.fStale ≠ old.fStale) (slot : Nat) :
    t.siteAt slot = (s.siteAt slot).map s.regraded := by
  have fleet : t.fleet = t1.fleet := by rw [h.blocksAfter.fleet, h.censusOnly]; exact h.windowSteady.fleet
  have changed : ¬ (s.params.fFresh = old.fFresh ∧ s.params.fStale = old.fStale) := fun ⟨a, b⟩ =>
    bounds.elim (absurd a) (absurd b)
  rw [State.siteAt, fleet, h.sites, if_neg changed, regradeAll_effect]
  exact Table.find_map _ _ _

theorem ActedOn.sitesKept (same : ¬ (s.params.fFresh ≠ old.fFresh ∨ s.params.fStale ≠ old.fStale)) :
    t.fleet = s.fleet := by
  rw [not_or, not_not, not_not] at same
  rw [h.blocksAfter.fleet, h.censusOnly]
  exact h.windowSteady.fleet.trans (by rw [h.sites, if_pos same])

/-- R49: the window, ring and gate marks under a new length. -/
theorem ActedOn.windowChanged (changed : s.params.windowLength ≠ old.windowLength) {d : Nat}
    (hd : s.deviceTime = some d) :
    let w := d / (s.params.windowLength * 60000)
    t.time.boundaryMark = some w ∧ t.book.ring = some w ∧ (∀ p v, t.commitment p v = 0) ∧
    (∀ p, t.time.gateMarks.get p = some ((d + (t.bank p).gateLead * 60000) / (s.params.windowLength * 60000))) ∧
    (∀ k, s.time.boundaryMark = some k → k < w → ∀ p, (t.mon p).current.window = some w ∧
      (s.book.commitments.get p = [] → (t.act p).obligation = 0 ∧ (t.act p).target = 0)) := by
  intro w
  obtain ⟨⟨params1, -⟩, ⟨params2, -⟩, -⟩ := h.now
  have hd1 : t1.deviceTime = some d := by rw [h.sitesOnly]; exact hd
  have mark1 : t1.time.boundaryMark = s.time.boundaryMark := by rw [h.sitesOnly]
  have book1 : t1.book = s.book := by rw [h.sitesOnly]
  have ht2 : t1.changeWindowLength = t2 := by rw [h.window, if_neg changed]
  have index : t1.windowOf d = w := by simp only [State.windowOf, State.windowMs, Params.windowMs, params1, w]
  obtain ⟨mark, ring, commitment, gates, risen⟩ := changeWindowLength_effect hd1
  rw [ht2] at mark ring commitment gates risen
  rw [index] at mark ring risen
  have later := h.blocksAfter
  have only := h.censusOnly
  have time : t.time = t2.time := by rw [later.time, only]
  have ring' : t.book.ring = t2.book.ring := by rw [later.ring, only]
  have commitments : t.book.commitments = t2.book.commitments := by rw [later.commitments, only]
  have bank (p : Product) : t.bank p = t2.bank p := by rw [State.bank, later.products, only]; rfl
  have record (p : Product) (zero : (t2.act p).obligation = 0) : t.act p = t2.act p := by
    have act3 : t3.act p = t2.act p := by rw [only]; rfl
    have act4 : t4.act p = t3.act p := by
      rw [h.silence]
      split
      · rfl
      · rw [(regradeSilence_effect t3).2.1 p, if_neg]
        simp [State.follows, act3, zero]
    rw [State.act, h.recordsAfter.records, ← act3, ← act4]
    rfl
  refine ⟨by rw [time, mark], by rw [ring', ring], fun p v => ?_, fun p => ?_, fun k hk below p => ?_⟩
  · rw [← commitment p v]
    simp only [State.commitment, ring', commitments]
  · rw [time, gates p, bank]
    simp only [State.gateMarkAt, State.windowOf, State.windowMs, Params.windowMs, Bank.leadMs, params2]
  · obtain ⟨window, uncommitted⟩ := risen k (mark1.trans hk) below p
    refine ⟨?_, fun none => ?_⟩
    · rw [later.window p, only]
      exact window
    · obtain ⟨obligation, target⟩ := uncommitted (by rw [book1]; exact none)
      rw [record p obligation]
      exact ⟨obligation, target⟩

theorem ActedOn.windowKept (c : s.params.windowLength = old.windowLength ∨ s.deviceTime = none) :
    t.time = s.time ∧ t.products = s.products ∧ t.book.ring = s.book.ring ∧ t.book.commitments = s.book.commitments := by
  have later := h.blocksAfter
  have only := h.censusOnly
  have first := h.sitesOnly
  rw [h.windowIdle c] at only
  refine ⟨by rw [later.time, only, first], by rw [later.products, only, first], by rw [later.ring, only, first],
    by rw [later.commitments, only, first]⟩

/-- R65: the census under a new interval. -/
theorem ActedOn.censusRetimed (length : s.params.windowLength = old.windowLength)
    (changed : s.params.censusInterval ≠ old.censusInterval) :
    let expiry := s.census.timerBase + s.params.censusInterval * 1000
    (s.localTime < expiry → t.census = { s.census with timerExpiry := expiry }) ∧
    (expiry ≤ s.localTime → t.census.timerExpiry = s.localTime + s.params.censusInterval * 1000 ∧
      (s.census.run = none → ∃ n, t.census.run = some n ∧ n.kind = .full ∧ n.nextSlot = 0) ∧
      (s.census.run.isSome = true → t.census.run = s.census.run ∧ t.census.fullPending = true)) := by
  obtain ⟨-, ⟨params, now⟩, -⟩ := h.now
  have same : t2.census = s.census := by rw [h.windowIdle (.inl length), h.sitesOnly]
  have retimed := (retimeCensus_effect t2).2
  rw [params, now, same] at retimed
  have ht : t.census = t2.retimeCensus.census := by rw [h.blocksAfter.census, h.census, if_neg changed]
  rw [ht]
  exact retimed

/-- While the window length stands, the silence finds the records, the sample and the banks as they stood. -/
theorem ActedOn.beforeSilence (length : s.params.windowLength = old.windowLength) :
    t3.activation = s.activation ∧ t3.products = s.products := by
  rw [h.censusOnly, h.windowIdle (.inl length), h.sitesOnly]
  exact ⟨rfl, rfl⟩

theorem ActedOn.sampleKept (length : s.params.windowLength = old.windowLength) :
    t.activation.sample = s.activation.sample := by
  rw [h.blocksAfter.sample, (h.beforeSilence length).1]

/-- R119: a record that follows frequency under a new sample timeout or hold time. -/
theorem ActedOn.recordGraded (length : s.params.windowLength = old.windowLength)
    (changed : ¬ (s.params.sampleTimeout = old.sampleTimeout ∧ s.params.holdTime = old.holdTime)) {p : Product}
    (follows : s.follows p = true) :
    t.act p = { s.act p with
      state := s.silenceState, target := if s.silenceState = .lost then 0 else (s.act p).target } ∧
    (¬ ((s.act p).state = .lost ↔ s.silenceState = .lost) → (t.mon p).freqLost = decide (s.silenceState = .lost)) := by
  obtain ⟨-, -, ⟨params, now⟩, -⟩ := h.now
  obtain ⟨activation, products⟩ := h.beforeSilence length
  have act (q : Product) : t3.act q = s.act q := by rw [State.act, activation]; rfl
  have silence : t3.silenceState = s.silenceState := silenceState_congr (by rw [activation]) now params
  have follows3 : t3.follows p = true :=
    (follows_congr (by rw [State.bank, products]; rfl) (act p)).trans follows
  have ht4 : t4 = t3.regradeSilence := by rw [h.silence, if_neg changed]
  obtain ⟨-, records, losses⟩ := regradeSilence_effect t3
  have graded : t3.regradeRecords.act p = { s.act p with
      state := s.silenceState, target := if s.silenceState = .lost then 0 else (s.act p).target } := by
    refine (PerProduct.get_ofFn _ p).trans ?_
    rw [if_pos follows3, act, silence]
  refine ⟨?_, fun moved => ?_⟩
  · rw [State.act, h.recordsAfter.records, ht4]
    refine (records p).trans ?_
    rw [if_pos follows3, act, silence]
  · have signalled : t3.regradeRecords.lossChanged t3 p = true := by
      simp only [State.lossChanged, graded, act, bne_iff_ne, ne_eq, decide_eq_decide]
      exact fun e => moved e.symm
    rw [h.recordsAfter.losses p, ht4, losses p, if_pos signalled, graded]

/-- R119: every other record stands. -/
theorem ActedOn.recordKept (length : s.params.windowLength = old.windowLength) {p : Product}
    (c : (s.params.sampleTimeout = old.sampleTimeout ∧ s.params.holdTime = old.holdTime) ∨ s.follows p = false) :
    t.act p = s.act p := by
  obtain ⟨activation, products⟩ := h.beforeSilence length
  have act (q : Product) : t3.act q = s.act q := by rw [State.act, activation]; rfl
  rw [State.act, h.recordsAfter.records, h.silence]
  split
  · exact act p
  · next changed =>
    have unfollowed : t3.follows p = false :=
      (follows_congr (by rw [State.bank, products]; rfl) (act p)).trans (c.resolve_left changed)
    refine ((regradeSilence_effect t3).2.1 p).trans ?_
    rw [if_neg (by simp [unfollowed]), act]

/-- The Monitor's timers before R160's actions. -/
theorem ActedOn.timersBefore : TimersKept s t4 := by
  have first : TimersKept s t1 := by
    rw [h.sitesOnly]
    exact ⟨rfl, rfl, rfl, rfl, .inl ⟨rfl, rfl⟩⟩
  have third : TimersKept t2 t3 := by
    rw [h.censusOnly]
    exact ⟨rfl, rfl, rfl, rfl, .inl ⟨rfl, rfl⟩⟩
  exact ((first.trans h.windowSteady.timers).trans third).trans h.silenceSteady.timers

/-- R160: the performance interval under a new length. -/
theorem ActedOn.intervalRetimed (changed : s.params.performanceInterval ≠ old.performanceInterval) :
    let expiry := s.monitor.intervalStart + s.params.performanceInterval * 1000
    (s.localTime < expiry →
      t.monitor.intervalStart = s.monitor.intervalStart ∧ t.monitor.intervalExpiry = expiry) ∧
    (expiry ≤ s.localTime → t.monitor.intervalStart = s.localTime ∧
      t.monitor.intervalExpiry = s.localTime + s.params.performanceInterval * 1000) := by
  have before := h.timersBefore
  obtain ⟨-, -, -, retimed⟩ := retimeInterval_effect t4
  obtain ⟨-, -, start, expiry⟩ := h.heartbeatLeaves
  have links := h.linksLeave.2
  rw [links.intervalStart, links.intervalExpiry, start, expiry, h.interval, if_neg changed, ← before.intervalStart,
    ← before.params, ← before.localTime]
  exact retimed

/-- R160: the heartbeat timer under a new interval. -/
theorem ActedOn.heartbeatRetimed (changed : s.params.heartbeatInterval ≠ old.heartbeatInterval)
    (positive : 1 ≤ s.params.heartbeatInterval) :
    t.monitor.heartbeatExpiry = t.monitor.heartbeatBase + s.params.heartbeatInterval * 1000 ∧
    s.localTime < t.monitor.heartbeatExpiry ∧
    (t.monitor.heartbeatBase = s.monitor.heartbeatBase ∨ t.monitor.heartbeatBase = s.localTime) ∧
    (s.monitor.heartbeatBase + s.params.heartbeatInterval * 1000 ≤ s.localTime →
      t.monitor.heartbeatBase = s.localTime) := by
  obtain ⟨-, -, -, ⟨params4, now4⟩, ⟨params5, now5⟩, ⟨params6, now6⟩, -⟩ := h.now
  have before : HeartbeatKept s t5 := h.timersBefore.heartbeat.trans params4 now4 h.intervalLeaves.2.2
  have ht6 : t6 = t5.retimeHeartbeat := by rw [h.heartbeat, if_neg changed]
  obtain ⟨-, -, -, -, early, late⟩ := retimeHeartbeat_effect t5
  rw [params5, now5, ← ht6] at early late
  have base5 : t5.monitor.heartbeatBase = s.monitor.heartbeatBase ∨ t5.monitor.heartbeatBase = s.localTime :=
    before.imp And.right And.right
  have after := h.linksLeave.2.heartbeat
  unfold HeartbeatKept at after
  rw [params6, now6] at after
  rcases after with ⟨expiry, base⟩ | ⟨expiry, base⟩
  · rw [expiry, base]
    by_cases due : t5.monitor.heartbeatBase + s.params.heartbeatInterval * 1000 ≤ s.localTime
    · obtain ⟨base', expiry'⟩ := late due
      rw [base', expiry']
      exact ⟨rfl, by omega, .inr rfl, fun _ => rfl⟩
    · obtain ⟨base', expiry'⟩ := early (by omega)
      rw [base', expiry']
      exact ⟨rfl, by omega, base5, fun passed => base5.resolve_left fun same => due (by rw [same]; exact passed)⟩
  · rw [expiry, base]
    exact ⟨rfl, by omega, .inr rfl, fun _ => rfl⟩

/-- The Frame Engines before R175's action. -/
theorem ActedOn.enginesBefore (port : Port) : EngineKept port s t6 := by
  have first : EngineKept port s t1 := by
    rw [h.sitesOnly]
    exact .refl port s
  have third : EngineKept port t2 t3 := by
    rw [h.censusOnly]
    exact .refl port t2
  exact ((((first.trans (h.windowSteady.engine port)).trans third).trans (h.silenceSteady.engine port)).trans
    (h.intervalLeaves.2.1 port)).trans (h.heartbeatLeaves.2.1 port)

/-- R175: the link states under a new link timeout. -/
theorem ActedOn.linksRetimed (changed : s.params.linkTimeout ≠ old.linkTimeout) (port : Port) :
    (∀ v, (s.engine port).up = true → (s.engine port).lastValid = some v →
      let expiry := v + s.params.linkTimeout * 1000
      (s.localTime < expiry → (t.engine port).up = true ∧ (t.engine port).expiry = some expiry) ∧
      (expiry ≤ s.localTime → (t.engine port).up = false ∧ (t.engine port).wasDown = true)) ∧
    ((s.engine port).up = false → (t.engine port).up = false ∧ (t.engine port).expiry = (s.engine port).expiry) := by
  obtain ⟨-, -, -, -, -, ⟨params, now⟩, -⟩ := h.now
  let a := t6.retimeLink .fleet
  let b := a.retimeLink .grid
  have ht : t = b.retimeLink .meter := by rw [h.links, if_neg changed]
  obtain ⟨-, timersA, othersA, -⟩ := retimeLink_effect t6 .fleet
  obtain ⟨-, timersB, othersB, -⟩ := retimeLink_effect a .grid
  obtain ⟨-, timersC, othersC, -⟩ := retimeLink_effect b .meter
  rw [ht]
  -- each port's own action, its engine kept before it and after it
  have own {u v w : State} (ht : v = u.retimeLink port) (before : EngineKept port s u) (after : EngineKept port v w)
      (params : u.params = s.params) (now : u.localTime = s.localTime) :
      (∀ x, (s.engine port).up = true → (s.engine port).lastValid = some x →
        let expiry := x + s.params.linkTimeout * 1000
        (s.localTime < expiry → (w.engine port).up = true ∧ (w.engine port).expiry = some expiry) ∧
        (expiry ≤ s.localTime → (w.engine port).up = false ∧ (w.engine port).wasDown = true)) ∧
      ((s.engine port).up = false →
        (w.engine port).up = false ∧ (w.engine port).expiry = (s.engine port).expiry) := by
    obtain ⟨-, -, -, retimed, idle⟩ := retimeLink_effect u port
    rw [params, now, ← ht] at retimed
    rw [← ht] at idle
    unfold EngineKept at before after
    rw [after]
    rw [before] at retimed idle
    refine ⟨retimed, fun down => ?_⟩
    rw [idle down, before]
    exact ⟨down, rfl⟩
  have before := h.enginesBefore port
  cases port with
  | fleet =>
    exact own rfl before ((othersB .fleet nofun).trans (othersC .fleet nofun)) params now
  | grid =>
    exact own (u := a) rfl (before.trans (othersA .grid nofun)) (othersC .grid nofun) (timersA.params.trans params)
      (timersA.localTime.trans now)
  | meter =>
    exact own (u := b) rfl ((before.trans (othersA .meter nofun)).trans (othersB .meter nofun)) (.refl _ _)
      ((timersB.params.trans timersA.params).trans params) ((timersB.localTime.trans timersA.localTime).trans now)

/-- R191: without a changed value that a block acts on, nothing moves. -/
theorem ActedOn.idle (bounds : s.params.fFresh = old.fFresh ∧ s.params.fStale = old.fStale)
    (length : s.params.windowLength = old.windowLength) (census : s.params.censusInterval = old.censusInterval)
    (sample : s.params.sampleTimeout = old.sampleTimeout) (hold : s.params.holdTime = old.holdTime)
    (performance : s.params.performanceInterval = old.performanceInterval)
    (heartbeat : s.params.heartbeatInterval = old.heartbeatInterval)
    (link : s.params.linkTimeout = old.linkTimeout) : t = s := by
  rw [h.links, if_pos link, h.heartbeat, if_pos heartbeat, h.interval, if_pos performance, h.silence,
    if_pos ⟨sample, hold⟩, h.census, if_pos census, h.window, if_pos length, h.sites, if_pos bounds]

end Stages

/-! ## The refusals of SET_PARAMETERS (R49, R191) -/

/-- R191: the ranges of the parameters. -/
theorem paramsInRange_iff (p : Params) : p.inRange = true ↔
    (1000 ≤ p.fFresh ∧ p.fFresh ≤ 300000) ∧ (p.fFresh < p.fStale ∧ p.fStale ≤ 600000) ∧
      (1 ≤ p.tagLimit ∧ p.tagLimit ≤ 15) ∧ (60 ≤ p.suspectHold ∧ p.suspectHold ≤ 3600) ∧
      (1 ≤ p.windowLength ∧ p.windowLength ≤ 60) ∧ (1 ≤ p.censusInterval ∧ p.censusInterval ≤ 60) ∧
      (p.nominal = 50000 ∨ p.nominal = 60000) ∧ (300 ≤ p.sampleTimeout ∧ p.sampleTimeout ≤ 2000) ∧
      (1000 ≤ p.holdTime ∧ p.holdTime ≤ 10000) ∧ (100 ≤ p.releaseSpacing ∧ p.releaseSpacing ≤ 2000) ∧
      (500 ≤ p.confirmTimeout ∧ p.confirmTimeout ≤ 10000) ∧ (1 ≤ p.unconfirmedLimit ∧ p.unconfirmedLimit ≤ 8) ∧
      (1 ≤ p.performanceInterval ∧ p.performanceInterval ≤ 60) ∧
      (1 ≤ p.heartbeatInterval ∧ p.heartbeatInterval ≤ 60) ∧ (1 ≤ p.linkTimeout ∧ p.linkTimeout ≤ 60) ∧
      p.ackLevel ≤ 3 ∧ p.availabilityLevel ≤ 3 ∧ p.offerLevel ≤ 3 ∧ p.reportLevel ≤ 3 ∧
      p.responseLevel ≤ 3 ∧ p.noticeLevel ≤ 3 := by
  simp only [Params.inRange, within, Bool.and_eq_true, Bool.or_eq_true, decide_eq_true_eq, and_assoc]

/-- R49, R191: the refusal of a parameter record. -/
theorem paramsRefusal_eq (s : State) (p : Params) (lives falls : Prop) [Decidable lives] [Decidable falls]
    (hl : lives ↔ p.windowLength ≠ s.params.windowLength ∧ ∃ o ∈ s.book.offers, o.state.terminal = false)
    (hf : falls ↔ p.windowLength ≠ s.params.windowLength ∧ ∃ d, s.deviceTime = some d ∧
      d / (p.windowLength * 60000) < d / (s.params.windowLength * 60000)) :
    s.paramsRefusal p = if p.inRange = false then some .badField else if lives then some .committed
      else if falls then some .wrongState else none := by
  unfold State.paramsRefusal State.lengthRefusal
  cases p.inRange with
  | false => rfl
  | true =>
    by_cases same : p.windowLength = s.params.windowLength
    · simp [hl, hf, same]
    · have live : s.book.offers.any (fun o => !o.state.terminal) = true ↔ lives := by simp [hl, same]
      by_cases alive : lives
      · simp [same, live.2 alive, alive]
      · have quiet : s.book.offers.any (fun o => !o.state.terminal) = false := by
          rw [← Bool.not_eq_true, live]
          exact alive
        cases hd : s.deviceTime with
        | none => simp [same, quiet, alive, hf, hd]
        | some d =>
          have fallen : d / p.windowMs < s.windowOf d ↔ falls := by
            simp [hf, hd, same, State.windowOf, State.windowMs, Params.windowMs]
          by_cases f : falls
          · simp [same, quiet, alive, fallen.2 f, f]
          · simp only [same, quiet, alive, mt fallen.1 f, f, if_false, Bool.not_true, Bool.false_eq_true, Bool.true_eq_false]

theorem setParameters_refused {s : State} {r : PendingRequest} {p : Params} {e : Reason}
    (hp : parseParams (r.payload.drop 1) = p) (h : s.paramsRefusal p = some e) :
    s.setParameters r = s.respond r (some e) [] := by
  unfold State.setParameters
  rw [hp]
  split
  · next e' he =>
    rw [h] at he
    cases he
    rfl
  · next he =>
    rw [h] at he
    cases he

theorem setParameters_accepted {s : State} {r : PendingRequest} {p : Params}
    (hp : parseParams (r.payload.drop 1) = p) (h : s.paramsRefusal p = none) :
    s.setParameters r = (s.applyParams p).respond r none (s.applyParams p).params.octets := by
  unfold State.setParameters
  rw [hp]
  split
  · next e he =>
    rw [h] at he
    cases he
  · rfl

/-- Settles O54: the refusals in order, and the clauses of each block's action on the record that replaced the old one. -/
theorem parametersAreReplacedWhole : Obligations.ParametersAreReplacedWhole := by
  classical
  unfold Obligations.ParametersAreReplacedWhole
  intro s r next hl u new old refused bounds ranges lives falls
  have hnew : parseParams (r.payload.drop 1) = new := rfl
  clear_value new
  have inRange : new.inRange = true ↔ ranges := paramsInRange_iff new
  have params : u.params = old := rfl
  have device : u.deviceTime = s.deviceTime := rfl
  have offers : u.book.offers = s.book.offers := rfl
  have judged := paramsRefusal_eq u new lives falls (by simp only [lives, params, offers])
    (by simp only [falls, params, device])
  have run : exec .setParameters s = .next (u.setParameters r) := by
    change execSetParameters s = _
    rw [execSetParameters, request_run next hl]
  have refusal (e : Reason) (h : u.paramsRefusal new = some e) : refused e :=
    run.trans (congrArg _ (setParameters_refused hnew h))
  refine ⟨fun out => refusal _ ?_, fun within live => refusal _ ?_, fun within dead fall => refusal _ ?_,
    fun within dead rises => ?_⟩
  · rw [judged, if_pos (by rw [← Bool.not_eq_true, inRange]; exact out)]
  · rw [judged, if_neg (by simp [inRange.2 within]), if_pos live]
  · rw [judged, if_neg (by simp [inRange.2 within]), if_neg dead, if_pos fall]
  have accepted : u.paramsRefusal new = none := by
    rw [judged, if_neg (by simp [inRange.2 within]), if_neg dead, if_neg rises]
  have applied := setParameters_accepted hnew accepted
  obtain ⟨t1, t2, t3, t4, t5, t6, acted⟩ := actOnParams_stages { u with params := new } old
  have ht : u.applyParams new = State.actOnParams { u with params := new } old := rfl
  rw [ht] at applied
  generalize State.actOnParams { u with params := new } old = t at *
  have frame := acted.frame
  refine ⟨t, ?_, frame.1, frame.2.1, frame.2.2.1, frame.2.2.2.1, frame.2.2.2.2, ?_⟩
  · rw [run, applied, frame.1]
  have positive : 1 ≤ new.heartbeatInterval := by
    obtain ⟨-, -, -, -, -, -, -, -, -, -, -, -, -, ⟨positive, -⟩, -⟩ := within
    exact positive
  refine ⟨fun changed slot x report hx hr => ?_, acted.sitesKept, fun changed d hd => acted.windowChanged changed hd,
    acted.windowKept, fun length changed => acted.censusRetimed length changed, fun length => ?_,
    fun changed => acted.intervalRetimed changed, fun changed => acted.heartbeatRetimed changed positive,
    fun changed port => acted.linksRetimed changed port, ?_⟩
  · have occupied : State.siteAt { u with params := new } slot = some x := hx
    rw [acted.sitesGraded changed slot, occupied, Option.map_some]
    unfold State.regraded State.gradedState
    rw [hr]
    rfl
  · intro silent graded
    have silence := silenceState_eq { u with params := new } (silent (new.sampleTimeout + new.holdTime))
      (silent new.sampleTimeout) Iff.rfl Iff.rfl
    have follows (p : Product) : State.follows { u with params := new } p = true ↔
        (s.bank p).enabled = true ∧ (s.bank p).mode = .frequency ∧ 0 < (s.act p).obligation := by
      change (s.followsFrequency p && decide (0 < (s.act p).obligation)) = true ↔ _
      simp [State.followsFrequency, and_assoc]
    refine ⟨fun p ⟨changed, hp⟩ => ?_, fun p ungraded => ?_, acted.sampleKept length⟩
    · have changed' : ¬ (new.sampleTimeout = old.sampleTimeout ∧ new.holdTime = old.holdTime) := fun ⟨a, b⟩ =>
        changed.elim (absurd a) (absurd b)
      obtain ⟨act, signalled⟩ := acted.recordGraded length changed' ((follows p).2 hp)
      rw [silence] at act signalled
      refine ⟨fun lost => ?_, fun heard => ?_⟩
      · rw [if_pos lost] at act signalled
        refine ⟨act, fun old => ?_⟩
        exact (signalled (fun same => old (same.2 rfl))).trans (decide_eq_true rfl)
      · rw [if_neg heard] at act signalled
        have not_lost : (if silent new.sampleTimeout then ActState.holding else .active) ≠ .lost := by
          split <;> nofun
        rw [if_neg not_lost] at act
        refine ⟨act, fun old => ?_⟩
        exact (signalled (fun same => not_lost (same.1 old))).trans (decide_eq_false not_lost)
    · refine acted.recordKept length ?_
      by_cases changed : new.sampleTimeout = old.sampleTimeout ∧ new.holdTime = old.holdTime
      · exact .inl changed
      · refine .inr ?_
        rw [← Bool.not_eq_true, follows]
        exact fun hp => ungraded ⟨by rw [not_and_or] at changed; exact changed, hp⟩
  · intro unbound length census sample hold performance heartbeat link
    rw [not_or, not_not, not_not] at unbound
    exact acted.idle unbound length census sample hold performance heartbeat link

end Sys2Proof.Machine

namespace Sys2Proof.Machine

/-! ## The boundary of a book that is not held (R47, R53, R56)

`strayEntry` is a state no run reaches: its OFFER source names a DRAFT record. -/

/-- Products 0 and 1 are staged for the boundary into window 1, product 1 for FREQUENCY mode, with an effective time
registered. The one offer, of product 1, is a DRAFT, and yet an OFFER entry names it. -/
def strayEntry : State :=
  let bank (p : Product) : ProductContext := { active := Bank.reset p, pendingBank := Bank.reset p, staged := true }
  let draft : Offer := { id := 1, order := 1, product := 1, window := 5, mode := .fixed, quantity := 1000, price := 0,
                         state := .draft, accepted := none, reason := none, withdrawLate := none }
  { State.reset with
    time := { State.reset.time with
      clock := .running 900000
      boundaryMark := some 0
      effective := (PerProduct.all none).set 1 (some 2000000) }
    products := (State.reset.products.set 0 (bank 0)).set 1
      { bank 1 with pendingBank := { Bank.reset 1 with mode := .frequency } }
    book := { State.reset.book with offers := [draft], lastId := 1, created := 1, ring := some 0 }
    arbiter := { State.reset.arbiter with offers := [.offer 1] }
    links := { State.reset.links with grid := { Engine.reset with up := true } } }

theorem strayEntry_due : strayEntry.dueEvent = some (.boundary 1) := by decide +kernel

/-- No commitment and no offer in flight bars product 1 as the boundary finds it. -/
theorem strayEntry_switchesAt : strayEntry.switchesAt 1 1 := by
  refine ⟨rfl, fun ⟨_, bars⟩ => ?_⟩
  rcases bars with ⟨v, -, committed⟩ | ⟨o, listed, -, -, inFlight⟩
  · have none : strayEntry.commitment 1 v = 0 := by
      unfold State.commitment
      split
      · rfl
      · split <;> rfl
    omega
  · obtain rfl : o = _ := List.mem_singleton.1 listed
    rcases inFlight with h | h | h <;> cases h

theorem strayEntry_resetsAt : strayEntry.resetsAt 1 1 := ⟨strayEntry_switchesAt, .inl (by decide)⟩

/-- The STAGE_APPLIED of product 0 makes the arbiter hand the entry over, and the offer then bars product 1. -/
theorem strayEntry_boundary : ((strayEntry.boundary 1).bank 1).mode = .signalled ∧
    (strayEntry.boundary 1).time.effective.get 1 = some 2000000 := by decide +kernel

/-- A due boundary is taken. -/
theorem windowBoundary_next {s : State} {w : Nat} (due : s.dueEvent = some (.boundary w)) :
    exec (.windowBoundary w) s = .next (s.boundary w) := by
  change Host.Outcome.next (if s.dueEvent = some (.boundary w) then s.deliver (.boundary w) else s) = _
  rw [if_pos due]
  rfl

/-- Refutes O15: in `strayEntry` product 1 is to be reset, but the hand-over of the stray entry while product 0 is
judged makes its offer SUBMITTED, which bars the switch, and its effective time stays. -/
theorem not_boundarySetsObligationsAndClosesRecords : ¬ Obligations.BoundarySetsObligationsAndClosesRecords := by
  unfold Obligations.BoundarySetsObligationsAndClosesRecords
  intro h
  obtain ⟨t, run, -, -, -, -, resets, -⟩ := h 1 strayEntry strayEntry_due
  rw [windowBoundary_next strayEntry_due] at run
  cases run
  have withdrawn := (resets 1 strayEntry_resetsAt).1
  rw [strayEntry_boundary.2] at withdrawn
  cases withdrawn

/-- Refutes O18: in `strayEntry` product 1 is to switch to FREQUENCY mode, but the hand-over of the stray entry while
product 0 is judged bars it, and it stays SIGNALLED. -/
theorem not_banksSwitchAndOffersMoveAtBoundaries : ¬ Obligations.BanksSwitchAndOffersMoveAtBoundaries := by
  unfold Obligations.BanksSwitchAndOffersMoveAtBoundaries
  intro h
  obtain ⟨t, run, banks, -⟩ := h 1 strayEntry strayEntry_due
  rw [windowBoundary_next strayEntry_due] at run
  cases run
  obtain ⟨switched, -⟩ := banks 1
  have mode : ((strayEntry.boundary 1).bank 1).mode = .frequency := by
    rw [State.bank, (switched strayEntry_switchesAt).1]
    rfl
  rw [strayEntry_boundary.1] at mode
  cases mode

end Sys2Proof.Machine

namespace Sys2Proof.Machine

/-! ## Ranges, codes and bounds (R51, R53, R58, R168, R171, R182, R191) -/

/-- R53, R58: a product whose context is `c` takes the code `n`, by its active bank or by a staged one. -/
def ProductContext.takesCode (c : ProductContext) (n : Nat) : Prop :=
  (c.active.enabled = true ∧ c.active.code = n) ∨
  (c.staged = true ∧ c.pendingBank.enabled = true ∧ c.pendingBank.code = n)

/-- R58: codes are unique when no two products take one code. -/
theorem codesHeld_iff (s : State) : s.codesHeld ↔
    ∀ p q : Product, p ≠ q → ∀ n, (s.products.get p).takesCode n → ¬ (s.products.get q).takesCode n := by
  constructor
  · intro held p q hpq n hp hq
    obtain ⟨active, byStage, staged⟩ := held p q hpq
    obtain ⟨-, byStage', -⟩ := held q p hpq.symm
    rcases hp with ⟨ep, cp⟩ | ⟨sp, ep, cp⟩ <;> rcases hq with ⟨eq, cq⟩ | ⟨sq, eq, cq⟩
    · exact active ep eq (cp.trans cq.symm)
    · exact byStage' ⟨sq, eq⟩ ep (cq.trans cp.symm)
    · exact byStage ⟨sp, ep⟩ eq (cp.trans cq.symm)
    · exact staged ⟨sp, ep⟩ ⟨sq, eq⟩ (cp.trans cq.symm)
  · intro apart p q hpq
    refine ⟨fun ep eq same => ?_, fun ⟨sp, ep⟩ eq same => ?_, fun ⟨sp, ep⟩ ⟨sq, eq⟩ same => ?_⟩
    · exact apart p q hpq _ (.inl ⟨ep, same⟩) (.inl ⟨eq, rfl⟩)
    · exact apart p q hpq _ (.inr ⟨sp, ep, same⟩) (.inl ⟨eq, rfl⟩)
    · exact apart p q hpq _ (.inr ⟨sp, ep, same⟩) (.inr ⟨sq, eq, rfl⟩)

/-- R53: a switch is barred by code when another product takes the pending bank's code. -/
theorem barredByCode_iff (s : State) (p : Product) : s.barredByCode p = true ↔
    (s.products.get p).pendingBank.enabled = true ∧
    ∃ q, q ≠ p ∧ (s.products.get q).takesCode (s.products.get p).pendingBank.code := by
  have listed (q : Product) : q ∈ allProducts := by fin_cases q <;> decide
  simp only [State.barredByCode, Bool.and_eq_true, List.any_eq_true, Bool.or_eq_true, decide_eq_true_eq, listed, true_and]
  simp only [State.bank, ProductContext.takesCode, and_assoc]

/-- R168, R171, R182: the bounds, port by port. -/
theorem queuesHeld_iff (s : State) : s.queuesHeld ↔ (∀ port, (s.engine port).bounded port) ∧
    s.management.queue.length ≤ Config.requestQueueSize ∧ s.management.notices.length ≤ Config.noticeQueueSize := by
  constructor
  · rintro ⟨fleet, grid, meter, queue, notices⟩
    refine ⟨fun port => ?_, queue, notices⟩
    cases port
    · exact fleet
    · exact grid
    · exact meter
  · rintro ⟨engines, queue, notices⟩
    exact ⟨engines .fleet, engines .grid, engines .meter, queue, notices⟩

/-- The ranges of parameters and banks, the unique codes and the bounds pass from `s` to `t`, each by itself. -/
structure KeepsRanges (s t : State) : Prop where
  params : s.paramsHeld → t.paramsHeld
  banks : s.banksHeld → t.banksHeld
  codes : s.codesHeld → t.codesHeld
  queues : s.queuesHeld → t.queuesHeld

theorem KeepsRanges.refl (s : State) : KeepsRanges s s := ⟨id, id, id, id⟩

theorem KeepsRanges.trans {s t u : State} (h : KeepsRanges s t) (k : KeepsRanges t u) : KeepsRanges s u :=
  ⟨k.params ∘ h.params, k.banks ∘ h.banks, k.codes ∘ h.codes, k.queues ∘ h.queues⟩

/-- What `k` keeps, after a change that `h` keeps. -/
theorem KeepsRanges.after {s t u : State} (k : KeepsRanges t u) (h : KeepsRanges s t) : KeepsRanges s u := h.trans k

theorem KeepsRanges.foldl {α : Type} {f : State → α → State} (h : ∀ s a, KeepsRanges s (f s a)) (l : List α)
    (s : State) : KeepsRanges s (l.foldl f s) := by
  induction l generalizing s with
  | nil => exact .refl s
  | cons a l ih => exact (h s a).trans (ih _)

/-- A command that answers `u` keeps what the step from `s` to `u` keeps. -/
theorem KeepsRanges.of_next {s t u : State} (h : Host.Outcome.next (φ := Fault) (ρ := Refusal) u = .next t)
    (k : KeepsRanges s u) : KeepsRanges s t := by
  cases h
  exact k

/-- A command that acts only when its condition holds. -/
theorem KeepsRanges.when {s t : State} {c : Prop} [Decidable c] (h : KeepsRanges s t) :
    KeepsRanges s (if c then t else s) := by
  split
  · exact h
  · exact .refl s

theorem KeepsRanges.unless {s t : State} {c : Prop} [Decidable c] (h : KeepsRanges s t) :
    KeepsRanges s (if c then s else t) := by
  split
  · exact .refl s
  · exact h

/-! ### One block changed -/

theorem banksHeld_of_products_eq {s t : State} (h : t.products = s.products) (held : s.banksHeld) : t.banksHeld := by
  simpa only [State.banksHeld, h] using held

theorem codesHeld_of_products_eq {s t : State} (h : t.products = s.products) (held : s.codesHeld) : t.codesHeld := by
  simpa only [State.codesHeld, State.bank, h] using held

theorem paramsHeld_of_eq {s t : State} (h : t.params = s.params) (held : s.paramsHeld) : t.paramsHeld := by
  simpa only [State.paramsHeld, h] using held

/-- A change of the buffers, counts and queues alone. -/
theorem KeepsRanges.of_queues {s t : State} (params : t.params = s.params) (products : t.products = s.products)
    (queues : s.queuesHeld → t.queuesHeld) : KeepsRanges s t :=
  ⟨paramsHeld_of_eq params, banksHeld_of_products_eq products, codesHeld_of_products_eq products, queues⟩

/-- A change that touches none of the blocks named. -/
theorem KeepsRanges.of_eq {s t : State} (params : t.params = s.params) (products : t.products = s.products)
    (links : t.links = s.links) (management : t.management = s.management) : KeepsRanges s t :=
  .of_queues params products (by simp only [State.queuesHeld, links, management]; exact id)

/-- A Frame Engine written within its bounds. -/
theorem setEngine_keepsRanges (s : State) (port : Port) {e : Engine}
    (h : (s.engine port).bounded port → e.bounded port) : KeepsRanges s (s.setEngine port e) :=
  .of_queues (by simp) (by simp) (by
    rw [queuesHeld_iff, queuesHeld_iff, State.setEngine_management]
    rintro ⟨engines, queues⟩
    refine ⟨fun q => ?_, queues⟩
    by_cases hq : q = port
    · subst hq
      rw [setEngine_engine_same]
      exact h (engines q)
    · rw [setEngine_engine_other s hq]
      exact engines q)

/-- A Frame Engine written with its buffer and its count kept. -/
theorem setEngine_kept_keepsRanges (s : State) (port : Port) (e : Engine) (buffer : e.buffer = (s.engine port).buffer)
    (count : e.count = (s.engine port).count) : KeepsRanges s (s.setEngine port e) :=
  setEngine_keepsRanges s port fun ⟨within, counted⟩ => ⟨by rw [buffer]; exact within, by rw [count]; exact counted⟩

/-- The Management Unit changed, no queue of it longer. -/
theorem management_keepsRanges (s : State) {m : Management} (queue : m.queue.length ≤ s.management.queue.length)
    (notices : m.notices.length ≤ s.management.notices.length) : KeepsRanges s (s.setManagement m) :=
  .of_queues rfl rfl (by
    rintro ⟨fleet, grid, meter, waiting, posted⟩
    exact ⟨fleet, grid, meter, queue.trans waiting, notices.trans posted⟩)

/-- A product's context changed: its banks in range when all were, and no code taken that another product takes. -/
theorem setProduct_keepsRanges (s : State) (p : Product) (c : ProductContext)
    (banks : s.banksHeld → c.active.inRange = true ∧ c.pendingBank.inRange = true)
    (codes : ∀ n, c.takesCode n → (s.products.get p).takesCode n ∨ ∀ q, q ≠ p → ¬ (s.products.get q).takesCode n) :
    KeepsRanges s (s.setProduct p c) := by
  have products (q : Product) : (s.setProduct p c).products.get q = if q = p then c else s.products.get q :=
    PerProduct.get_set _ _ _ _
  refine ⟨id, fun held q => ?_, fun held => ?_, id⟩
  · rw [products]
    split
    · exact banks held
    · exact held q
  · rw [codesHeld_iff] at held ⊢
    have free {q : Product} (hq : q ≠ p) {n : Nat} (hc : c.takesCode n) : ¬ (s.products.get q).takesCode n := by
      rcases codes n hc with own | apart
      · exact held p q hq.symm n own
      · exact apart q hq
    intro a b hab n ha hb
    rw [products] at ha hb
    split at ha
    · next own =>
      subst own
      rw [if_neg hab.symm] at hb
      exact free hab.symm ha hb
    · next other =>
      split at hb
      · exact free other hb ha
      · exact held a b hab n ha hb

/-! ### Placing, posting and choosing -/

/-- R178: what stays within the Grid Port's egress and posts no notice, or one into a queue with room. -/
theorem EgressOnly.keepsRanges {s t : State} (h : EgressOnly s t)
    (notices : s.management.notices.length ≤ Config.noticeQueueSize →
      t.management.notices.length ≤ Config.noticeQueueSize) : KeepsRanges s t :=
  .of_queues h.params h.products (by
    rintro ⟨fleet, grid, meter, queue, posted⟩
    refine ⟨by rw [h.fleetEngine]; exact fleet, ?_, by rw [h.meterEngine]; exact meter, by rw [h.queue]; exact queue,
      notices posted⟩
    rw [h.gridEngine]
    exact grid)

theorem handOverOffer_management (s : State) (id : Nat) : (s.handOverOffer id).management = s.management := by
  unfold State.handOverOffer
  split <;> rfl

theorem handOverWithdraw_management (s : State) (id : Nat) : (s.handOverWithdraw id).management = s.management := by
  unfold State.handOverWithdraw
  split <;> rfl

/-- R178: a hand-over takes at most a notice out of the queue. -/
theorem handOver_notices (s : State) (x : Source) :
    (s.handOver x).management.notices.length ≤ s.management.notices.length := by
  cases x with
  | offer =>
    unfold State.handOver
    dsimp only
    split
    · exact le_refl _
    · rw [handOverOffer_management]
    · rw [handOverWithdraw_management]
  | notice =>
    unfold State.handOver
    dsimp only
    split
    · exact le_refl _
    · next listed => rw [listed]; exact Nat.le_succ _
  | ack | availability | report | response =>
    unfold State.handOver
    dsimp only
    split <;> exact le_refl _

theorem choose_notices (s : State) : s.choose.management.notices.length ≤ s.management.notices.length := by
  unfold State.choose
  split
  · split
    · exact le_refl _
    · exact handOver_notices s _
  · exact le_refl _

theorem choose_keepsRanges (s : State) : KeepsRanges s s.choose :=
  (choose_egress s).keepsRanges (choose_notices s).trans

theorem afterPlacing_keepsRanges (s : State) (b : Bool) : KeepsRanges s (s.afterPlacing b) := (choose_keepsRanges s).when

/-- A frame placed in a source of the arbiter. -/
theorem placing_keepsRanges (s : State) (a : Arbiter) (b : Bool) :
    KeepsRanges s (State.afterPlacing { s with arbiter := a } b) :=
  (afterPlacing_keepsRanges _ b).after (.of_eq rfl rfl rfl rfl)

/-- R193: a notice is queued while there is room. -/
theorem post_keepsRanges (s : State) (n : Notice) : KeepsRanges s (s.post n) := by
  unfold State.post
  split
  · split
    · next room =>
      refine (afterPlacing_keepsRanges _ _).after (.of_queues rfl rfl ?_)
      rintro ⟨fleet, grid, meter, queue, -⟩
      exact ⟨fleet, grid, meter, queue, by simpa using room⟩
    · exact .of_queues rfl rfl id
  · exact .refl s

theorem ackFor_keepsRanges (s : State) (p : Product) (id : Nat) (o : AckOutcome) (t : Option Nat) :
    KeepsRanges s (s.ackFor p id o t) := placing_keepsRanges s _ _

/-! ### Triggers, evaluations and the hand-on -/

theorem trigger_keepsRanges (s : State) : KeepsRanges s s.trigger := by
  rw [trigger_eq]
  exact .of_eq rfl rfl rfl rfl

theorem signalExclusion_keepsRanges (s : State) (slot : Nat) (b : Bool) : KeepsRanges s (s.signalExclusion slot b) :=
  (trigger_keepsRanges s).when

theorem queueAvailability_keepsRanges (s : State) : KeepsRanges s s.queueAvailability :=
  (placing_keepsRanges { s with monitor := { s.monitor with
    heartbeatExpiry := s.localTime + s.params.heartbeatInterval * 1000
    heartbeatBase := s.localTime } } _ _).after (.of_eq rfl rfl rfl rfl)

theorem evaluate_keepsRanges (s : State) (b : Bool) : KeepsRanges s (s.evaluate b) :=
  evaluate_rel .refl .trans post_keepsRanges (fun _ _ => .of_eq rfl rfl rfl rfl) queueAvailability_keepsRanges s b

/-- The Monitor changed, and the conditions evaluated. -/
theorem monitorEvaluated_keepsRanges (s : State) (m : Monitor) (b : Bool) :
    KeepsRanges s (State.evaluate { s with monitor := m } b) :=
  (evaluate_keepsRanges _ b).after (.of_eq rfl rfl rfl rfl)

theorem handOn_keepsRanges (s old : State) (c : Cause) : KeepsRanges s (s.handOn old c) := by
  unfold State.handOn
  exact (trigger_keepsRanges s).when.trans
    ((KeepsRanges.foldl (fun t p => KeepsRanges.when (monitorEvaluated_keepsRanges t _ false)) _ _).trans
      (.foldl (fun t p => (post_keepsRanges t _).when) _ _))

/-- The Activation Unit's records changed, and handed on. -/
theorem recordsHandedOn_keepsRanges (s old : State) (a : Activation) (c : Cause) :
    KeepsRanges s (State.handOn { s with activation := a } old c) :=
  (handOn_keepsRanges _ old c).after (.of_eq rfl rfl rfl rfl)

theorem setAct_keepsRanges (s : State) (p : Product) (r : ActRecord) : KeepsRanges s (s.setAct p r) :=
  .of_eq rfl rfl rfl rfl

theorem registerTime_keepsRanges (s : State) (p : Product) (t : Option Nat) : KeepsRanges s (s.registerTime p t) :=
  .of_eq rfl rfl rfl rfl

end Sys2Proof.Machine

namespace Sys2Proof.Machine

/-! ### The Fleet Table and Telemetry Intake -/

theorem enterBarred_keepsRanges (s : State) (slot : Nat) (x : Site) (reason : BarReason) :
    KeepsRanges s (s.enterBarred slot x reason) :=
  ((post_keepsRanges _ _).trans (signalExclusion_keepsRanges _ slot _)).after (.of_eq rfl rfl rfl rfl)

theorem barSite_keepsRanges (s : State) (slot : Nat) (x : Site) : KeepsRanges s (s.barSite slot x) := by
  unfold State.barSite
  split
  · split
    · exact .refl s
    · exact (post_keepsRanges _ _).after (.of_eq rfl rfl rfl rfl)
  · exact enterBarred_keepsRanges s slot x .host

theorem clearSite_keepsRanges {s t : State} {slot : Nat} {x : Site} (h : s.clearSite slot x = .ok t) :
    KeepsRanges s t := by
  unfold State.clearSite at h
  split at h
  · cases h
    exact .of_eq rfl rfl rfl rfl
  · cases h

theorem removeSite_keepsRanges {s t : State} {slot : Nat} {x : Site} (h : s.removeSite slot x = .ok t) :
    KeepsRanges s t := by
  unfold State.removeSite at h
  split at h
  · cases h
    exact (signalExclusion_keepsRanges _ slot _).after (.of_eq rfl rfl rfl rfl)
  · cases h

theorem loadSite_keepsRanges (s : State) (slot : Nat) (f : StaticFields) : KeepsRanges s (s.loadSite slot f) := by
  unfold State.loadSite
  split
  · exact .of_eq rfl rfl rfl rfl
  · dsimp only
    split <;> split <;> exact (signalExclusion_keepsRanges _ slot _).after (.of_eq rfl rfl rfl rfl)

theorem writeFeeder_keepsRanges (s : State) (f up down : Nat) (enabled : Bool) :
    KeepsRanges s (s.writeFeeder f up down enabled) :=
  (trigger_keepsRanges _).when.after (.of_eq rfl rfl rfl rfl)

theorem reportUnconfirmed_keepsRanges (s : State) (slot : Nat) : KeepsRanges s (s.reportUnconfirmed slot) := by
  unfold State.reportUnconfirmed
  dsimp only
  split
  · exact .refl s
  · split
    · exact ((post_keepsRanges _ _).trans (signalExclusion_keepsRanges _ slot _)).after (.of_eq rfl rfl rfl rfl)
    · split
      · exact .of_eq rfl rfl rfl rfl
      · exact .refl s

theorem takeReport_keepsRanges (s : State) (slot : Nat) : KeepsRanges s (s.takeReport slot) :=
  (reportUnconfirmed_keepsRanges _ slot).after (.of_eq rfl rfl rfl rfl)

theorem reportLimit_keepsRanges (s : State) (slot : Nat) (atOnce : Bool) : KeepsRanges s (s.reportLimit slot atOnce) := by
  unfold State.reportLimit
  split
  · exact reportUnconfirmed_keepsRanges s slot
  · exact .of_eq rfl rfl rfl rfl

theorem confirmationTimeout_keepsRanges (s : State) (slot : Nat) (atOnce : Bool) :
    KeepsRanges s (s.confirmationTimeout slot atOnce) := by
  have dispatched (t : State) (d : DispatchRecord) : KeepsRanges t (t.setDispatch slot d) := .of_eq rfl rfl rfl rfl
  unfold State.confirmationTimeout
  extract_lets d t u
  have reported : KeepsRanges t u :=
    KeepsRanges.when ((reportLimit_keepsRanges _ slot atOnce).after (.of_eq rfl rfl rfl rfl))
  exact ((dispatched s _).trans reported).trans ((dispatched u _).trans (trigger_keepsRanges _))

theorem regradeAll_keepsRanges (s : State) : KeepsRanges s s.regradeAll :=
  (KeepsRanges.foldl (fun t (e : Nat × Site) => signalExclusion_keepsRanges t e.1 (s.siteEligible e.2)) _
    s.regradeSites).after (.of_eq rfl rfl rfl rfl)

theorem acceptReport_keepsRanges (s : State) (slot : Nat) (x : Site) (r : SiteReport) :
    KeepsRanges s (s.acceptReport slot x r) := (trigger_keepsRanges _).when.after (.of_eq rfl rfl rfl rfl)

theorem handleReport_keepsRanges (s : State) (r : SiteReport) : KeepsRanges s (s.handleReport r) := by
  unfold State.handleReport State.tagMismatch
  dsimp only
  split
  · exact .of_eq rfl rfl rfl rfl
  · split
    · exact .of_eq rfl rfl rfl rfl
    · split_ifs
      · exact .of_eq rfl rfl rfl rfl
      · exact enterBarred_keepsRanges s _ _ _
      · exact .of_eq rfl rfl rfl rfl
      · exact acceptReport_keepsRanges s _ _ r
      · exact .of_eq rfl rfl rfl rfl

/-! ### The Census Engine and the Allocation Engine -/

theorem requestFull_keepsRanges (s : State) : KeepsRanges s s.requestFull.1 := by
  unfold State.requestFull
  split <;> exact .of_eq rfl rfl rfl rfl

theorem startRun_keepsRanges (s : State) (k : CensusKind) : KeepsRanges s (s.startRun k) := by
  cases k <;> exact .of_eq rfl rfl rfl rfl

theorem requestSelect_keepsRanges (s : State) (f : Nat) : KeepsRanges s (s.requestSelect f).1 := by
  unfold State.requestSelect
  split
  · split
    · exact .refl s
    · split
      · exact .of_eq rfl rfl rfl rfl
      · split <;> exact .of_eq rfl rfl rfl rfl
  · split
    · exact startRun_keepsRanges s .full
    · exact startRun_keepsRanges s (.select _)

theorem requestAfterSwitch_keepsRanges (s : State) : KeepsRanges s s.requestAfterSwitch :=
  (requestFull_keepsRanges _).after (.of_eq rfl rfl rfl rfl)

theorem censusTimerExpires_keepsRanges (s : State) : KeepsRanges s s.censusTimerExpires :=
  (requestFull_keepsRanges s).trans (.of_eq rfl rfl rfl rfl)

theorem startPending_keepsRanges (s : State) : KeepsRanges s s.startPending := by
  unfold State.startPending
  split
  · exact (startRun_keepsRanges _ _).after (.of_eq rfl rfl rfl rfl)
  · split
    · exact (startRun_keepsRanges _ _).after (.of_eq rfl rfl rfl rfl)
    · exact .of_eq rfl rfl rfl rfl

theorem publish_keepsRanges (s : State) (run : CensusRun) : KeepsRanges s (s.publish run) := by
  unfold State.publish
  extract_lets x _ t
  have counted : KeepsRanges s t := .of_eq rfl rfl rfl rfl
  exact ((counted.trans (trigger_keepsRanges t)).trans (evaluate_keepsRanges _ false)).trans
    ((post_keepsRanges _ _).trans (startPending_keepsRanges _))

theorem feedFleet_keepsRanges (s : State) : KeepsRanges s s.feedFleet := by
  have handed (release : Nat) (t : State) (e : ReleaseEntry) : KeepsRanges t (State.handOverEntry release t e) :=
    .of_eq rfl rfl rfl rfl
  unfold State.feedFleet
  split
  · split
    · exact .refl s
    · split
      · exact .of_eq rfl rfl rfl rfl
      · next e _ _ f rest _ =>
        have sent (o : Octets) : KeepsRanges s (s.sendFleet o) := .of_queues rfl rfl id
        exact ((sent _).trans (.foldl (handed e.release) f _)).trans (.of_eq rfl rfl rfl rfl)
  · exact .refl s

theorem beginRelease_keepsRanges (s : State) : KeepsRanges s s.beginRelease := by
  unfold State.beginRelease
  dsimp only
  split
  · exact .of_eq rfl rfl rfl rfl
  · exact (feedFleet_keepsRanges _).after (.of_eq rfl rfl rfl rfl)

theorem endPass_keepsRanges (s : State) (l : PassLatch) : KeepsRanges s (s.endPass l) := by
  have replaced : KeepsRanges s (s.replaceByPass l) := .of_eq rfl rfl rfl rfl
  have triggered (t : State) (c : Prop) [Decidable c] : KeepsRanges t (if c then t.trigger else t) :=
    (trigger_keepsRanges t).when
  have requested (t : State) (c : Prop) [Decidable c] : KeepsRanges t
      (if c then { t with allocation := { t.allocation with requested := true } } else t) :=
    KeepsRanges.when (.of_eq rfl rfl rfl rfl)
  have ended (t : State) : KeepsRanges t (if t.allocation.passPending then t.startPass
      else { t with allocation := { t.allocation with pass := none } }) := by
    split <;> exact .of_eq rfl rfl rfl rfl
  unfold State.endPass
  extract_lets evaluated t _ u
  exact (((replaced.trans (evaluate_keepsRanges _ false)).trans (triggered evaluated _)).trans (requested t _)).trans
    (ended u)

/-! ### The Delivery Monitor and the Activation Unit -/

theorem alarmRule_keepsRanges (s : State) (p : Product) : KeepsRanges s (s.alarmRule p) := by
  unfold State.alarmRule
  dsimp only
  split
  · split
    · exact .of_eq rfl rfl rfl rfl
    · exact ((post_keepsRanges _ _).trans (evaluate_keepsRanges _ false)).after (.of_eq rfl rfl rfl rfl)
  · exact .refl s

theorem measure_keepsRanges (s : State) (duration : Nat) (p : Product) : KeepsRanges s (s.measure duration p) := by
  unfold State.measure
  extract_lets requested delivered deficient t u
  have measured : KeepsRanges s t := .of_eq rfl rfl rfl rfl
  have alarmed : KeepsRanges t u := (alarmRule_keepsRanges t p).when
  exact (measured.trans alarmed).trans (placing_keepsRanges _ _ _)

theorem endInterval_keepsRanges (s : State) : KeepsRanges s s.endInterval :=
  (KeepsRanges.foldl (fun t p => measure_keepsRanges t _ p) _ _).after (.of_eq rfl rfl rfl rfl)

theorem clearLatches_keepsRanges (s : State) : KeepsRanges s s.clearLatches := by
  unfold State.clearLatches
  dsimp only
  split
  · exact monitorEvaluated_keepsRanges s _ false
  · exact .of_eq rfl rfl rfl rfl

/-- A record set and its effective time withdrawn or registered, acknowledged and handed on. -/
theorem acknowledged_keepsRanges (s : State) (p : Product) (r : ActRecord) (registered : Option Nat) (id : Nat)
    (o : AckOutcome) (time : Option Nat) (c : Cause) :
    KeepsRanges s ((((s.setAct p r).registerTime p registered).ackFor p id o time).handOn s c) :=
  ((setAct_keepsRanges s p r).trans (registerTime_keepsRanges _ p registered)).trans
    ((ackFor_keepsRanges _ p id o time).trans (handOn_keepsRanges _ s c))

theorem takeOrder_keepsRanges (s : State) (code id quantity time : Nat) :
    KeepsRanges s (s.takeOrder code id quantity time) := by
  unfold State.takeOrder
  split
  · exact placing_keepsRanges s _ _
  · split_ifs
    · exact ackFor_keepsRanges s _ _ _ _
    · exact ackFor_keepsRanges s _ _ _ _
    · exact (setAct_keepsRanges s _ _).trans ((ackFor_keepsRanges _ _ _ _ _).trans (handOn_keepsRanges _ s _))
    · exact acknowledged_keepsRanges s _ _ _ _ _ _ _

theorem arrival_keepsRanges (s : State) (p : Product) (time : Nat) : KeepsRanges s (s.arrival p time) := by
  unfold State.arrival
  dsimp only
  split
  · exact .refl s
  · split
    · exact .refl s
    · split <;> exact acknowledged_keepsRanges s _ _ _ _ _ _ _

theorem takeEnd_keepsRanges (s : State) (code id : Nat) : KeepsRanges s (s.takeEnd code id) := by
  unfold State.takeEnd
  split
  · exact placing_keepsRanges s _ _
  · split_ifs
    · exact ackFor_keepsRanges s _ _ _ _
    · exact acknowledged_keepsRanges s _ _ _ _ _ _ _
    · exact ackFor_keepsRanges s _ _ _ _

theorem activationBoundary_keepsRanges (s : State) (w : Nat) : KeepsRanges s (s.activationBoundary w) := by
  unfold State.activationBoundary
  refine KeepsRanges.after ((KeepsRanges.foldl (fun t p => ?_) _ _).trans (handOn_keepsRanges _ _ _))
    (.of_eq rfl rfl rfl rfl)
  split
  · exact .refl t
  · exact ackFor_keepsRanges t _ _ _ _

theorem resetForSwitch_keepsRanges (s : State) (p : Product) : KeepsRanges s (s.resetForSwitch p) := by
  unfold State.resetForSwitch
  extract_lets r t u v
  have cleared : KeepsRanges s t := .of_eq rfl rfl rfl rfl
  have ended : KeepsRanges t u := by
    simp only [u]
    split
    · exact .refl t
    · exact ackFor_keepsRanges t _ _ _ _
  have refused : KeepsRanges u v := by
    simp only [v]
    split
    · exact .refl u
    · exact ackFor_keepsRanges u _ _ _ _
  exact ((cleared.trans ended).trans refused).trans (handOn_keepsRanges v s _)

/-! ### The Offer Book -/

theorem lapseGate_keepsRanges (s : State) (p : Product) (w : Nat) : KeepsRanges s (s.lapseGate p w) :=
  (KeepsRanges.foldl (f := State.lapseOffer) (fun _ _ => .of_eq rfl rfl rfl rfl) _ s).trans
    (.foldl (fun t _ => post_keepsRanges t _) _ _)

theorem boundaryOffer_keepsRanges (s : State) (o : Offer) : KeepsRanges s (s.boundaryOffer o) := by
  unfold State.boundaryOffer
  split <;> exact .of_eq rfl rfl rfl rfl

theorem closeOffer_keepsRanges (s : State) (o : Offer) : KeepsRanges s (s.closeOffer o) :=
  KeepsRanges.when (.of_eq rfl rfl rfl rfl)

theorem bookBoundary_keepsRanges (s : State) (w : Nat) : KeepsRanges s (s.bookBoundary w) := by
  unfold State.bookBoundary
  extract_lets t u
  have moved : KeepsRanges s u :=
    (KeepsRanges.foldl boundaryOffer_keepsRanges _ s).trans (.foldl closeOffer_keepsRanges _ t)
  have recycled : KeepsRanges u (u.recycleRing w) := .of_eq rfl rfl rfl rfl
  exact (moved.trans recycled).trans (.foldl (fun t _ => post_keepsRanges t _) _ _)

theorem takeResult_keepsRanges (s : State) (id : Nat) (out : ResultOutcome) (reported reason : Nat) :
    KeepsRanges s (s.takeResult id out reported reason) := by
  have applied (o : Offer) : KeepsRanges s (s.applyResult o out reported reason) := by
    unfold State.applyResult
    dsimp only
    refine (post_keepsRanges _ _).after ?_
    split <;> exact .of_eq rfl rfl rfl rfl
  unfold State.takeResult
  split
  · exact .refl s
  · split
    · exact applied _
    · exact applied _
    · exact post_keepsRanges s _
    all_goals exact .refl s

theorem queueOffer_keepsRanges (s : State) (id q : Nat) : KeepsRanges s (s.queueOffer id q) :=
  (placing_keepsRanges _ _ _).after (.of_eq rfl rfl rfl rfl)

theorem withdrawOffer_keepsRanges {s t : State} {o : Offer} (h : s.withdrawOffer o = .ok t) : KeepsRanges s t := by
  unfold State.withdrawOffer at h
  split at h
  · cases h; exact .of_eq rfl rfl rfl rfl
  · cases h; exact .of_eq rfl rfl rfl rfl
  · cases h; exact (placing_keepsRanges _ _ _).after (.of_eq rfl rfl rfl rfl)
  all_goals cases h

/-! ### The Product Table (R51, R53 to R57) -/

/-- R51: a written bank in range takes the place of the pending one, and is not staged. -/
theorem writePending_keepsRanges (s : State) (p : Product) {b : Bank} (hb : b.inRange = true) :
    KeepsRanges s (s.writePending p b) :=
  setProduct_keepsRanges s p _ (fun held => ⟨(held p).1, hb⟩) fun n taken => by
    rcases taken with active | ⟨staged, -⟩
    · exact .inl (.inl active)
    · cases staged

/-- The staged mark removed. -/
theorem unstage_keepsRanges (s : State) (p : Product) :
    KeepsRanges s (s.setProduct p { s.products.get p with staged := false }) :=
  setProduct_keepsRanges s p _ (fun held => held p) fun n taken => by
    rcases taken with active | ⟨staged, -⟩
    · exact .inl (.inl active)
    · cases staged

/-- R53, R56: a bank copied where its code was staged or is taken by no other product. -/
theorem copyBank_keepsRanges (s : State) (p : Product)
    (h : (s.products.get p).staged = true ∨ s.barredByCode p = false) : KeepsRanges s (s.copyBank p) :=
  setProduct_keepsRanges s p _ (fun held => ⟨(held p).2, (held p).2⟩) fun n taken => by
    rcases taken with ⟨enabled, rfl⟩ | ⟨staged, -⟩
    · rcases h with staged | free
      · exact .inl (.inr ⟨staged, enabled, rfl⟩)
      · refine .inr fun q hq taken => ?_
        rw [(barredByCode_iff s p).2 ⟨enabled, q, hq, taken⟩] at free
        cases free
    · cases staged

theorem closeGate_keepsRanges (s : State) (p : Product) (w : Nat) : KeepsRanges s (s.closeGate p w) :=
  (lapseGate_keepsRanges _ p w).after (.of_eq rfl rfl rfl rfl)

theorem closeGates_keepsRanges (s : State) (p : Product) (g n : Nat) : KeepsRanges s (s.closeGates p g n) := by
  induction n generalizing s g with
  | zero => exact .refl s
  | succ n ih => exact (closeGate_keepsRanges s p _).trans (ih _ _)

theorem adjustGate_keepsRanges (s : State) (p : Product) : KeepsRanges s (s.adjustGate p) := by
  unfold State.adjustGate
  split
  · exact closeGates_keepsRanges s _ _ _
  · exact .refl s

theorem afterSwitch_keepsRanges (s : State) (p : Product) (old : Bank) : KeepsRanges s (s.afterSwitch p old) :=
  (adjustGate_keepsRanges s p).unless.trans (resetForSwitch_keepsRanges _ p).when

theorem judgeStaged_keepsRanges (w : Nat) (s : State) (p : Product) : KeepsRanges s (s.judgeStaged w p) := by
  unfold State.judgeStaged
  split
  · next staged =>
    split
    · exact (unstage_keepsRanges s p).trans (post_keepsRanges _ _)
    · exact ((copyBank_keepsRanges s p (.inl staged)).trans (post_keepsRanges _ _)).trans (afterSwitch_keepsRanges _ p _)
  · exact .refl s

theorem productBoundary_keepsRanges (s : State) (w : Nat) : KeepsRanges s (s.productBoundary w) :=
  (KeepsRanges.foldl (judgeStaged_keepsRanges w) _ s).trans (requestAfterSwitch_keepsRanges _).when

theorem applyNow_keepsRanges {s t : State} {p : Product} (h : s.applyNow p = .ok t) : KeepsRanges s t := by
  unfold State.applyNow at h
  split_ifs at h with _ byCode _
  cases h
  exact ((copyBank_keepsRanges s p (.inr (by simpa using byCode))).trans (afterSwitch_keepsRanges _ p _)).trans
    (requestAfterSwitch_keepsRanges _)

/-- R54: a staged bank's code is taken by no other product. -/
theorem stage_keepsRanges {s t : State} {p : Product} (h : s.stage p = .ok t) : KeepsRanges s t := by
  unfold State.stage at h
  split_ifs at h with byCode _
  cases h
  refine setProduct_keepsRanges s p _ (fun held => held p) fun n taken => ?_
  rcases taken with active | ⟨-, enabled, rfl⟩
  · exact .inl (.inl active)
  · exact .inr fun q hq taken => byCode ((barredByCode_iff s p).2 ⟨enabled, q, hq, taken⟩)

theorem cancelStage_keepsRanges {s t : State} {p : Product} (h : s.cancelStage p = .ok t) : KeepsRanges s t := by
  unfold State.cancelStage at h
  split_ifs at h
  cases h
  exact unstage_keepsRanges s p

/-! ### The calendar (R42 to R49) -/

theorem boundary_keepsRanges (s : State) (w : Nat) : KeepsRanges s (s.boundary w) := by
  have marked : KeepsRanges s { s with time := { s.time with boundaryMark := some w } } := .of_eq rfl rfl rfl rfl
  have monitored (t : State) : KeepsRanges t (t.monitorBoundary w) := monitorEvaluated_keepsRanges t _ false
  exact ((((marked.trans (productBoundary_keepsRanges _ w)).trans (bookBoundary_keepsRanges _ w)).trans
    (activationBoundary_keepsRanges _ w)).trans (monitored _))

theorem deliver_keepsRanges (s : State) (e : CalendarEvent) : KeepsRanges s (s.deliver e) := by
  cases e with
  | gate p w => exact closeGate_keepsRanges s p w
  | boundary w => exact boundary_keepsRanges s w
  | arrival p t => exact (arrival_keepsRanges _ p t).after (.of_eq rfl rfl rfl rfl)

theorem runAt_keepsRanges (s : State) (d : Nat) : KeepsRanges s (s.runAt d) := .of_eq rfl rfl rfl rfl

theorem runCalendar_keepsRanges (fuel : Nat) (s : State) (from0 limit : Nat) :
    KeepsRanges s (s.runCalendar fuel from0 limit) := by
  induction fuel generalizing s from0 with
  | zero => exact .refl s
  | succ n ih =>
    unfold State.runCalendar
    split
    · exact .refl s
    · exact ((runAt_keepsRanges s _).trans (deliver_keepsRanges _ _)).trans (ih _ _)

theorem takeMark_keepsRanges (s : State) (m : Nat) : KeepsRanges s (s.takeMark m) := by
  unfold State.takeMark
  split
  · unfold State.firstMark State.monitorFirstMark
    exact (monitorEvaluated_keepsRanges _ _ false).after (.of_eq rfl rfl rfl rfl)
  · unfold State.laterMark
    split_ifs
    · exact ((runAt_keepsRanges s _).trans (runCalendar_keepsRanges _ _ _ _)).trans (runAt_keepsRanges _ m)
    · exact runAt_keepsRanges s _
    · exact .of_eq rfl rfl rfl rfl
    · exact post_keepsRanges s _

theorem changeWindowLength_keepsRanges (s : State) : KeepsRanges s s.changeWindowLength := by
  unfold State.changeWindowLength
  split
  · exact .refl s
  · dsimp only
    split
    · exact .of_eq rfl rfl rfl rfl
    · split
      · exact (boundary_keepsRanges s _).trans (.of_eq rfl rfl rfl rfl)
      · exact .of_eq rfl rfl rfl rfl

theorem tick_keepsRanges (s : State) : KeepsRanges s s.tick := by
  unfold State.tick
  split <;> exact .of_eq rfl rfl rfl rfl

/-! ### The Frame Engines (R164 to R175) -/

theorem record_bounded {e : Engine} {port : Port} (h : e.bounded port) (c : ErrClass) (shown : Bool) :
    (e.record c shown).bounded port := by
  obtain ⟨buffer, count⟩ := h
  unfold Engine.record Engine.addClass Engine.raiseCount
  split
  · exact ⟨buffer, count⟩
  · split
    · next room => exact ⟨buffer, room⟩
    · exact ⟨buffer, count⟩

/-- R164, R168: a frame joins the buffer only while there is room. -/
theorem take_bounded {e : Engine} {port : Port} (h : e.bounded port) (f : Frame) :
    (e.take (bufferSize port) f).bounded port := by
  unfold Engine.take
  split
  · next room =>
    extract_lets t u
    have joined : t.bounded port := ⟨by simpa [t] using room, h.2⟩
    have flagged : u.bounded port := by
      simp only [u]
      split
      · exact record_bounded joined _ _
      · exact joined
    unfold Engine.setExpected
    split <;> exact flagged
  · exact record_bounded h _ _

theorem reportClass_keepsRanges (s : State) (port : Port) (c : ErrClass) (shown : Bool) :
    KeepsRanges s (s.reportClass port c shown) := setEngine_keepsRanges s port fun h => record_bounded h c shown

theorem dropHead_keepsRanges (s : State) (port : Port) : KeepsRanges s (s.dropHead port) :=
  setEngine_keepsRanges s port fun ⟨buffer, count⟩ => ⟨by rw [List.length_drop]; omega, count⟩

theorem handOnLink_keepsRanges (s : State) (port : Port) (up : Bool) (c : LinkCause) :
    KeepsRanges s (s.handOnLink port up c) := by
  unfold State.handOnLink
  refine KeepsRanges.trans ?_ (post_keepsRanges _ _)
  cases port with
  | fleet =>
    refine KeepsRanges.trans ?_ (monitorEvaluated_keepsRanges _ _ false)
    dsimp only
    split
    · exact KeepsRanges.when (.of_eq rfl rfl rfl rfl)
    · exact .of_eq rfl rfl rfl rfl
  | grid => exact (choose_keepsRanges s).when
  | meter => exact monitorEvaluated_keepsRanges s _ false

theorem emptyTransmitter_keepsRanges (s : State) (port : Port) : KeepsRanges s (s.emptyTransmitter port) := by
  cases port <;> exact .of_queues rfl rfl id

theorem goDown_keepsRanges (s : State) (port : Port) (c : LinkCause) : KeepsRanges s (s.goDown port c) :=
  ((setEngine_kept_keepsRanges s port (s.engine port).down rfl rfl).trans (emptyTransmitter_keepsRanges _ port)).trans
    (handOnLink_keepsRanges _ port false c)

theorem validFrame_keepsRanges (s : State) (port : Port) : KeepsRanges s (s.validFrame port) := by
  unfold State.validFrame
  dsimp only
  split
  · exact setEngine_kept_keepsRanges s port _ rfl rfl
  · split
    · exact (handOnLink_keepsRanges _ port true .frame).after (setEngine_kept_keepsRanges s port _ rfl rfl)
    · exact .refl s

theorem retimeLink_keepsRanges (s : State) (port : Port) : KeepsRanges s (s.retimeLink port) := by
  have moved (e : Nat) : KeepsRanges s (s.setEngine port { s.engine port with expiry := some e }) :=
    setEngine_kept_keepsRanges s port _ rfl rfl
  unfold State.retimeLink
  split
  · exact .refl s
  · split
    · exact (goDown_keepsRanges _ port .timeout).when.after (moved _)
    · exact .refl s

end Sys2Proof.Machine

namespace Sys2Proof.Machine

/-! ### Parameters and the warm restart (R191, R192) -/

theorem retimeCensus_keepsRanges (s : State) : KeepsRanges s s.retimeCensus :=
  (censusTimerExpires_keepsRanges _).when.after (.of_eq rfl rfl rfl rfl)

theorem retimeInterval_keepsRanges (s : State) : KeepsRanges s s.retimeInterval :=
  (endInterval_keepsRanges _).when.after (.of_eq rfl rfl rfl rfl)

theorem retimeHeartbeat_keepsRanges (s : State) : KeepsRanges s s.retimeHeartbeat :=
  (evaluate_keepsRanges _ true).when.after (.of_eq rfl rfl rfl rfl)

theorem regradeSilence_keepsRanges (s : State) : KeepsRanges s s.regradeSilence := recordsHandedOn_keepsRanges s s _ _

theorem actOnParams_keepsRanges (s : State) (old : Params) : KeepsRanges s (s.actOnParams old) := by
  obtain ⟨t1, t2, t3, t4, t5, t6, acted⟩ := actOnParams_stages s old
  have sites : KeepsRanges s t1 := by rw [acted.sites]; exact (regradeAll_keepsRanges s).unless
  have window : KeepsRanges t1 t2 := by rw [acted.window]; exact (changeWindowLength_keepsRanges t1).unless
  have census : KeepsRanges t2 t3 := by rw [acted.census]; exact (retimeCensus_keepsRanges t2).unless
  have silence : KeepsRanges t3 t4 := by rw [acted.silence]; exact (regradeSilence_keepsRanges t3).unless
  have interval : KeepsRanges t4 t5 := by rw [acted.interval]; exact (retimeInterval_keepsRanges t4).unless
  have heartbeat : KeepsRanges t5 t6 := by rw [acted.heartbeat]; exact (retimeHeartbeat_keepsRanges t5).unless
  have links : KeepsRanges t6 (s.actOnParams old) := by
    rw [acted.links]
    exact (((retimeLink_keepsRanges t6 .fleet).trans (retimeLink_keepsRanges _ .grid)).trans
      (retimeLink_keepsRanges _ .meter)).unless
  exact (((((sites.trans window).trans census).trans silence).trans interval).trans heartbeat).trans links

/-- R191: a record in range replaces the parameters. -/
theorem applyParams_keepsRanges (s : State) {p : Params} (hp : p.inRange = true) : KeepsRanges s (s.applyParams p) :=
  (actOnParams_keepsRanges _ _).after ⟨fun _ => hp, id, id, id⟩

theorem restartBlocks_keepsRanges (s : State) : KeepsRanges s s.restartBlocks := by
  rw [restartBlocks_starts]
  exact .of_eq rfl rfl rfl rfl

theorem warmRestart_keepsRanges (s : State) : KeepsRanges s s.warmRestart := by
  rw [warmRestart_eq]
  exact ((restartBlocks_keepsRanges s).trans (evaluate_keepsRanges _ false)).trans
    (.foldl (fun t p => (post_keepsRanges t _).when) _ _)

/-! ### Requests (R183 to R189) -/

theorem takeRequest_keepsRanges (s : State) : KeepsRanges s s.takeRequest :=
  management_keepsRanges s (by rw [List.length_drop]; exact Nat.sub_le _ _) (le_refl _)

/-- The Management Unit changed, its queues as they stand. -/
theorem noted_keepsRanges (s : State) (x : Option InExecution) (w : Option TableWindow) (limit : Nat) (b : Bool) :
    KeepsRanges s (s.setManagement { s.management with
      inExecution := x, window := w, returnLimit := limit, noticeDiscarded := b }) :=
  management_keepsRanges s (le_refl _) (le_refl _)

theorem respond_keepsRanges (s : State) (r : PendingRequest) (e : Option Reason) (b : Octets) :
    KeepsRanges s (s.respond r e b) :=
  (placing_keepsRanges _ _ _).after (noted_keepsRanges s none s.management.window s.management.returnLimit _)

theorem outOfFormat_keepsRanges (s : State) (r : PendingRequest) : KeepsRanges s (s.outOfFormat r) :=
  (reportClass_keepsRanges s _ _ _).trans (respond_keepsRanges _ _ _ _)

/-- A request keeps what its execution keeps. -/
theorem request_keepsRanges {run : State → PendingRequest → State} (h : ∀ s r, KeepsRanges s (run s r)) (s : State)
    (code length : Nat) : KeepsRanges s (s.request code length run) := by
  unfold State.request
  split
  · exact .refl s
  · split
    · exact (takeRequest_keepsRanges s).trans (h _ _)
    · exact (takeRequest_keepsRanges s).trans (outOfFormat_keepsRanges _ _)

/-- A request without a body keeps what the state it is done with keeps. -/
theorem answer_keepsRanges {s : State} {x : Except Reason State} (h : ∀ t, x = .ok t → KeepsRanges s t)
    (r : PendingRequest) : KeepsRanges s (s.answer r x) := by
  unfold State.answer
  split
  · exact (h _ rfl).trans (respond_keepsRanges _ _ _ _)
  · exact respond_keepsRanges _ _ _ _

theorem siteRequest_keepsRanges {act : State → Nat → Site → Except Reason State}
    (h : ∀ (s t : State) (slot : Nat) (x : Site), act s slot x = .ok t → KeepsRanges s t) (s : State)
    (r : PendingRequest) : KeepsRanges s (s.siteRequest act r) := by
  refine answer_keepsRanges (fun t done => ?_) r
  split at done
  · cases done
  · exact h s t _ _ done

theorem productRequest_keepsRanges {act : State → Product → Except Reason State}
    (h : ∀ (s t : State) (p : Product), act s p = .ok t → KeepsRanges s t) (s : State) (r : PendingRequest) :
    KeepsRanges s (s.productRequest act r) := by
  refine answer_keepsRanges (fun t done => ?_) r
  split at done
  · cases done
  · exact h s t _ done

/-- R51: a bank out of its ranges is not written. -/
theorem writeBank_keepsRanges {s : State} {p : Product} {o : Octets} {x : State × Bool}
    (h : s.writeBank p o = .ok x) : KeepsRanges s x.1 := by
  unfold State.writeBank at h
  split at h
  · cases h
  · split at h
    · next inRange =>
      cases h
      exact writePending_keepsRanges s p inRange
    · cases h

theorem writeRecord_keepsRanges {s : State} {table : TableName} {i : Nat} {o : Octets} {x : State × Option Product}
    (h : s.writeRecord table i o = .ok x) : KeepsRanges s x.1 := by
  unfold State.writeRecord at h
  split at h
  · unfold State.writeSiteRecord at h
    split at h
    · cases h
    · cases h
      exact loadSite_keepsRanges s i _
  · unfold State.writeFeederRecord at h
    split at h
    · cases h
    · split at h
      · cases h
        exact writeFeeder_keepsRanges s i _ _ _
      · cases h
  · split at h
    · cases h
    · next p _ =>
      cases written : s.writeBank p o with
      | error e =>
        rw [written] at h
        cases h
      | ok u =>
        rw [written] at h
        cases h
        exact writeBank_keepsRanges written
  all_goals cases h

theorem setWindowTo_keepsRanges (s : State) (w : TableWindow) : KeepsRanges s (s.setWindowTo w) :=
  noted_keepsRanges s s.management.inExecution (some w) s.management.returnLimit s.management.noticeDiscarded

theorem writeRun_keepsRanges (rest : List Octets) (take : Option Nat) (applied : Nat) (marks : BitVec 8)
    (w : TableWindow) (r : PendingRequest) (s : State) :
    KeepsRanges s (State.writeRun rest take applied marks w r s) := by
  induction rest generalizing take applied marks w s with
  | nil => exact respond_keepsRanges s _ _ _
  | cons o more ih =>
    unfold State.writeRun
    split
    · exact respond_keepsRanges s _ _ _
    · split
      · exact noted_keepsRanges s _ s.management.window s.management.returnLimit _
      · split
        · exact respond_keepsRanges s _ _ _
        · next written =>
          exact ((writeRecord_keepsRanges written).trans (setWindowTo_keepsRanges _ _)).trans (ih _ _ _ _ _)

theorem judgedWrite_keepsRanges (s : State) (r : PendingRequest) (fixed : Nat) (take : Option Nat)
    (x : Except Reason TableWindow) : KeepsRanges s (s.judgedWrite r fixed take x) := by
  unfold State.judgedWrite State.beginWrite
  split
  · exact respond_keepsRanges s _ _ _
  · split
    · exact respond_keepsRanges s _ _ _
    · split
      · exact writeRun_keepsRanges _ _ _ _ _ _ s
      · exact outOfFormat_keepsRanges s r

theorem resumeWrite_keepsRanges (s : State) (take : Option Nat) (x : InExecution) :
    KeepsRanges s (s.resumeWrite take x) := by
  unfold State.resumeWrite
  split
  · exact writeRun_keepsRanges _ _ _ _ _ _ s
  · exact .refl s

theorem readRun_keepsRanges (remaining : Nat) (take : Option Nat) (first count : Nat) (records : Octets)
    (w : TableWindow) (r : PendingRequest) (s : State) :
    KeepsRanges s (State.readRun remaining take first count records w r s) := by
  induction remaining generalizing take count records with
  | zero => exact (setWindowTo_keepsRanges s _).trans (respond_keepsRanges _ _ _ _)
  | succ n ih =>
    unfold State.readRun
    split
    · exact noted_keepsRanges s _ s.management.window s.management.returnLimit _
    · exact ih _ _ _

theorem judgedRead_keepsRanges (s : State) (r : PendingRequest) (take : Option Nat) (x : Except Reason TableWindow) :
    KeepsRanges s (s.judgedRead r take x) := by
  unfold State.judgedRead
  split
  · exact respond_keepsRanges s _ _ _
  · exact readRun_keepsRanges _ _ _ _ _ _ _ s

theorem resumeRead_keepsRanges (s : State) (take : Option Nat) (x : InExecution) :
    KeepsRanges s (s.resumeRead take x) := by
  unfold State.resumeRead
  split
  · exact readRun_keepsRanges _ _ _ _ _ _ _ s
  · exact .refl s

theorem setWindow_keepsRanges (s : State) (r : PendingRequest) : KeepsRanges s (s.setWindow r) :=
  answer_keepsRanges (fun t done => by
    split at done
    · cases done
    · cases done
      exact setWindowTo_keepsRanges s _) r

theorem setReturnLimit_keepsRanges (s : State) (r : PendingRequest) : KeepsRanges s (s.setReturnLimit r) :=
  answer_keepsRanges (fun t done => by
    split at done
    · cases done
      exact noted_keepsRanges s s.management.inExecution s.management.window _ _
    · cases done) r

theorem writeProduct_keepsRanges (s : State) (r : PendingRequest) : KeepsRanges s (s.writeProduct r) := by
  unfold State.writeProduct
  split
  · exact respond_keepsRanges s _ _ _
  · split
    · exact respond_keepsRanges s _ _ _
    · next written => exact (writeBank_keepsRanges written).trans (respond_keepsRanges _ _ _ _)

/-- A change of the book alone, and the response. -/
theorem bookAnswered_keepsRanges (s : State) (b : Book) (r : PendingRequest) (e : Option Reason) (o : Octets) :
    KeepsRanges s (State.respond { s with book := b } r e o) :=
  (respond_keepsRanges _ r e o).after (.of_eq rfl rfl rfl rfl)

theorem createOffer_keepsRanges (s : State) (r : PendingRequest) : KeepsRanges s (s.createOffer r) := by
  unfold State.createOffer
  split
  · split
    · exact respond_keepsRanges s _ _ _
    · exact bookAnswered_keepsRanges s _ r _ _
  · exact respond_keepsRanges s _ _ _

theorem updateOffer_keepsRanges (s : State) (r : PendingRequest) : KeepsRanges s (s.updateOffer r) :=
  answer_keepsRanges (fun t done => by
    split at done
    · cases done
    · split at done
      · cases done
      · split at done
        · cases done
        · cases done
          exact .of_eq rfl rfl rfl rfl) r

theorem submitOffer_keepsRanges (s : State) (r : PendingRequest) : KeepsRanges s (s.submitOffer r) := by
  unfold State.submitOffer
  split
  · exact respond_keepsRanges s _ _ _
  · split
    · exact respond_keepsRanges s _ _ _
    · split
      · exact respond_keepsRanges s _ _ _
      · exact (queueOffer_keepsRanges s _ _).trans (respond_keepsRanges _ _ _ _)

theorem withdrawRequest_keepsRanges (s : State) (r : PendingRequest) : KeepsRanges s (s.withdrawRequest r) :=
  answer_keepsRanges (fun t done => by
    split at done
    · cases done
    · exact withdrawOffer_keepsRanges done) r

theorem retireOffers_keepsRanges (s : State) (r : PendingRequest) : KeepsRanges s (s.retireOffers r) := by
  unfold State.retireOffers
  split
  · exact respond_keepsRanges s _ _ _
  · exact bookAnswered_keepsRanges s _ r _ _

theorem readReserved_keepsRanges (s : State) (r : PendingRequest) : KeepsRanges s (s.readReserved r) := by
  unfold State.readReserved
  split <;> exact bookAnswered_keepsRanges s _ r _ _

theorem updateConditional_keepsRanges (s : State) (r : PendingRequest) : KeepsRanges s (s.updateConditional r) := by
  unfold State.updateConditional
  split
  · exact bookAnswered_keepsRanges s _ r _ _
  · split
    · extract_lets y t
      have updated : KeepsRanges s t := .of_eq rfl rfl rfl rfl
      unfold State.submitUpdated
      split
      · split
        · exact updated.trans (respond_keepsRanges _ _ _ _)
        · exact updated.trans ((queueOffer_keepsRanges t _ _).trans (respond_keepsRanges _ _ _ _))
      · exact updated.trans (respond_keepsRanges _ _ _ _)
    · exact bookAnswered_keepsRanges s _ r _ _

theorem requestCensus_keepsRanges (s : State) (r : PendingRequest) : KeepsRanges s (s.requestCensus r) := by
  unfold State.requestCensus
  split
  · exact respond_keepsRanges s _ _ _
  · exact (requestFull_keepsRanges s).trans (respond_keepsRanges _ _ _ _)
  · split
    · exact (requestSelect_keepsRanges s _).trans (respond_keepsRanges _ _ _ _)
    · exact respond_keepsRanges s _ _ _

theorem readStatus_keepsRanges (s : State) (r : PendingRequest) : KeepsRanges s (s.readStatus r) := by
  have cleared : KeepsRanges s s.clearWasDown := .of_queues rfl rfl id
  exact (cleared.trans (respond_keepsRanges _ _ _ _)).trans (clearLatches_keepsRanges _)

/-- R171: a cleared count is within its bound. -/
theorem clearCount_bounded {e : Engine} {port : Port} (h : e.bounded port) : e.clearCount.bounded port :=
  ⟨h.left, Nat.zero_le Config.errorCountMax⟩

theorem clearErrors_bounded {e : Engine} {port : Port} (h : e.bounded port) : e.clearErrors.bounded port :=
  ⟨h.left, Nat.zero_le Config.errorCountMax⟩

theorem readLinkErrors_keepsRanges (s : State) (r : PendingRequest) : KeepsRanges s (s.readLinkErrors r) := by
  have cleared : s.queuesHeld → s.clearLinkErrors.queuesHeld := fun ⟨fleet, grid, meter, queues⟩ =>
    ⟨clearErrors_bounded fleet, clearCount_bounded grid, clearErrors_bounded meter, queues⟩
  exact (respond_keepsRanges _ r _ _).after (.of_queues rfl rfl cleared)

/-- R191: a record out of its ranges is refused. -/
theorem setParameters_keepsRanges (s : State) (r : PendingRequest) : KeepsRanges s (s.setParameters r) := by
  unfold State.setParameters
  split
  · exact respond_keepsRanges s _ _ _
  · next allowed =>
    refine (applyParams_keepsRanges s ?_).trans (respond_keepsRanges _ _ _ _)
    unfold State.paramsRefusal at allowed
    split at allowed
    · cases allowed
    · next inRange => simpa using inRange

/-- R192: the waiting requests are dropped. -/
theorem emptyQueue_keepsRanges (s : State) :
    KeepsRanges s (s.setManagement { s.management with queue := [] }) :=
  .of_queues rfl rfl fun ⟨fleet, grid, meter, _, posted⟩ =>
    ⟨fleet, grid, meter, Nat.zero_le Config.requestQueueSize, posted⟩

theorem restartRequest_keepsRanges (s : State) (r : PendingRequest) : KeepsRanges s (s.restartRequest r) :=
  ((respond_keepsRanges s r none _).trans (emptyQueue_keepsRanges _)).trans (warmRestart_keepsRanges _)

/-! ### Every command -/

theorem execFrameReceived_keepsRanges {s t : State} {port : Port} {o : Octets}
    (h : execFrameReceived port o s = .next t) : KeepsRanges s t := by
  unfold execFrameReceived at h
  split at h
  · exact .of_next h (reportClass_keepsRanges s _ _ _)
  · exact .of_next h ((setEngine_keepsRanges s port fun held => take_bounded held _).trans (validFrame_keepsRanges _ port))

theorem execSiteReport_keepsRanges {s t : State} (h : execSiteReport s = .next t) : KeepsRanges s t := by
  have dropped := dropHead_keepsRanges s .fleet
  unfold execSiteReport at h
  split at h
  · exact .of_next h (.refl s)
  · split at h
    · exact .of_next h (dropped.trans (reportClass_keepsRanges _ _ _ _))
    · exact .of_next h (dropped.trans (handleReport_keepsRanges _ _))

theorem execClockMark_keepsRanges {s t : State} (h : execClockMark s = .next t) : KeepsRanges s t := by
  have dropped := dropHead_keepsRanges s .grid
  unfold execClockMark at h
  split at h
  · exact .of_next h (.refl s)
  · dsimp only at h
    split at h
    · exact .of_next h (dropped.trans (reportClass_keepsRanges _ _ _ _))
    · exact .of_next h (dropped.trans (takeMark_keepsRanges _ _))

theorem execOfferResult_keepsRanges {s t : State} (h : execOfferResult s = .next t) : KeepsRanges s t := by
  have dropped := dropHead_keepsRanges s .grid
  unfold execOfferResult at h
  split at h
  · exact .of_next h (.refl s)
  · dsimp only at h
    split at h
    · exact .of_next h (dropped.trans (reportClass_keepsRanges _ _ _ _))
    · split at h
      · exact .of_next h (dropped.trans (reportClass_keepsRanges _ _ _ _))
      · exact .of_next h (dropped.trans (takeResult_keepsRanges _ _ _ _ _))

theorem execActivationOrder_keepsRanges {s t : State} (h : execActivationOrder s = .next t) : KeepsRanges s t := by
  have dropped := dropHead_keepsRanges s .grid
  unfold execActivationOrder at h
  split at h
  · exact .of_next h (.refl s)
  · dsimp only at h
    split at h
    · exact .of_next h (dropped.trans (reportClass_keepsRanges _ _ _ _))
    · exact .of_next h (dropped.trans (takeOrder_keepsRanges _ _ _ _ _))

theorem execActivationEnd_keepsRanges {s t : State} (h : execActivationEnd s = .next t) : KeepsRanges s t := by
  have dropped := dropHead_keepsRanges s .grid
  unfold execActivationEnd at h
  split at h
  · exact .of_next h (.refl s)
  · dsimp only at h
    split at h
    · exact .of_next h (dropped.trans (reportClass_keepsRanges _ _ _ _))
    · exact .of_next h (dropped.trans (takeEnd_keepsRanges _ _ _))

theorem execFreqSample_keepsRanges {s t : State} (h : execFreqSample s = .next t) : KeepsRanges s t := by
  have dropped := dropHead_keepsRanges s .meter
  unfold execFreqSample at h
  split at h
  · exact .of_next h (.refl s)
  · dsimp only at h
    split at h
    · exact .of_next h (dropped.trans (reportClass_keepsRanges _ _ _ _))
    · split at h
      · exact .of_next h (dropped.trans (recordsHandedOn_keepsRanges _ _ _ _))
      · exact .of_next h (dropped.trans (.of_eq rfl rfl rfl rfl))

/-- R182, R183: a request joins the queue only while there is room. -/
theorem execRequestEnqueue_keepsRanges {s t : State} (h : execRequestEnqueue s = .next t) : KeepsRanges s t := by
  have dropped := dropHead_keepsRanges s .grid
  unfold execRequestEnqueue at h
  split at h
  · exact .of_next h (.refl s)
  · dsimp only at h
    split at h
    · next room =>
      refine .of_next h (dropped.trans (.of_queues rfl rfl ?_))
      rintro ⟨fleet, grid, meter, -, notices⟩
      exact ⟨fleet, grid, meter, by simpa [State.setManagement] using room, notices⟩
    · exact .of_next h (dropped.trans (reportClass_keepsRanges _ _ _ _))

theorem execRequestOutOfFormat_keepsRanges {s t : State} (h : execRequestOutOfFormat s = .next t) :
    KeepsRanges s t := by
  have answered (r : PendingRequest) : KeepsRanges s (s.takeRequest.outOfFormat r) :=
    (takeRequest_keepsRanges s).trans (outOfFormat_keepsRanges _ r)
  refine .of_next h ?_
  split
  · exact .refl s
  · split
    · exact answered _
    · exact (answered _).unless

theorem execWriteRecords_keepsRanges {s t : State} {take : Option Nat} (h : execWriteRecords take s = .next t) :
    KeepsRanges s t := by
  refine .of_next h ?_
  split
  · exact resumeWrite_keepsRanges s _ _
  · split
    · exact .refl s
    · split
      · exact (takeRequest_keepsRanges s).trans (judgedWrite_keepsRanges _ _ _ _ _)
      · exact (takeRequest_keepsRanges s).trans (outOfFormat_keepsRanges _ _)

theorem execWriteContinue_keepsRanges {s t : State} {take : Option Nat} (h : execWriteContinue take s = .next t) :
    KeepsRanges s t := by
  refine .of_next h ?_
  split
  · exact resumeWrite_keepsRanges s _ _
  · split
    · exact .refl s
    · exact (takeRequest_keepsRanges s).trans (judgedWrite_keepsRanges _ _ _ _ _)

theorem execReadRecords_keepsRanges {s t : State} {take : Option Nat} (h : execReadRecords take s = .next t) :
    KeepsRanges s t := by
  refine .of_next h ?_
  split
  · exact resumeRead_keepsRanges s _ _
  · exact request_keepsRanges (fun _ _ => judgedRead_keepsRanges _ _ _ _) s _ _

theorem execReadContinue_keepsRanges {s t : State} {take : Option Nat} (h : execReadContinue take s = .next t) :
    KeepsRanges s t := by
  refine .of_next h ?_
  split
  · exact resumeRead_keepsRanges s _ _
  · exact request_keepsRanges (fun _ _ => judgedRead_keepsRanges _ _ _ _) s _ _

/-- Every command keeps the ranges, the codes and the bounds. -/
theorem exec_keepsRanges {i : Instr} {s t : State} (h : exec i s = .next t) : KeepsRanges s t := by
  cases i with
  | coldReset =>
    obtain ⟨-, params, banks, codes, queues, -⟩ := resetMeetsTheInvariants
    exact .of_next h ⟨fun _ => params, fun _ => banks, fun _ => codes, fun _ => queues⟩
  | signalLoss port =>
    refine .of_next h ?_
    have lost : KeepsRanges s (s.setEngine port { s.engine port with signal := false }) :=
      setEngine_kept_keepsRanges s port _ rfl rfl
    split
    · exact lost.trans (goDown_keepsRanges _ port .signalLoss)
    · exact lost
  | signalPresence port => exact .of_next h (setEngine_kept_keepsRanges s port _ rfl rfl)
  | frameReceived port octets => exact execFrameReceived_keepsRanges h
  | linkTimeout port => exact .of_next h (goDown_keepsRanges s port .timeout).when
  | siteReport => exact execSiteReport_keepsRanges h
  | siteAgeing slot =>
    refine .of_next h ?_
    split
    · exact .refl s
    · split
      · exact .refl s
      · exact (signalExclusion_keepsRanges _ slot _).after (.of_eq rfl rfl rfl rfl)
  | suspectExpiry slot =>
    refine .of_next h ?_
    split
    · exact .refl s
    · exact KeepsRanges.when (.of_eq rfl rfl rfl rfl)
  | clockMark => exact execClockMark_keepsRanges h
  | holdEnd =>
    refine .of_next h ?_
    split
    · exact runAt_keepsRanges s _
    all_goals exact .refl s
  | windowBoundary window => exact .of_next h (deliver_keepsRanges s (.boundary window)).when
  | gateClosure product window => exact .of_next h (deliver_keepsRanges s (.gate product window)).when
  | effectiveTimeArrival product time => exact .of_next h (deliver_keepsRanges s (.arrival product time)).when
  | offerResult => exact execOfferResult_keepsRanges h
  | activationOrder => exact execActivationOrder_keepsRanges h
  | activationEnd => exact execActivationEnd_keepsRanges h
  | freqSample => exact execFreqSample_keepsRanges h
  | sampleTimeout => exact .of_next h (recordsHandedOn_keepsRanges s s _ .sampleTimeout).when
  | sampleLoss => exact .of_next h (recordsHandedOn_keepsRanges s s _ .sampleLoss).when
  | censusIntervalExpiry => exact .of_next h (censusTimerExpires_keepsRanges s).when
  | censusSlotRead =>
    refine .of_next h ?_
    split
    · exact .refl s
    · exact KeepsRanges.when (.of_eq rfl rfl rfl rfl)
  | censusPublish =>
    refine .of_next h ?_
    split
    · exact .refl s
    · exact (publish_keepsRanges s _).unless
  | allocationPassEnd =>
    change execAllocationPassEnd s = _ at h
    unfold execAllocationPassEnd at h
    split at h
    · exact .of_next h (.refl s)
    · exact .of_next h (endPass_keepsRanges s _)
  | releaseBegin => exact .of_next h (beginRelease_keepsRanges s).when
  | fleetTransmitDone =>
    refine .of_next h ?_
    split
    · exact .refl s
    · exact (emptyTransmitter_keepsRanges s .fleet).trans (feedFleet_keepsRanges _)
  | confirmationTimeout slot =>
    refine .of_next h ?_
    split
    · exact takeReport_keepsRanges s slot
    · exact (confirmationTimeout_keepsRanges s slot _).when
  | performanceIntervalEnd => exact .of_next h (endInterval_keepsRanges s).when
  | heartbeat => exact .of_next h (evaluate_keepsRanges s true).when
  | gridTransmitDone =>
    refine .of_next h ?_
    split
    · exact .refl s
    · exact (emptyTransmitter_keepsRanges s .grid).trans (choose_keepsRanges _)
  | requestEnqueue => exact execRequestEnqueue_keepsRanges h
  | setWindow => exact .of_next h (request_keepsRanges setWindow_keepsRanges s _ _)
  | writeRecords take => exact execWriteRecords_keepsRanges h
  | writeContinue take => exact execWriteContinue_keepsRanges h
  | readRecords take => exact execReadRecords_keepsRanges h
  | readContinue take => exact execReadContinue_keepsRanges h
  | setReturnLimit => exact .of_next h (request_keepsRanges setReturnLimit_keepsRanges s _ _)
  | barSite =>
    refine .of_next h (request_keepsRanges (siteRequest_keepsRanges fun s t slot x done => ?_) s _ _)
    cases done
    exact barSite_keepsRanges s slot x
  | clearSite =>
    exact .of_next h (request_keepsRanges (siteRequest_keepsRanges fun _ _ _ _ => clearSite_keepsRanges) s _ _)
  | removeSite =>
    exact .of_next h (request_keepsRanges (siteRequest_keepsRanges fun _ _ _ _ => removeSite_keepsRanges) s _ _)
  | writeProduct => exact .of_next h (request_keepsRanges writeProduct_keepsRanges s _ _)
  | stageProduct =>
    exact .of_next h (request_keepsRanges (productRequest_keepsRanges fun _ _ _ => stage_keepsRanges) s _ _)
  | cancelStage =>
    exact .of_next h (request_keepsRanges (productRequest_keepsRanges fun _ _ _ => cancelStage_keepsRanges) s _ _)
  | applyNow =>
    exact .of_next h (request_keepsRanges (productRequest_keepsRanges fun _ _ _ => applyNow_keepsRanges) s _ _)
  | createOffer => exact .of_next h (request_keepsRanges createOffer_keepsRanges s _ _)
  | updateOffer => exact .of_next h (request_keepsRanges updateOffer_keepsRanges s _ _)
  | submitOffer => exact .of_next h (request_keepsRanges submitOffer_keepsRanges s _ _)
  | withdrawOffer => exact .of_next h (request_keepsRanges withdrawRequest_keepsRanges s _ _)
  | retireOffers => exact .of_next h (request_keepsRanges retireOffers_keepsRanges s _ _)
  | readOfferReserved => exact .of_next h (request_keepsRanges readReserved_keepsRanges s _ _)
  | updateOfferConditional => exact .of_next h (request_keepsRanges updateConditional_keepsRanges s _ _)
  | requestCensus => exact .of_next h (request_keepsRanges requestCensus_keepsRanges s _ _)
  | readStatus => exact .of_next h (request_keepsRanges readStatus_keepsRanges s _ _)
  | readLinkErrors => exact .of_next h (request_keepsRanges readLinkErrors_keepsRanges s _ _)
  | setParameters => exact .of_next h (request_keepsRanges setParameters_keepsRanges s _ _)
  | restart => exact .of_next h (request_keepsRanges restartRequest_keepsRanges s _ _)
  | requestOutOfFormat => exact execRequestOutOfFormat_keepsRanges h

theorem step_keepsRanges {s t : State} (h : step s = .next t) : KeepsRanges s t := by
  unfold step at h
  split at h
  · refine .of_next h ?_
    unfold State.idle
    split
    · exact tick_keepsRanges s
    · exact .of_eq rfl rfl rfl rfl
  · next c rest _ => exact (exec_keepsRanges h).after (.of_eq rfl rfl rfl rfl)

/-- Settles O57: each step, the idle one and each of the commands, keeps each of the four by itself. -/
theorem rangesCodesAndQueuesStayHeld : Obligations.RangesCodesAndQueuesStayHeld := by
  unfold Obligations.RangesCodesAndQueuesStayHeld
  intro s t h
  have kept := step_keepsRanges h
  exact ⟨kept.params, kept.banks, kept.codes, kept.queues⟩

end Sys2Proof.Machine

namespace Sys2Proof.Machine

/-! ## Gate closures and gate marks (R48, R95) -/

/-- What a relation of egress says does not rest on the Time Base. -/
theorem EgressOnly.withTime {s t : State} (h : EgressOnly s t) (f : TimeBase → TimeBase) :
    EgressOnly { s with time := f s.time } { t with time := f t.time } :=
  { h with time := congrArg f h.time }

theorem lapseOffer_egress (s : State) (o : Offer) : EgressOnly s (s.lapseOffer o) :=
  ((mapOffer_egress s o.id (fun x => { x with state := .lapsed }) fun _ => rfl).trans
    (clearReservation_egress _ _)).trans (removeOfferEntry_egress _ _)

theorem lapseGate_egress (s : State) (p : Product) (w : Nat) : EgressOnly s (s.lapseGate p w) := by
  have lapsed : EgressOnly s ((s.lapsing p w).foldl State.lapseOffer s) := .foldl _ lapseOffer_egress _ s
  unfold State.lapseGate
  exact lapsed.trans (.foldl _ (fun t o => post_egress t _) _ _)

/-- R48: product `p`'s gate mark set to `w`. -/
def State.markGate (s : State) (p : Product) (w : Nat) : State :=
  { s with time := { s.time with gateMarks := s.time.gateMarks.set p (some w) } }

theorem closeGate_eq (s : State) (p : Product) (w : Nat) : s.closeGate p w = (s.markGate p w).lapseGate p w := rfl

/-- R48, R95: beside the gate marks a closure changes only what placing and posting change, and offers' states. -/
def GatesOnly (s t : State) : Prop := EgressOnly s { t with time := { t.time with gateMarks := s.time.gateMarks } }

theorem GatesOnly.refl (s : State) : GatesOnly s s := EgressOnly.refl s

theorem GatesOnly.trans {s t u : State} (h : GatesOnly s t) (k : GatesOnly t u) : GatesOnly s u :=
  EgressOnly.trans h (EgressOnly.withTime k fun x => { x with gateMarks := s.time.gateMarks })

theorem GatesOnly.timeBase {s t : State} (h : GatesOnly s t) :
    { t.time with gateMarks := s.time.gateMarks } = s.time := EgressOnly.time h

theorem GatesOnly.clock {s t : State} (h : GatesOnly s t) : t.time.clock = s.time.clock :=
  (congrArg TimeBase.clock h.timeBase :)

theorem GatesOnly.effective {s t : State} (h : GatesOnly s t) : t.time.effective = s.time.effective :=
  (congrArg TimeBase.effective h.timeBase :)

theorem GatesOnly.boundaryMark {s t : State} (h : GatesOnly s t) : t.time.boundaryMark = s.time.boundaryMark :=
  (congrArg TimeBase.boundaryMark h.timeBase :)

theorem closeGate_gatesOnly (s : State) (p : Product) (w : Nat) : GatesOnly s (s.closeGate p w) :=
  (lapseGate_egress (s.markGate p w) p w).withTime fun x => { x with gateMarks := s.time.gateMarks }

@[simp] theorem closeGate_time (s : State) (p : Product) (w : Nat) :
    (s.closeGate p w).time = { s.time with gateMarks := s.time.gateMarks.set p (some w) } :=
  (lapseGate_egress (s.markGate p w) p w).time

theorem closeGates_gatesOnly (s : State) (p : Product) (g n : Nat) : GatesOnly s (s.closeGates p g n) := by
  induction n generalizing s g with
  | zero => exact .refl s
  | succ n ih => exact (closeGate_gatesOnly s p _).trans (ih _ _)

/-- R48: the closures up to a mark leave that mark. -/
theorem closeGates_mark (s : State) (p : Product) (g n : Nat) (h : s.time.gateMarks.get p = some g) :
    (s.closeGates p g n).time.gateMarks.get p = some (g + n) := by
  induction n generalizing s g with
  | zero => exact h
  | succ n ih =>
    rw [State.closeGates, ih _ _ (by simp), Nat.add_assoc, Nat.add_comm 1]

theorem closeGates_mark_other (s : State) {p q : Product} (hq : q ≠ p) (g n : Nat) :
    (s.closeGates p g n).time.gateMarks.get q = s.time.gateMarks.get q := by
  induction n generalizing s g with
  | zero => rfl
  | succ n ih => simp [State.closeGates, ih, hq]

theorem adjustGate_gatesOnly (s : State) (p : Product) : GatesOnly s (s.adjustGate p) := by
  unfold State.adjustGate
  split
  · exact closeGates_gatesOnly s _ _ _
  · exact .refl s

/-- R48: a changed lead raises the gate mark to what it gives at the device time, never lowering it. -/
theorem adjustGate_mark {s : State} {p : Product} {d g : Nat} (hd : s.deviceTime = some d)
    (hg : s.time.gateMarks.get p = some g) :
    (s.adjustGate p).time.gateMarks.get p = some (max g (s.gateMarkAt p d)) := by
  unfold State.adjustGate
  rw [hd, hg]
  dsimp only
  rw [closeGates_mark s p _ _ hg]
  congr 1
  omega

theorem adjustGate_mark_other (s : State) {p q : Product} (hq : q ≠ p) :
    (s.adjustGate p).time.gateMarks.get q = s.time.gateMarks.get q := by
  unfold State.adjustGate
  split
  · exact closeGates_mark_other s hq _ _
  · rfl

/-! ## Bank switches (R48, R56, R120) -/

theorem resetForSwitch_activation (s : State) (p : Product) : (s.resetForSwitch p).activation =
    { s.activation with records := s.activation.records.set p ActRecord.reset } := by
  unfold State.resetForSwitch
  dsimp only
  rw [State.handOn_activation]
  cases (s.act p).currentId <;> cases (s.act p).order <;> simp only [State.ackFor_activation] <;> rfl

theorem resetForSwitch_time (s : State) (p : Product) : (s.resetForSwitch p).time =
    { s.time with effective := s.time.effective.set p none } := by
  unfold State.resetForSwitch
  dsimp only
  rw [State.handOn_time]
  cases (s.act p).currentId <;> cases (s.act p).order <;> simp only [State.ackFor_time] <;> rfl

theorem resetForSwitch_products (s : State) (p : Product) : (s.resetForSwitch p).products = s.products := by
  unfold State.resetForSwitch
  dsimp only
  rw [State.handOn_products]
  cases (s.act p).currentId <;> cases (s.act p).order <;> simp only [State.ackFor_products] <;> rfl

theorem resetForSwitch_census (s : State) (p : Product) : (s.resetForSwitch p).census = s.census := by
  unfold State.resetForSwitch
  dsimp only
  rw [State.handOn_census]
  cases (s.act p).currentId <;> cases (s.act p).order <;> simp only [State.ackFor_census] <;> rfl

/-- R48: the gate marks once product `p` has left bank `old`. -/
def State.leadAdjusted (s : State) (p : Product) (old : Bank) : State :=
  if (s.bank p).gateLead = old.gateLead then s else s.adjustGate p

/-- R120: a switch of `p` from bank `old` resets its record. -/
def State.switchResets (s : State) (p : Product) (old : Bank) : Bool :=
  decide ((s.bank p).mode ≠ old.mode) || (old.enabled && !(s.bank p).enabled)

theorem afterSwitch_eq (s : State) (p : Product) (old : Bank) : s.afterSwitch p old =
    if s.switchResets p old then (s.leadAdjusted p old).resetForSwitch p else s.leadAdjusted p old := rfl

theorem leadAdjusted_gatesOnly (s : State) (p : Product) (old : Bank) : GatesOnly s (s.leadAdjusted p old) := by
  unfold State.leadAdjusted
  split
  · exact .refl s
  · exact adjustGate_gatesOnly s p

theorem leadAdjusted_mark {s : State} {p : Product} {d g : Nat} (old : Bank) (hd : s.deviceTime = some d)
    (hg : s.time.gateMarks.get p = some g) : (s.leadAdjusted p old).time.gateMarks.get p =
      some (if (s.bank p).gateLead = old.gateLead then g else max g (s.gateMarkAt p d)) := by
  unfold State.leadAdjusted
  split
  · exact hg
  · exact adjustGate_mark hd hg

theorem leadAdjusted_mark_other (s : State) {p q : Product} (hq : q ≠ p) (old : Bank) :
    (s.leadAdjusted p old).time.gateMarks.get q = s.time.gateMarks.get q := by
  unfold State.leadAdjusted
  split
  · rfl
  · exact adjustGate_mark_other s hq

theorem afterSwitch_products (s : State) (p : Product) (old : Bank) : (s.afterSwitch p old).products = s.products := by
  rw [afterSwitch_eq]
  split
  · exact (resetForSwitch_products _ p).trans (leadAdjusted_gatesOnly s p old).products
  · exact (leadAdjusted_gatesOnly s p old).products

theorem afterSwitch_census (s : State) (p : Product) (old : Bank) : (s.afterSwitch p old).census = s.census := by
  rw [afterSwitch_eq]
  split
  · exact (resetForSwitch_census _ p).trans (leadAdjusted_gatesOnly s p old).census
  · exact (leadAdjusted_gatesOnly s p old).census

theorem afterSwitch_gateMarks (s : State) (p : Product) (old : Bank) :
    (s.afterSwitch p old).time.gateMarks = (s.leadAdjusted p old).time.gateMarks := by
  rw [afterSwitch_eq]
  split
  · rw [resetForSwitch_time]
  · rfl

theorem afterSwitch_activation (s : State) (p : Product) (old : Bank) : (s.afterSwitch p old).activation =
    if s.switchResets p old then { s.activation with records := s.activation.records.set p ActRecord.reset }
    else s.activation := by
  rw [afterSwitch_eq]
  split
  · rw [resetForSwitch_activation, (leadAdjusted_gatesOnly s p old).activation]
  · exact (leadAdjusted_gatesOnly s p old).activation

theorem afterSwitch_effective (s : State) (p : Product) (old : Bank) : (s.afterSwitch p old).time.effective =
    if s.switchResets p old then s.time.effective.set p none else s.time.effective := by
  have kept : (s.leadAdjusted p old).time.effective = s.time.effective :=
    (leadAdjusted_gatesOnly s p old).effective
  rw [afterSwitch_eq]
  split
  · rw [resetForSwitch_time, kept]
  · exact kept

end Sys2Proof.Machine

namespace Sys2Proof.Machine

/-! ### The census request of a switch (R62, R64) -/

theorem requestFull_idle {s : State} (h : s.census.run = none) : s.requestFull.1 = s.startRun .full := by
  simp [State.requestFull, h]

theorem requestFull_running {s : State} (h : s.census.run.isSome = true) :
    s.requestFull.1 = { s with census := { s.census with fullPending := true, selectPending := none } } := by
  simp [State.requestFull, h]

/-- R62: the banks-switched flag set. -/
def State.switchNoted (s : State) : State := { s with census := { s.census with banksSwitched := true } }

theorem requestAfterSwitch_eq (s : State) : s.requestAfterSwitch = s.switchNoted.requestFull.1 := rfl

/-- R62, R66: a full run starts with the banks as the switch leaves them. -/
theorem requestAfterSwitch_idle {s : State} (h : s.census.run = none) : ∃ n, s.requestAfterSwitch.census.run = some n ∧
    n.kind = .full ∧ ∀ p, n.banks.get p = s.bank p := by
  rw [requestAfterSwitch_eq, requestFull_idle (s := s.switchNoted) h]
  exact ⟨_, rfl, rfl, fun p => PerProduct.get_ofFn _ p⟩

/-- R64: behind a run the request waits, and the flag of a switch is set. -/
theorem requestAfterSwitch_running {s : State} (h : s.census.run.isSome = true) : s.requestAfterSwitch =
    { s with census := { s.census with banksSwitched := true, fullPending := true, selectPending := none } } := by
  rw [requestAfterSwitch_eq, requestFull_running (s := s.switchNoted) h]
  rfl

/-- R62: the request changes the census alone. -/
theorem requestAfterSwitch_census (s : State) :
    s.requestAfterSwitch = { s with census := s.requestAfterSwitch.census } := by
  cases h : s.census.run with
  | none => 
    rw [requestAfterSwitch_eq, requestFull_idle (s := s.switchNoted) h]
    rfl
  | some x => rw [requestAfterSwitch_running (by rw [h]; rfl)]

/-! ## The bars (R53) -/

theorem Table.mem_of_find {α : Type} {t : Table α} {k : Nat} {a : α} (h : Table.find t k = some a) : (k, a) ∈ t := by
  induction t with
  | nil => cases h
  | cons e rest ih =>
    obtain ⟨j, b⟩ := e
    simp only [Table.find] at h
    split at h
    · next same =>
      cases h
      simp [same]
    · split at h
      · cases h
      · exact .tail _ (ih h)

/-- R97: a commitment stands in the table. -/
theorem commitment_listed {s : State} {p : Product} {w : Nat} (h : 0 < s.commitment p w) :
    ∃ q, (w, q) ∈ s.book.commitments.get p := by
  unfold State.commitment at h
  split at h
  · cases h
  · split at h
    · unfold Table.readOr at h
      cases found : Table.find (s.book.commitments.get p) w with
      | none => simp [found] at h
      | some q => exact ⟨q, Table.mem_of_find found⟩
    · cases h

theorem switchChangesPromise_iff (old new : Bank) : switchChangesPromise old new = true ↔
    (old.enabled = true ∧ new.enabled = false) ∨ new.direction ≠ old.direction ∨ new.mode ≠ old.mode := by
  simp [switchChangesPromise, or_assoc]

theorem inFlight_iff (o : Offer) :
    o.inFlight = true ↔ o.state = .queued ∨ o.state = .submitted ∨ o.state = .withdrawing := by
  simp [Offer.inFlight, or_assoc]

/-- R53: a switch that breaks a promise is barred while any commitment or offer in flight stands. -/
theorem barredByCommitment_iff (s : State) (p : Product) : s.barredByCommitment p 0 0 = true ↔
    (((s.bank p).enabled = true ∧ (s.products.get p).pendingBank.enabled = false) ∨
      (s.products.get p).pendingBank.direction ≠ (s.bank p).direction ∨
      (s.products.get p).pendingBank.mode ≠ (s.bank p).mode) ∧
    ((∃ w, 0 < s.commitment p w) ∨ ∃ o ∈ s.book.offers, o.product = p ∧
      (o.state = .queued ∨ o.state = .submitted ∨ o.state = .withdrawing)) := by
  have committed : ((s.book.commitments.get p).any fun e => decide (0 ≤ e.1) && decide (0 < s.commitment p e.1)) = true ↔
      ∃ w, 0 < s.commitment p w := by
    simp only [List.any_eq_true, Bool.and_eq_true, decide_eq_true_eq, Nat.zero_le, true_and]
    constructor
    · rintro ⟨e, -, held⟩
      exact ⟨e.1, held⟩
    · rintro ⟨w, held⟩
      obtain ⟨q, listed⟩ := commitment_listed held
      exact ⟨_, listed, held⟩
  unfold State.barredByCommitment
  rw [Bool.and_eq_true, Bool.or_eq_true, committed, switchChangesPromise_iff]
  simp only [List.any_eq_true, Bool.and_eq_true, decide_eq_true_eq, Nat.zero_le, and_true, inFlight_iff, State.bank]

/-! ## Requests about one product (R51, R54, R55, R57) -/

theorem productOf_val (p : Product) : productOf p.val = some p := by
  simp [productOf]

theorem productOf_above {n : Nat} (h : 7 < n) : productOf n = none := by
  simp [productOf]
  omega

theorem productRequest_unlisted {s : State} {r : PendingRequest} (act : State → Product → Except Reason State)
    (h : 7 < fieldAt r.payload 1 1) : s.productRequest act r = s.respond r (some .badField) [] := by
  rw [State.productRequest, productOf_above h]
  rfl

theorem productRequest_named {s : State} {r : PendingRequest} {p : Product} (act : State → Product → Except Reason State)
    (h : p.val = fieldAt r.payload 1 1) : s.productRequest act r = s.answer r (act s p) := by
  rw [State.productRequest, ← h, productOf_val]

theorem writeProduct_unlisted {s : State} {r : PendingRequest} (h : 7 < fieldAt r.payload 1 1) :
    s.writeProduct r = s.respond r (some .badField) [] := by
  rw [State.writeProduct, productOf_above h]

/-- R51: a record that gives no bank in range is refused. -/
theorem writeProduct_refused {s : State} {r : PendingRequest} {p : Product} (h : p.val = fieldAt r.payload 1 1)
    (bad : ∀ b, parseBank (slice r.payload 2 33) = some b → b.inRange = false) :
    s.writeProduct r = s.respond r (some .badField) [] := by
  rw [State.writeProduct, ← h, productOf_val]
  dsimp only
  unfold State.writeBank
  cases parsed : parseBank (slice r.payload 2 33) with
  | none => rfl
  | some b => simp [bad b parsed]

/-- R51: a bank in range becomes the pending one, and the mark is removed. -/
theorem writeProduct_taken {s : State} {r : PendingRequest} {p : Product} {b : Bank} (h : p.val = fieldAt r.payload 1 1)
    (parsed : parseBank (slice r.payload 2 33) = some b) (inRange : b.inRange = true) :
    s.writeProduct r = (s.writePending p b).respond r none (flagOctet (s.products.get p).staged) := by
  rw [State.writeProduct, ← h, productOf_val]
  dsimp only
  unfold State.writeBank
  simp [parsed, inRange]

/-- R57: the state APPLY_NOW leaves when nothing bars it. -/
def State.appliedNow (s : State) (p : Product) : State :=
  ((s.copyBank p).afterSwitch p (s.bank p)).requestAfterSwitch

section
variable (s : State) (p : Product)

theorem copyBank_bank : (s.copyBank p).bank p = (s.products.get p).pendingBank := by
  simp [State.copyBank, State.bank, State.setProduct]

theorem appliedNow_products : (s.appliedNow p).products = s.products.set p
    { active := (s.products.get p).pendingBank, pendingBank := (s.products.get p).pendingBank, staged := false } := by
  unfold State.appliedNow
  rw [requestAfterSwitch_census]
  exact afterSwitch_products _ p _

theorem appliedNow_time : (s.appliedNow p).time = ((s.copyBank p).afterSwitch p (s.bank p)).time := by
  unfold State.appliedNow
  rw [requestAfterSwitch_census]

theorem appliedNow_activation : (s.appliedNow p).activation = ((s.copyBank p).afterSwitch p (s.bank p)).activation := by
  unfold State.appliedNow
  rw [requestAfterSwitch_census]

theorem appliedNow_commitments : (s.appliedNow p).book.commitments = s.book.commitments := by
  unfold State.appliedNow
  rw [requestAfterSwitch_census]
  exact afterSwitch_commitments _ p _

theorem appliedNow_steady : Steady s (s.appliedNow p) :=
  ((copyBank_steady s p).trans (afterSwitch_steady _ _ _)).trans (requestAfterSwitch_steady _)

/-- R57, R120: a disabled product's record is reset exactly on a mode change. -/
theorem appliedNow_resets (disabled : (s.bank p).enabled = false) : (s.copyBank p).switchResets p (s.bank p) =
    decide ((s.products.get p).pendingBank.mode ≠ (s.bank p).mode) := by
  simp [State.switchResets, disabled, copyBank_bank]

theorem appliedNow_act_other {q : Product} (hq : q ≠ p) : (s.appliedNow p).act q = s.act q := by
  rw [State.act, appliedNow_activation, afterSwitch_activation]
  split
  · simp [hq, State.copyBank, State.setProduct, State.act]
  · rfl

theorem appliedNow_reset (disabled : (s.bank p).enabled = false)
    (mode : (s.products.get p).pendingBank.mode ≠ (s.bank p).mode) :
    (s.appliedNow p).act p = ActRecord.reset ∧ (s.appliedNow p).time.effective.get p = none := by
  rw [State.act, appliedNow_activation, appliedNow_time, afterSwitch_activation, afterSwitch_effective]
  simp [appliedNow_resets s p disabled, mode]

theorem appliedNow_keepsRecord (disabled : (s.bank p).enabled = false)
    (mode : (s.products.get p).pendingBank.mode = (s.bank p).mode) : (s.appliedNow p).act p = s.act p := by
  rw [State.act, appliedNow_activation, afterSwitch_activation]
  simp [appliedNow_resets s p disabled, mode]
  rfl

/-- R48: the gate mark under the new lead. -/
theorem appliedNow_mark {d g : Nat} (hd : s.deviceTime = some d) (hg : s.time.gateMarks.get p = some g) :
    (s.appliedNow p).time.gateMarks.get p = some
      (if (s.products.get p).pendingBank.gateLead = (s.bank p).gateLead then g
        else max g ((d + (s.products.get p).pendingBank.gateLead * 60000) / s.windowMs)) := by
  have device : (s.copyBank p).deviceTime = some d := hd
  have mark : (s.copyBank p).time.gateMarks.get p = some g := hg
  rw [appliedNow_time, afterSwitch_gateMarks, leadAdjusted_mark (s.bank p) device mark]
  simp only [State.gateMarkAt, Bank.leadMs, copyBank_bank]
  rfl

theorem appliedNow_run (h : s.census.run = none) : ∃ n, (s.appliedNow p).census.run = some n ∧ n.kind = .full ∧
    n.banks.get p = (s.products.get p).pendingBank := by
  have idle : ((s.copyBank p).afterSwitch p (s.bank p)).census.run = none := by
    rw [afterSwitch_census]
    exact h
  obtain ⟨n, started, full, banks⟩ := requestAfterSwitch_idle idle
  refine ⟨n, started, full, ?_⟩
  rw [banks p, State.bank, afterSwitch_products]
  exact copyBank_bank s p

theorem appliedNow_waits (h : s.census.run.isSome = true) : (s.appliedNow p).census.run = s.census.run ∧
    (s.appliedNow p).census.fullPending = true ∧ (s.appliedNow p).census.banksSwitched = true := by
  have kept : ((s.copyBank p).afterSwitch p (s.bank p)).census = s.census := afterSwitch_census _ p _
  unfold State.appliedNow
  rw [requestAfterSwitch_running (by rw [kept]; exact h), kept]
  exact ⟨rfl, rfl, rfl⟩

end
end Sys2Proof.Machine

namespace Sys2Proof.Machine

section
variable {s : State} {r : PendingRequest} {p : Product}

theorem execWriteProduct_run (next : s.nextOf 10 = some r) (length : r.payload.length = 35) :
    exec .writeProduct s = .next (s.takeRequest.writeProduct r) :=
  congrArg _ (request_run next length)

theorem execStageProduct_run (next : s.nextOf 11 = some r) (length : r.payload.length = 2) :
    exec .stageProduct s = .next (s.takeRequest.productRequest State.stage r) :=
  congrArg _ (request_run next length)

theorem execCancelStage_run (next : s.nextOf 12 = some r) (length : r.payload.length = 2) :
    exec .cancelStage s = .next (s.takeRequest.productRequest State.cancelStage r) :=
  congrArg _ (request_run next length)

theorem execApplyNow_run (next : s.nextOf 13 = some r) (length : r.payload.length = 2) :
    exec .applyNow s = .next (s.takeRequest.productRequest State.applyNow r) :=
  congrArg _ (request_run next length)

/-- R54: the bars of STAGE_PRODUCT in order. -/
theorem stage_eq (s : State) (p : Product) : s.stage p =
    if s.barredByCode p = true then .error .duplicateCode
    else if s.barredByCommitment p 0 0 = true then .error .committed
    else .ok (s.setProduct p { s.products.get p with staged := true }) := rfl

/-- R57: the conditions of APPLY_NOW in order. -/
theorem applyNow_eq (s : State) (p : Product) : s.applyNow p =
    if (s.bank p).enabled = true then .error .wrongState
    else if s.barredByCode p = true then .error .duplicateCode
    else if s.barredByCommitment p 0 0 = true then .error .committed
    else .ok (s.appliedNow p) := rfl

end

/-- Settles O52: each request is run on the state its taking leaves, judged by the bars in order. -/
theorem productRequestsAreJudgedInOrder : Obligations.ProductRequestsAreJudgedInOrder := by
  unfold Obligations.ProductRequestsAreJudgedInOrder
  intro s r u answered
  refine ⟨fun next length high => ?_, fun next length high => ?_, fun next length high => ?_,
    fun next length high => ?_, ?_⟩
  · exact (execWriteProduct_run next length).trans (congrArg _ (writeProduct_unlisted high))
  · exact (execStageProduct_run next length).trans (congrArg _ (productRequest_unlisted _ high))
  · exact (execCancelStage_run next length).trans (congrArg _ (productRequest_unlisted _ high))
  · exact (execApplyNow_run next length).trans (congrArg _ (productRequest_unlisted _ high))
  intro p named old new byCode byCommitment placed
  have code : u.barredByCode p = true ↔ byCode := barredByCode_iff u p
  have commitment : u.barredByCommitment p 0 0 = true ↔ byCommitment := barredByCommitment_iff u p
  refine ⟨fun next length => ?_, fun next length => ?_, fun next length => ?_, fun next length => ?_⟩
  · have run : exec .writeProduct s = .next (u.writeProduct r) := execWriteProduct_run next length
    refine ⟨fun b parsed inRange => ?_, fun parsed => ?_, fun b parsed outside => ?_⟩
    · exact run.trans (congrArg _ (writeProduct_taken named parsed inRange))
    · exact run.trans (congrArg _ (writeProduct_refused named fun b parsed' => by rw [parsed] at parsed'; cases parsed'))
    · exact run.trans (congrArg _ (writeProduct_refused named fun b' parsed' => by
        rw [parsed] at parsed'
        cases parsed'
        exact outside))
  · have run : exec .stageProduct s = .next (u.answer r (u.stage p)) :=
      (execStageProduct_run next length).trans (congrArg _ (productRequest_named _ named))
    rw [stage_eq] at run
    refine ⟨fun barred => ?_, fun free barred => ?_, fun free kept => ?_⟩
    · rwa [if_pos (code.2 barred)] at run
    · rwa [if_neg (mt code.1 free), if_pos (commitment.2 barred)] at run
    · rwa [if_neg (mt code.1 free), if_neg (mt commitment.1 kept)] at run
  · have run : exec .cancelStage s = .next (u.answer r (u.cancelStage p)) :=
      (execCancelStage_run next length).trans (congrArg _ (productRequest_named _ named))
    unfold State.cancelStage at run
    refine ⟨fun unstaged => ?_, fun staged => ?_⟩
    · have unstaged' : ¬ (u.products.get p).staged = true := by simp [u, unstaged]
      rwa [if_neg unstaged'] at run
    · have staged' : (u.products.get p).staged = true := staged
      rwa [if_pos staged'] at run
  · have run : exec .applyNow s = .next (u.answer r (u.applyNow p)) :=
      (execApplyNow_run next length).trans (congrArg _ (productRequest_named _ named))
    rw [applyNow_eq] at run
    refine ⟨fun enabled => ?_, fun disabled barred => ?_, fun disabled free barred => ?_, fun disabled free kept => ?_⟩
    · have enabled' : (u.bank p).enabled = true := enabled
      rwa [if_pos enabled'] at run
    all_goals
      have disabled' : ¬ (u.bank p).enabled = true := by
        have same : (u.bank p).enabled = false := disabled
        simp [same]
      rw [if_neg disabled'] at run
    · rwa [if_pos (code.2 barred)] at run
    · rwa [if_neg (mt code.1 free), if_pos (commitment.2 barred)] at run
    · rw [if_neg (mt code.1 free), if_neg (mt commitment.1 kept)] at run
      have steady := appliedNow_steady u p
      exact ⟨u.appliedNow p, run, appliedNow_products u p, appliedNow_reset u p disabled,
        appliedNow_keepsRecord u p disabled, fun q hq => appliedNow_act_other u p hq,
        fun d g => appliedNow_mark u p, appliedNow_run u p, appliedNow_waits u p,
        steady.clock, steady.fleet, steady.params, appliedNow_commitments u p⟩

end Sys2Proof.Machine

namespace Sys2Proof.Machine

/-! ## Offers handed over (R88, R178) -/

/-- R81, R88: the ids of the book are unique, and the OFFER entries of the source queue name QUEUED records, each once. -/
structure State.EntriesHeld (s : State) : Prop where
  ids : (s.book.offers.map (fun o => o.id)).Nodup
  entries : (s.arbiter.offers.filter OfferEntry.isOffer).Nodup
  named : ∀ id : Nat, OfferEntry.offer id ∈ s.arbiter.offers → ∃ o ∈ s.book.offers, o.id = id ∧ o.state = .queued

theorem entriesHeld_of_bookHeld {s : State} (h : s.bookHeld) : s.EntriesHeld := by
  obtain ⟨-, ids, -, entries, named⟩ := h
  exact ⟨ids, entries, named⟩

theorem State.EntriesHeld.eq_of_id {s : State} (h : s.EntriesHeld) {a b : Offer} (ha : a ∈ s.book.offers)
    (hb : b ∈ s.book.offers) (same : a.id = b.id) : a = b :=
  List.inj_on_of_nodup_map h.ids ha hb same

/-- An offer once its OFFER frame is handed over. -/
def Offer.handedOver (o : Offer) : Offer := { o with state := .submitted }

/-- R88: from `s` to `t` offers are handed over at most, in a held book only QUEUED ones. -/
structure HandsOver (s t : State) : Prop where
  origin : ∀ b ∈ t.book.offers, ∃ a ∈ s.book.offers, b = a ∨ b = a.handedOver
  held : s.EntriesHeld → t.EntriesHeld ∧
    ∀ a ∈ s.book.offers, a ∈ t.book.offers ∨ (a.state = .queued ∧ a.handedOver ∈ t.book.offers)

/-- A change outside the book and the OFFER source, or one that takes entries from the source. -/
theorem HandsOver.of_sublist {s t : State} (book : t.book.offers = s.book.offers)
    (entries : t.arbiter.offers.Sublist s.arbiter.offers) : HandsOver s t := by
  constructor
  · rw [book]
    exact fun b hb => ⟨b, hb, .inl rfl⟩
  · rintro ⟨ids, unique, named⟩
    rw [book]
    exact ⟨⟨by rwa [book], unique.sublist (entries.filter _), fun id hid => by
      rw [book]
      exact named id (entries.subset hid)⟩, fun a ha => .inl ha⟩

theorem HandsOver.of_eq {s t : State} (book : t.book.offers = s.book.offers)
    (entries : t.arbiter.offers = s.arbiter.offers) : HandsOver s t :=
  .of_sublist book (by rw [entries])

theorem HandsOver.refl (s : State) : HandsOver s s := .of_eq rfl rfl

theorem HandsOver.trans {s t u : State} (h : HandsOver s t) (k : HandsOver t u) : HandsOver s u where
  origin c hc := by
    obtain ⟨b, hb, hcb⟩ := k.origin c hc
    obtain ⟨a, ha, rfl | rfl⟩ := h.origin b hb
    · exact ⟨b, ha, hcb⟩
    · exact ⟨a, ha, .inr (hcb.elim id id)⟩
  held hs := by
    obtain ⟨ht, moved⟩ := h.held hs
    obtain ⟨hu, moved'⟩ := k.held ht
    refine ⟨hu, fun a ha => ?_⟩
    rcases moved a ha with stays | ⟨queued, handed⟩
    · exact moved' a stays
    · rcases moved' _ handed with stays | ⟨again, -⟩
      · exact .inr ⟨queued, stays⟩
      · cases again

theorem HandsOver.foldl {α : Type} (f : State → α → State) (h : ∀ s a, HandsOver s (f s a)) (l : List α) (s : State) :
    HandsOver s (l.foldl f s) := by
  induction l generalizing s with
  | nil => exact .refl s
  | cons a l ih => exact (h s a).trans (ih _)

/-- R88: the OFFER entry at the head leaves, and its record becomes SUBMITTED. -/
theorem handOverOffer_handsOver {s : State} {id : Nat} {rest : List OfferEntry}
    (head : s.arbiter.offers = .offer id :: rest) :
    HandsOver s ({ s with arbiter := { s.arbiter with offers := rest } }.handOverOffer id) := by
  unfold State.handOverOffer
  split
  · exact .of_sublist rfl (by rw [head]; exact List.sublist_cons_self _ _)
  constructor
  · intro b hb
    obtain ⟨a, ha, rfl⟩ := List.mem_map.1 hb
    refine ⟨a, ha, ?_⟩
    split
    · exact .inr rfl
    · exact .inl rfl
  · intro held
    obtain ⟨o, ho, named, queued⟩ := held.named id (by rw [head]; exact .head _)
    have unique := held.entries
    rw [head, List.filter_cons_of_pos rfl, List.nodup_cons] at unique
    refine ⟨⟨?_, unique.2, fun k hk => ?_⟩, fun a ha => ?_⟩
    · have same : (fun x : Offer => x.id) ∘ (fun x : Offer => if x.id = id then x.handedOver else x) = fun x => x.id := by
        funext x
        simp only [Function.comp]
        split <;> rfl
      change ((s.book.offers.map fun x : Offer => if x.id = id then x.handedOver else x).map fun x => x.id).Nodup
      rw [List.map_map, same]
      exact held.ids
    · have other : k ≠ id := by
        rintro rfl
        exact unique.1 (List.mem_filter.2 ⟨hk, rfl⟩)
      obtain ⟨x, hx, hid, hq⟩ := held.named k (by rw [head]; exact .tail _ hk)
      exact ⟨x, List.mem_map.2 ⟨x, hx, if_neg (by rw [hid]; exact other)⟩, hid, hq⟩
    · by_cases same : a.id = id
      · have isNamed : a = o := held.eq_of_id ha ho (same.trans named.symm)
        exact .inr ⟨isNamed ▸ queued, List.mem_map.2 ⟨a, ha, if_pos same⟩⟩
      · exact .inl (List.mem_map.2 ⟨a, ha, if_neg same⟩)

theorem handOver_handsOver (s : State) (x : Source) : HandsOver s (s.handOver x) := by
  cases x with
  | offer =>
    unfold State.handOver
    dsimp only
    split
    · exact .refl s
    · next id rest head => exact handOverOffer_handsOver head
    · next id rest head =>
      unfold State.handOverWithdraw
      split <;> exact .of_sublist rfl (by rw [head]; exact List.sublist_cons_self _ _)
  | ack | availability | report | response | notice =>
    unfold State.handOver
    dsimp only
    split <;> exact .of_eq rfl rfl

theorem choose_handsOver (s : State) : HandsOver s s.choose := by
  unfold State.choose
  split
  · split
    · exact .refl s
    · exact handOver_handsOver s _
  · exact .refl s

theorem afterPlacing_handsOver (s : State) (b : Bool) : HandsOver s (s.afterPlacing b) := by
  unfold State.afterPlacing
  split
  · exact choose_handsOver s
  · exact .refl s

theorem post_handsOver (s : State) (n : Notice) : HandsOver s (s.post n) := by
  have queued : HandsOver s { s with management := { s.management with notices := s.management.notices ++ [n] } } :=
    .of_eq rfl rfl
  unfold State.post
  split
  · split
    · exact queued.trans (afterPlacing_handsOver _ _)
    · exact .of_eq rfl rfl
  · exact .refl s

/-! ## Notices while the arbiter makes no choice (R178, R193) -/

/-- R193: a notice posted is queued while there is room; nothing leaves a source. -/
theorem post_of_gridHolds {s : State} (h : s.gridHolds = true) (n : Notice) : ∃ m, s.post n = { s with management := m } ∧
    (maskHolds s.params.noticeMask n = true → s.management.notices.length < Config.noticeQueueSize →
      m = { s.management with notices := s.management.notices ++ [n] }) := by
  have placed : ({ s with management := { s.management with
      notices := s.management.notices ++ [n] } } : State).gridHolds = true := h
  unfold State.post
  split
  · split
    · exact ⟨_, afterPlacing_of_gridHolds placed _, fun _ _ => rfl⟩
    · next full => exact ⟨_, rfl, fun _ room => absurd room full⟩
  · next unheld => exact ⟨s.management, rfl, fun held => absurd held unheld⟩

/-- R193: notices posted one after another, in their order. -/
theorem posts_of_gridHolds {α : Type} (n : α → Notice) (l : List α) {s : State} (h : s.gridHolds = true) :
    ∃ m, l.foldl (fun t a => t.post (n a)) s = { s with management := m } ∧
      ((∀ a ∈ l, maskHolds s.params.noticeMask (n a) = true) →
        s.management.notices.length + l.length ≤ Config.noticeQueueSize →
        m = { s.management with notices := s.management.notices ++ l.map n }) := by
  induction l generalizing s with
  | nil => exact ⟨s.management, rfl, fun _ _ => by simp⟩
  | cons a l ih =>
    obtain ⟨m, posted, queued⟩ := post_of_gridHolds h (n a)
    obtain ⟨m', rest, queued'⟩ := ih (s := { s with management := m }) h
    refine ⟨m', by rw [List.foldl_cons, posted, rest], fun masked room => ?_⟩
    rw [List.length_cons] at room
    have first := queued (masked a (.head _)) (by omega)
    subst first
    rw [queued' (fun b hb => masked b (.tail _ hb)) (by simp; omega)]
    simp

/-! ## Offers that lapse (R95) -/

/-- R95: the offers named by `l` LAPSED, their OFFER entries gone and a reservation of one lost. -/
def State.lapseAll (s : State) (l : List Offer) : State :=
  { s with
    book := { s.book with
      offers := s.book.offers.map (fun x => if ∃ o ∈ l, o.id = x.id then { x with state := .lapsed } else x)
      reservation := if ∃ o ∈ l, s.book.reservation = some o.id then none else s.book.reservation }
    arbiter := { s.arbiter with offers := s.arbiter.offers.filter (fun e => decide (∀ o ∈ l, e ≠ .offer o.id)) } }

theorem lapseAll_nil (s : State) : s.lapseAll [] = s := by
  simp [State.lapseAll]

theorem lapseAll_cons (s : State) (o : Offer) (l : List Offer) : (s.lapseOffer o).lapseAll l = s.lapseAll (o :: l) := by
  have offers : (s.lapseOffer o).book.offers.map (fun x => if ∃ y ∈ l, y.id = x.id then { x with state := .lapsed } else x) =
      s.book.offers.map (fun x => if ∃ y ∈ o :: l, y.id = x.id then { x with state := .lapsed } else x) := by
    simp only [State.lapseOffer, State.removeOfferEntry, State.clearReservation, State.mapOffer, List.map_map]
    refine List.map_congr_left fun x _ => ?_
    by_cases first : x.id = o.id
    · simp [first]
    · simp [first, Ne.symm first]
  have entries : (s.lapseOffer o).arbiter.offers.filter (fun e => decide (∀ y ∈ l, e ≠ .offer y.id)) =
      s.arbiter.offers.filter (fun e => decide (∀ y ∈ o :: l, e ≠ .offer y.id)) := by
    simp only [State.lapseOffer, State.removeOfferEntry, List.filter_filter]
    refine List.filter_congr fun e _ => ?_
    simp [Bool.and_comm]
  have reservation : (if ∃ y ∈ l, (s.lapseOffer o).book.reservation = some y.id then none
      else (s.lapseOffer o).book.reservation) =
      if ∃ y ∈ o :: l, s.book.reservation = some y.id then none else s.book.reservation := by
    simp only [State.lapseOffer, State.removeOfferEntry, State.clearReservation, State.mapOffer]
    by_cases first : s.book.reservation = some o.id
    · simp [first]
    · simp [first]
  unfold State.lapseAll
  rw [offers, entries, reservation]
  rfl

theorem foldl_lapseOffer (l : List Offer) (s : State) : l.foldl State.lapseOffer s = s.lapseAll l := by
  induction l generalizing s with
  | nil => exact (lapseAll_nil s).symm
  | cons o l ih => rw [List.foldl_cons, ih, lapseAll_cons]

theorem lapseGate_eq (s : State) (p : Product) (w : Nat) : s.lapseGate p w =
    (s.lapsing p w).foldl (fun t o => t.post (.offerLapsed o.id o.product o.window o.state))
      (s.lapseAll (s.lapsing p w)) := by
  rw [State.lapseGate, foldl_lapseOffer]

end Sys2Proof.Machine

namespace Sys2Proof.Machine

/-- R95: an offer that a closure of (p, w) finds DRAFT or QUEUED. -/
theorem mem_lapsing {s : State} {p : Product} {w : Nat} {o : Offer} : o ∈ s.lapsing p w ↔
    o ∈ s.book.offers ∧ o.product = p ∧ o.window = w ∧ (o.state = .draft ∨ o.state = .queued) := by
  simp [State.lapsing, and_assoc]

theorem lapseAll_entriesHeld {s : State} (h : s.EntriesHeld) (l : List Offer) : (s.lapseAll l).EntriesHeld := by
  have same : (fun x : Offer => x.id) ∘
      (fun x : Offer => if ∃ o ∈ l, o.id = x.id then { x with state := .lapsed } else x) = fun x => x.id := by
    funext x
    simp only [Function.comp]
    split <;> rfl
  refine ⟨?_, h.entries.sublist (List.filter_sublist.filter _), fun id hid => ?_⟩
  · simp only [State.lapseAll, List.map_map, same]
    exact h.ids
  · obtain ⟨listed, free⟩ := List.mem_filter.1 hid
    obtain ⟨x, hx, named, queued⟩ := h.named id listed
    have stays : ¬ ∃ o ∈ l, o.id = x.id := by
      rintro ⟨o, ho, same⟩
      exact of_decide_eq_true free o ho (by rw [same, named])
    exact ⟨x, List.mem_map.2 ⟨x, hx, if_neg stays⟩, named, queued⟩

section
variable (s : State) (p : Product) (w : Nat)

/-- R95: what has lapsed may be followed by a hand-over, as the notices are posted. -/
theorem lapseGate_handsOver : HandsOver (s.lapseAll (s.lapsing p w)) (s.lapseGate p w) := by
  rw [lapseGate_eq]
  exact .foldl _ (fun t o => post_handsOver t _) _ _

/-- R95: no DRAFT or QUEUED offer of (p, w) is left. -/
theorem lapseGate_settles {o : Offer} (ho : o ∈ (s.lapseGate p w).book.offers) (product : o.product = p)
    (window : o.window = w) : o.state ≠ .draft ∧ o.state ≠ .queued := by
  obtain ⟨a, ha, origin⟩ := (lapseGate_handsOver s p w).origin o ho
  rcases origin with rfl | rfl
  · obtain ⟨x, hx, rfl⟩ := List.mem_map.1 ha
    split at product
    · next lapsed =>
      rw [if_pos lapsed]
      exact ⟨nofun, nofun⟩
    · next stays =>
      rw [if_neg stays] at window ⊢
      have unlapsed : ¬ (x.state = .draft ∨ x.state = .queued) := fun lapses =>
        stays ⟨x, mem_lapsing.2 ⟨hx, product, window, lapses⟩, rfl⟩
      exact not_or.1 unlapsed
  · exact ⟨nofun, nofun⟩

variable {s} {p} {w}

/-- R81: in a held book the ids of the offers that lapse name no other offer. -/
theorem named_lapsing_iff (held : s.EntriesHeld) {o : Offer} (ho : o ∈ s.book.offers) :
    (∃ x ∈ s.lapsing p w, x.id = o.id) ↔ o.product = p ∧ o.window = w ∧ (o.state = .draft ∨ o.state = .queued) := by
  constructor
  · rintro ⟨x, hx, same⟩
    obtain ⟨listed, lapses⟩ := mem_lapsing.1 hx
    rwa [held.eq_of_id listed ho same] at lapses
  · exact fun lapses => ⟨o, mem_lapsing.2 ⟨ho, lapses⟩, rfl⟩

/-- R95: an offer of the closed gate becomes LAPSED. -/
theorem lapseGate_lapses (held : s.EntriesHeld) {o : Offer} (ho : o ∈ s.book.offers)
    (lapses : o.product = p ∧ o.window = w ∧ (o.state = .draft ∨ o.state = .queued)) :
    { o with state := .lapsed } ∈ (s.lapseGate p w).book.offers := by
  have lapsed : { o with state := .lapsed } ∈ (s.lapseAll (s.lapsing p w)).book.offers :=
    List.mem_map.2 ⟨o, ho, if_pos ((named_lapsing_iff held ho).2 lapses)⟩
  rcases ((lapseGate_handsOver s p w).held (lapseAll_entriesHeld held _)).2 _ lapsed with stays | ⟨queued, -⟩
  · exact stays
  · cases queued

/-- R95: any other offer stays, or is handed over. -/
theorem lapseGate_keeps (held : s.EntriesHeld) {o : Offer} (ho : o ∈ s.book.offers)
    (stays : ¬ (o.product = p ∧ o.window = w ∧ (o.state = .draft ∨ o.state = .queued))) :
    o ∈ (s.lapseGate p w).book.offers ∨
      (o.state = .queued ∧ { o with state := .submitted } ∈ (s.lapseGate p w).book.offers) := by
  have kept : o ∈ (s.lapseAll (s.lapsing p w)).book.offers :=
    List.mem_map.2 ⟨o, ho, if_neg (mt (named_lapsing_iff held ho).1 stays)⟩
  exact ((lapseGate_handsOver s p w).held (lapseAll_entriesHeld held _)).2 o kept

end

/-- R48: the calendar executes the gate closure that is due. -/
theorem gateClosure_next {s : State} {p : Product} {w : Nat} (due : s.dueEvent = some (.gate p w)) :
    exec (.gateClosure p w) s = .next (s.closeGate p w) := by
  change Host.Outcome.next (if s.dueEvent = some (.gate p w) then s.deliver (.gate p w) else s) = _
  rw [if_pos due]
  rfl

/-- Settles O16: the closure marks the gate and the offers lapse; posting their notices may only hand offers over. -/
theorem gateClosureLapsesOffers : Obligations.GateClosureLapsesOffers := by
  unfold Obligations.GateClosureLapsesOffers
  intro p w s due lapses lapsing
  have listed : s.lapsing p w = lapsing := List.filter_congr fun o _ => by
    simp [lapses, Bool.and_assoc]
  have frame := closeGate_gatesOnly s p w
  refine ⟨s.closeGate p w, gateClosure_next due, by simp, fun q hq => by simp [hq],
    fun o ho product window => lapseGate_settles (s.markGate p w) p w ho product window,
    fun held o ho => ⟨lapseGate_lapses (s := s.markGate p w) (entriesHeld_of_bookHeld held) ho,
      lapseGate_keeps (s := s.markGate p w) (entriesHeld_of_bookHeld held) ho⟩,
    fun held holds => ?_, frame.offers, frame.clock, frame.commitments, frame.ring, frame.fleet, frame.products,
    frame.census, frame.activation, frame.allocation, frame.monitor, frame.params⟩
  obtain ⟨m, posted, queued⟩ := posts_of_gridHolds
    (fun o : Offer => Notice.offerLapsed o.id o.product o.window o.state) lapsing
    (s := (s.markGate p w).lapseAll lapsing) holds
  have closed : s.closeGate p w = { (s.markGate p w).lapseAll lapsing with management := m } := by
    rw [closeGate_eq, lapseGate_eq, ← posted, ← listed]
    rfl
  rw [closed]
  refine ⟨List.map_congr_left fun o ho => ?_, rfl, rfl, rfl, fun masked room => ?_⟩
  · exact if_congr (by rw [← listed]; exact named_lapsing_iff (entriesHeld_of_bookHeld held) ho) rfl rfl
  · have labels : lapsing.map (fun o : Offer => Notice.offerLapsed o.id o.product o.window o.state) =
        lapsing.map (fun o : Offer => Notice.offerLapsed o.id p w o.state) :=
      List.map_congr_left fun o ho => by
        obtain ⟨-, product, window, -⟩ := mem_lapsing.1 (listed ▸ ho)
        rw [product, window]
    have all := queued (fun _ _ => masked) room
    rw [labels] at all
    exact all

end Sys2Proof.Machine

namespace Sys2Proof.Machine

/-! ## The calendar's next event (R47) -/

theorem earliest_mem {l : List (Nat × CalendarEvent)} {x : Nat × CalendarEvent} (h : earliest l = some x) : x ∈ l := by
  induction l with
  | nil => cases h
  | cons y rest ih =>
    simp only [earliest] at h
    split at h
    · cases h
      exact .head _
    · next z found =>
      split at h
      · cases h
        exact .tail _ (ih found)
      · cases h
        exact .head _

theorem earliest_eq_none {l : List (Nat × CalendarEvent)} (h : earliest l = none) : l = [] := by
  cases l with
  | nil => rfl
  | cons y rest =>
    simp only [earliest] at h
    split at h
    · cases h
    · split at h <;> cases h

/-- R47: what makes an event a candidate with a device time: a mark, or a registered effective time. -/
def State.raises (s : State) (x : Nat) (e : CalendarEvent) : Prop :=
  match e with
  | .gate p w => ∃ g, s.time.gateMarks.get p = some g ∧ w = g + 1 ∧ x = (g + 1) * s.windowMs - (s.bank p).leadMs
  | .boundary w => ∃ k, s.time.boundaryMark = some k ∧ w = k + 1 ∧ x = (k + 1) * s.windowMs
  | .arrival p time => s.time.effective.get p = some time ∧ x = time

theorem mem_allProducts (p : Product) : p ∈ allProducts := by
  fin_cases p <;> decide

theorem mem_candidates (s : State) (x : Nat) (e : CalendarEvent) : (x, e) ∈ s.candidates ↔ s.raises x e := by
  simp only [State.candidates, List.mem_append, List.mem_filterMap, Option.mem_toList, mem_allProducts, true_and,
    State.nextGate, State.nextBoundary, State.nextArrival, Option.map_eq_some_iff, Prod.mk.injEq]
  cases e with
  | gate p w =>
    constructor
    · rintro ((⟨q, g, mark, rfl, same⟩ | ⟨k, -, -, other⟩) | ⟨q, time, -, -, other⟩)
      · cases same
        exact ⟨g, mark, rfl, rfl⟩
      · cases other
      · cases other
    · rintro ⟨g, mark, rfl, rfl⟩
      exact .inl (.inl ⟨p, g, mark, rfl, rfl⟩)
  | boundary w =>
    constructor
    · rintro ((⟨q, g, -, -, other⟩ | ⟨k, mark, rfl, same⟩) | ⟨q, time, -, -, other⟩)
      · cases other
      · cases same
        exact ⟨k, mark, rfl, rfl⟩
      · cases other
    · rintro ⟨k, mark, rfl, rfl⟩
      exact .inl (.inr ⟨k, mark, rfl, rfl⟩)
  | arrival p time =>
    constructor
    · rintro ((⟨q, g, -, -, other⟩ | ⟨k, -, -, other⟩) | ⟨q, time', registered, rfl, same⟩)
      · cases other
      · cases other
      · cases same
        exact ⟨registered, rfl⟩
    · rintro ⟨registered, rfl⟩
      exact .inr ⟨p, x, registered, rfl, rfl⟩

theorem nextEvent_raised {s : State} {limit x : Nat} {e : CalendarEvent} (h : s.nextEvent limit = some (x, e)) :
    s.raises x e ∧ x ≤ limit := by
  obtain ⟨candidate, early⟩ := List.mem_filter.1 (earliest_mem h)
  exact ⟨(mem_candidates s x e).1 candidate, of_decide_eq_true early⟩

theorem nextEvent_none {s : State} {limit : Nat} (h : s.nextEvent limit = none) {x : Nat} {e : CalendarEvent}
    (raised : s.raises x e) : limit < x := by
  by_contra early
  have listed : (x, e) ∈ s.candidates.filter (fun e => decide (e.1 ≤ limit)) :=
    List.mem_filter.2 ⟨(mem_candidates s x e).2 raised, decide_eq_true (Nat.le_of_not_lt early)⟩
  rw [earliest_eq_none h] at listed
  cases listed

/-- R43: without an event up to the limit the calendar delivers nothing. -/
theorem runCalendar_of_none {s : State} {limit : Nat} (h : s.nextEvent limit = none) (fuel from0 : Nat) :
    s.runCalendar fuel from0 limit = s := by
  cases fuel with
  | zero => rfl
  | succ fuel => rw [State.runCalendar, h]

/-- R43, R47: what every delivery up to the limit keeps holds of the state the calendar leaves. -/
theorem runCalendar_keeps {limit : Nat} {P : State → Prop}
    (deliver : ∀ (s : State) (d x : Nat) (e : CalendarEvent), P s → s.raises x e → x ≤ limit → P ((s.runAt d).deliver e))
    (fuel : Nat) (s : State) (from0 : Nat) (h : P s) : P (s.runCalendar fuel from0 limit) := by
  induction fuel generalizing s from0 with
  | zero => exact h
  | succ fuel ih =>
    unfold State.runCalendar
    split
    · exact h
    · next x e next =>
      obtain ⟨raised, early⟩ := nextEvent_raised next
      exact ih _ _ (deliver s _ x e h raised early)

/-- R48: a gate is raised by the limit when its window begins within the lead of it. -/
theorem gate_raised_iff {s : State} {p : Product} {g limit : Nat} (positive : 0 < s.windowMs) :
    (g + 1) * s.windowMs - (s.bank p).leadMs ≤ limit ↔ g < (limit + (s.bank p).leadMs) / s.windowMs := by
  rw [Nat.sub_le_iff_le_add, ← Nat.le_div_iff_mul_le positive, Nat.succ_le_iff]

theorem boundary_raised_iff {s : State} {k limit : Nat} (positive : 0 < s.windowMs) :
    (k + 1) * s.windowMs ≤ limit ↔ k < limit / s.windowMs := by
  rw [← Nat.le_div_iff_mul_le positive, Nat.succ_le_iff]

/-- R50: a window is at least one minute long. -/
theorem windowMs_pos {s : State} (h : s.paramsHeld) : 0 < s.windowMs := by
  have minutes : 1 ≤ s.params.windowLength := by
    simp only [State.paramsHeld, Params.inRange, within, Bool.and_eq_true, decide_eq_true_eq] at h
    omega
  unfold State.windowMs Params.windowMs
  omega

/-- R51: no gate lead is above four hours. -/
theorem leadMs_le {s : State} (h : s.banksHeld) (p : Product) : (s.bank p).leadMs ≤ 14400000 := by
  have range := (h p).1
  simp only [Bank.inRange, Bool.and_eq_true, decide_eq_true_eq] at range
  have lead : (s.bank p).gateLead ≤ 240 := by
    unfold State.bank
    omega
  unfold Bank.leadMs
  omega

end Sys2Proof.Machine

namespace Sys2Proof.Machine

/-! ## What an event leaves of marks and windows (R47, R48, R106, R113) -/

/-- The boundary mark, the banks, the ring with its commitments, the obligations and the window records' indices stand. -/
structure WindowKept (s t : State) : Prop where
  boundaryMark : t.time.boundaryMark = s.time.boundaryMark
  products : t.products = s.products
  ring : t.book.ring = s.book.ring
  commitments : t.book.commitments = s.book.commitments
  obligation : ∀ p, (t.act p).obligation = (s.act p).obligation
  window : ∀ p, (t.mon p).current.window = (s.mon p).current.window

theorem WindowKept.refl (s : State) : WindowKept s s := ⟨rfl, rfl, rfl, rfl, fun _ => rfl, fun _ => rfl⟩

theorem WindowKept.trans {s t u : State} (h : WindowKept s t) (k : WindowKept t u) : WindowKept s u where
  boundaryMark := k.boundaryMark.trans h.boundaryMark
  products := k.products.trans h.products
  ring := k.ring.trans h.ring
  commitments := k.commitments.trans h.commitments
  obligation p := (k.obligation p).trans (h.obligation p)
  window p := (k.window p).trans (h.window p)

theorem WindowKept.commitment {s t : State} (h : WindowKept s t) (p : Product) (w : Nat) :
    t.commitment p w = s.commitment p w := by
  rw [State.commitment, State.commitment, h.ring, h.commitments]

theorem EgressOnly.windowKept {s t : State} (h : EgressOnly s t) : WindowKept s t where
  boundaryMark := by rw [h.time]
  products := h.products
  ring := h.ring
  commitments := h.commitments
  obligation p := by rw [State.act, State.act, h.activation]
  window p := by rw [State.mon, State.mon, h.monitor]

theorem handOn_windowKept (s old : State) (c : Cause) : WindowKept s (s.handOn old c) where
  boundaryMark := by rw [State.handOn_time]
  products := s.handOn_products old c
  ring := (handOn_blocksKept s old c).ring
  commitments := handOn_commitments s old c
  obligation p := by rw [State.act, State.act, State.handOn_activation]
  window := (handOn_blocksKept s old c).window

theorem runAt_windowKept (s : State) (d : Nat) : WindowKept s (s.runAt d) :=
  ⟨rfl, rfl, rfl, rfl, fun _ => rfl, fun _ => rfl⟩

theorem registerTime_windowKept (s : State) (p : Product) (time : Option Nat) : WindowKept s (s.registerTime p time) :=
  ⟨rfl, rfl, rfl, rfl, fun _ => rfl, fun _ => rfl⟩

/-- A record written with its obligation as it was. -/
theorem setAct_windowKept (s : State) (p : Product) (r : ActRecord) (h : r.obligation = (s.act p).obligation) :
    WindowKept s (s.setAct p r) where
  boundaryMark := rfl
  products := rfl
  ring := rfl
  commitments := rfl
  obligation q := by
    simp only [State.setAct, State.act, PerProduct.get_set]
    split
    · next same => rw [h, same, State.act]
    · rfl
  window _ := rfl

theorem closeGate_windowKept (s : State) (p : Product) (w : Nat) : WindowKept s (s.closeGate p w) :=
  (⟨rfl, rfl, rfl, rfl, fun _ => rfl, fun _ => rfl⟩ : WindowKept s (s.markGate p w)).trans
    (lapseGate_egress (s.markGate p w) p w).windowKept

theorem applyOrder_obligation (r : ActRecord) (id quantity : Nat) :
    (r.applyOrder id quantity).obligation = r.obligation := by
  unfold ActRecord.applyOrder
  split <;> rfl

/-- R113: an arrival's record keeps its obligation, whatever becomes of the order. -/
theorem arrival_windowKept (s : State) (p : Product) (time : Nat) : WindowKept s (s.arrival p time) := by
  have taken (r : ActRecord) (id : Nat) (o : AckOutcome) (at0 : Option Nat)
      (h : r.obligation = (s.act p).obligation) :
      WindowKept s ((((s.setAct p r).registerTime p none).ackFor p id o at0).handOn s .effectiveTime) :=
    (((setAct_windowKept s p r h).trans (registerTime_windowKept _ p none)).trans
      (ackFor_egress _ p id o at0).windowKept).trans (handOn_windowKept _ _ _)
  unfold State.arrival
  split
  · exact .refl s
  · split
    · exact .refl s
    · dsimp only
      split
      · exact taken _ _ _ _ (by split <;> rfl)
      · exact taken _ _ _ _ (applyOrder_obligation _ _ _)

/-- R47, R113: the effective time that arrives is no longer registered; nothing else of the Time Base changes. -/
theorem deliver_arrival_time (s : State) (p : Product) (time : Nat) :
    (s.deliver (.arrival p time)).time.gateMarks = s.time.gateMarks ∧
    (s.deliver (.arrival p time)).time.effective.get p = none ∧
    ∀ q, q ≠ p → (s.deliver (.arrival p time)).time.effective.get q = s.time.effective.get q := by
  have taken (t old : State) (r : ActRecord) (id : Nat) (o : AckOutcome) (at0 : Option Nat) :
      ((((t.setAct p r).registerTime p none).ackFor p id o at0).handOn old .effectiveTime).time =
        { t.time with effective := t.time.effective.set p none } := by
    rw [State.handOn_time, State.ackFor_time]
    rfl
  have shape : (s.deliver (.arrival p time)).time = (s.registerTime p none).time ∨
      (s.deliver (.arrival p time)).time = { (s.registerTime p none).time with
        effective := (s.registerTime p none).time.effective.set p none } := by
    unfold State.deliver State.arrival
    dsimp only
    split
    · exact .inl rfl
    · split
      · exact .inl rfl
      · split <;> exact .inr (taken _ _ _ _ _ _)
  rcases shape with h | h <;> rw [h] <;>
    exact ⟨rfl, by simp [State.registerTime], fun q hq => by simp [State.registerTime, hq]⟩

/-- R48, R113: gate marks rise and none is set, no effective time is registered, the boundary mark stands, and a
product without a staged bank keeps its context and its gate mark. -/
structure MarksRise (s t : State) : Prop where
  rises : ∀ p g, s.time.gateMarks.get p = some g → ∃ h, t.time.gateMarks.get p = some h ∧ g ≤ h
  absent : ∀ p, s.time.gateMarks.get p = none → t.time.gateMarks.get p = none
  unregistered : ∀ p, s.time.effective.get p = none → t.time.effective.get p = none
  boundaryMark : t.time.boundaryMark = s.time.boundaryMark
  unstaged : ∀ p, (s.products.get p).staged = false →
    t.products.get p = s.products.get p ∧ t.time.gateMarks.get p = s.time.gateMarks.get p

theorem MarksRise.of_eq {s t : State} (time : t.time = s.time) (products : t.products = s.products) : MarksRise s t := by
  constructor
  · exact fun p g mark => ⟨g, by rw [time, mark], le_refl g⟩
  · exact fun p unset => by rw [time, unset]
  · exact fun p unset => by rw [time, unset]
  · rw [time]
  · exact fun p _ => by rw [time, products]; exact ⟨rfl, rfl⟩

theorem MarksRise.refl (s : State) : MarksRise s s := .of_eq rfl rfl

theorem MarksRise.trans {s t u : State} (h : MarksRise s t) (k : MarksRise t u) : MarksRise s u where
  rises p g mark := by
    obtain ⟨g', mark', le⟩ := h.rises p g mark
    obtain ⟨g'', mark'', le'⟩ := k.rises p g' mark'
    exact ⟨g'', mark'', le.trans le'⟩
  absent p unset := k.absent p (h.absent p unset)
  unregistered p unset := k.unregistered p (h.unregistered p unset)
  boundaryMark := k.boundaryMark.trans h.boundaryMark
  unstaged p unstaged := by
    obtain ⟨context, mark⟩ := h.unstaged p unstaged
    obtain ⟨context', mark'⟩ := k.unstaged p (by rw [context, unstaged])
    exact ⟨context'.trans context, mark'.trans mark⟩

theorem MarksRise.foldl {α : Type} (f : State → α → State) (h : ∀ s a, MarksRise s (f s a)) (l : List α) (s : State) :
    MarksRise s (l.foldl f s) := by
  induction l generalizing s with
  | nil => exact .refl s
  | cons a l ih => exact (h s a).trans (ih _)

theorem EgressOnly.marksRise {s t : State} (h : EgressOnly s t) : MarksRise s t := .of_eq h.time h.products

/-- A switch of a staged product may raise its own mark, and its own mark only. -/
theorem MarksRise.of_staged {s t : State} {p : Product} (staged : (s.products.get p).staged = true)
    (rises : ∀ g, s.time.gateMarks.get p = some g → ∃ h, t.time.gateMarks.get p = some h ∧ g ≤ h)
    (absent : s.time.gateMarks.get p = none → t.time.gateMarks.get p = none)
    (others : ∀ q, q ≠ p → t.products.get q = s.products.get q ∧ t.time.gateMarks.get q = s.time.gateMarks.get q)
    (unregistered : ∀ q, s.time.effective.get q = none → t.time.effective.get q = none)
    (boundaryMark : t.time.boundaryMark = s.time.boundaryMark) : MarksRise s t where
  rises q g mark := by
    by_cases own : q = p
    · subst own
      exact rises g mark
    · exact ⟨g, by rw [(others q own).2, mark], le_refl g⟩
  absent q unset := by
    by_cases own : q = p
    · subst own
      exact absent unset
    · rw [(others q own).2, unset]
  unregistered := unregistered
  boundaryMark := boundaryMark
  unstaged q unstaged := others q (by
    rintro rfl
    rw [staged] at unstaged
    cases unstaged)

/-! ### The boundary of the Product Table (R48, R56) -/

theorem adjustGate_rises {s : State} {p : Product} {g : Nat} (hg : s.time.gateMarks.get p = some g) :
    ∃ h, (s.adjustGate p).time.gateMarks.get p = some h ∧ g ≤ h := by
  cases hd : s.deviceTime with
  | none =>
    unfold State.adjustGate
    rw [hd]
    exact ⟨g, hg, le_refl g⟩
  | some d => exact ⟨_, adjustGate_mark hd hg, le_max_left _ _⟩

theorem leadAdjusted_rises {s : State} {p : Product} {g : Nat} (old : Bank) (hg : s.time.gateMarks.get p = some g) :
    ∃ h, (s.leadAdjusted p old).time.gateMarks.get p = some h ∧ g ≤ h := by
  unfold State.leadAdjusted
  split
  · exact ⟨g, hg, le_refl g⟩
  · exact adjustGate_rises hg

theorem leadAdjusted_absent {s : State} {p : Product} (old : Bank) (hg : s.time.gateMarks.get p = none) :
    (s.leadAdjusted p old).time.gateMarks.get p = none := by
  unfold State.leadAdjusted State.adjustGate
  split
  · exact hg
  · rw [hg]
    cases s.deviceTime <;> exact hg

theorem afterSwitch_boundaryMark (s : State) (p : Product) (old : Bank) :
    (s.afterSwitch p old).time.boundaryMark = s.time.boundaryMark := by
  have adjusted := (leadAdjusted_gatesOnly s p old).boundaryMark
  rw [afterSwitch_eq]
  split
  · rw [resetForSwitch_time, adjusted]
  · exact adjusted

theorem judgeStaged_marksRise (w : Nat) (s : State) (p : Product) : MarksRise s (s.judgeStaged w p) := by
  unfold State.judgeStaged
  split
  · next staged =>
    split
    · refine .of_staged staged (fun g mark => ⟨g, by rw [State.post_time]; exact mark, le_refl g⟩)
        (fun unset => by rw [State.post_time]; exact unset) (fun q hq => ?_) ?_ ?_
      · rw [State.post_products, State.post_time]
        exact ⟨by simp [State.setProduct, hq], rfl⟩
      · rw [State.post_time]
        exact fun q unset => unset
      · rw [State.post_time]
        rfl
    · have time : ((s.copyBank p).post (.stageApplied true p w)).time = s.time := State.post_time _ _
      generalize hu : (s.copyBank p).post (.stageApplied true p w) = u at time
      have products : u.products = (s.copyBank p).products := by rw [← hu, State.post_products]
      refine .of_staged staged (fun g mark => ?_) (fun unset => ?_) (fun q hq => ?_) (fun q unset => ?_) ?_
      · rw [afterSwitch_gateMarks]
        exact leadAdjusted_rises _ (by rw [time, mark])
      · rw [afterSwitch_gateMarks]
        exact leadAdjusted_absent _ (by rw [time, unset])
      · rw [afterSwitch_products, products, afterSwitch_gateMarks, leadAdjusted_mark_other u hq, time]
        exact ⟨by simp [State.copyBank, State.setProduct, hq], rfl⟩
      · rw [afterSwitch_effective, time]
        split
        · rw [PerProduct.get_set]
          split
          · rfl
          · exact unset
        · exact unset
      · rw [afterSwitch_boundaryMark, time]
  · exact .refl s

theorem productBoundary_marksRise (s : State) (w : Nat) : MarksRise s (s.productBoundary w) := by
  have judged := MarksRise.foldl _ (judgeStaged_marksRise w) allProducts s
  unfold State.productBoundary
  dsimp only
  split
  · rw [requestAfterSwitch_census]
    exact judged.trans (.of_eq rfl rfl)
  · exact judged

/-! ### The boundary of the Offer Book (R96, R97) -/

/-- R96, R97: the offers of both windows moved, before the ring is recycled. -/
def State.offersMoved (s : State) (w : Nat) : State :=
  (s.book.offers.filter (fun o => decide (o.window + 1 = w))).foldl State.closeOffer
    ((s.book.offers.filter (fun o => decide (o.window = w))).foldl State.boundaryOffer s)

theorem bookBoundary_egress (s : State) (w : Nat) : EgressOnly ((s.offersMoved w).recycleRing w) (s.bookBoundary w) :=
  .foldl _ (fun t _ => post_egress t _) _ _

theorem offersMoved_egress (s : State) (w : Nat) : EgressOnly s (s.offersMoved w) := by
  have moved (s : State) (o : Offer) : EgressOnly s (s.boundaryOffer o) := by
    unfold State.boundaryOffer
    split
    · exact (mapOffer_egress s o.id (fun x => { x with state := .inDelivery }) fun _ => rfl).trans
        (clearReservation_egress _ _)
    · exact (mapOffer_egress s o.id (fun x => { x with state := .inDelivery }) fun _ => rfl).trans
        (clearReservation_egress _ _)
    · exact ((mapOffer_egress s o.id (fun x => { x with state := .expired }) fun _ => rfl).trans
        (clearReservation_egress _ _)).trans (removeOfferEntry_egress _ _)
    · exact ((mapOffer_egress s o.id (fun x => { x with state := .expired }) fun _ => rfl).trans
        (clearReservation_egress _ _)).trans (removeOfferEntry_egress _ _)
    all_goals exact .refl s
  have closed (s : State) (o : Offer) : EgressOnly s (s.closeOffer o) := by
    unfold State.closeOffer
    split
    · exact (mapOffer_egress s o.id (fun x => { x with state := .closed }) fun _ => rfl).trans
        (clearReservation_egress _ _)
    all_goals exact .refl s
  exact (EgressOnly.foldl _ moved _ s).trans (.foldl _ closed _ _)

end Sys2Proof.Machine

namespace Sys2Proof.Machine

/-! ### The whole boundary (R47, R97, R106, R152) -/

theorem boundaryRecord_obligation (s : State) (p : Product) (o : Nat) : (s.boundaryRecord p o).obligation = o := by
  unfold State.boundaryRecord
  dsimp only
  split_ifs <;> rfl

/-- R106: every obligation becomes the commitment of the window that begins. -/
theorem activationBoundary_windowKept (s : State) (w : Nat) :
    WindowKept (s.mapActs fun p => s.boundaryRecord p (s.commitment p w)) (s.activationBoundary w) := by
  refine WindowKept.trans (EgressOnly.windowKept (.foldl _ (fun t p => ?_) _ _)) (handOn_windowKept _ s .boundary)
  split
  · exact .refl t
  · exact ackFor_egress t p _ _ _

theorem activationBoundary_marksRise (s : State) (w : Nat) : MarksRise s (s.activationBoundary w) := by
  have mapped : MarksRise s (s.mapActs fun p => s.boundaryRecord p (s.commitment p w)) := .of_eq rfl rfl
  refine (mapped.trans (EgressOnly.marksRise (.foldl _ (fun t p => ?_) _ _))).trans
    (.of_eq (State.handOn_time _ s .boundary) (State.handOn_products _ s .boundary))
  split
  · exact .refl t
  · exact ackFor_egress t p _ _ _

theorem activationBoundary_obligation (s : State) (w : Nat) (p : Product) :
    ((s.activationBoundary w).act p).obligation = s.commitment p w := by
  rw [(activationBoundary_windowKept s w).obligation p]
  simp only [State.mapActs, State.act, PerProduct.get_ofFn]
  exact boundaryRecord_obligation s p _

/-- R47: the boundary mark set to `w`. -/
def State.markBoundary (s : State) (w : Nat) : State := { s with time := { s.time with boundaryMark := some w } }

theorem boundary_eq (s : State) (w : Nat) : s.boundary w =
    ((((s.markBoundary w).productBoundary w).bookBoundary w).activationBoundary w).monitorBoundary w := rfl

/-- R47, R48: a boundary raises gate marks and leaves a product without a staged bank alone. -/
theorem boundary_marksRise (s : State) (w : Nat) : MarksRise (s.markBoundary w) (s.boundary w) := by
  rw [boundary_eq]
  generalize s.markBoundary w = a
  have book (b : State) : MarksRise b (b.bookBoundary w) :=
    (offersMoved_egress b w).marksRise.trans
      (MarksRise.trans (t := (b.offersMoved w).recycleRing w) (.of_eq rfl rfl) (bookBoundary_egress b w).marksRise)
  have monitor (c : State) : MarksRise c (c.monitorBoundary w) :=
    .of_eq (State.evaluate_time _ _) (State.evaluate_products _ _)
  exact (((productBoundary_marksRise a w).trans (book _)).trans (activationBoundary_marksRise _ w)).trans (monitor _)

section
variable (s : State) (w : Nat)

/-- What follows the Offer Book's turn leaves the ring and the commitments. -/
theorem boundary_book : (s.boundary w).book.ring = some w ∧ (s.boundary w).book.commitments =
    (((s.markBoundary w).productBoundary w).offersMoved w |>.recycleRing w).book.commitments := by
  rw [boundary_eq]
  generalize (s.markBoundary w).productBoundary w = b
  have book := bookBoundary_egress b w
  have records := activationBoundary_windowKept (b.bookBoundary w) w
  have evaluated (c : State) := (evaluate_evaluation { c with monitor := { c.monitor with
    products := PerProduct.ofFn (fun p => (c.mon p).closeWindow w) } } false).egress
  exact ⟨(evaluated _).ring.trans (records.ring.trans book.ring),
    (evaluated _).commitments.trans (records.commitments.trans book.commitments)⟩

/-- R97: of the commitments a boundary into `w` keeps those of the ring that begins there. -/
theorem boundary_commitments (p : Product) : (s.boundary w).book.commitments.get p =
    (s.book.commitments.get p).filter (fun e => decide (w ≤ e.1) && decide (e.1 ≤ w + Config.ringAfter)) := by
  have moved : (((s.markBoundary w).productBoundary w).offersMoved w).book.commitments = s.book.commitments :=
    (offersMoved_egress _ w).commitments.trans (productBoundary_commitments _ w)
  rw [(boundary_book s w).2]
  simp only [State.recycleRing, PerProduct.get_ofFn, moved]

/-- R106: after a boundary into `w` the obligation is the commitment of `w`. -/
theorem boundary_obligation (p : Product) : ((s.boundary w).act p).obligation = (s.boundary w).commitment p w := by
  rw [boundary_eq]
  generalize ((s.markBoundary w).productBoundary w).bookBoundary w = b
  have records := activationBoundary_windowKept b w
  have evaluated (c : State) := (evaluate_evaluation { c with monitor := { c.monitor with
    products := PerProduct.ofFn (fun p => (c.mon p).closeWindow w) } } false).egress
  have commitment : ((b.activationBoundary w).monitorBoundary w).commitment p w = b.commitment p w := by
    rw [State.commitment, State.commitment]
    rw [show ((b.activationBoundary w).monitorBoundary w).book.ring = b.book.ring from
        (evaluated _).ring.trans records.ring,
      show ((b.activationBoundary w).monitorBoundary w).book.commitments = b.book.commitments from
        (evaluated _).commitments.trans records.commitments]
  rw [commitment, ← activationBoundary_obligation b w p]
  exact congrArg (fun x : Activation => (x.records.get p).obligation) (evaluated (b.activationBoundary w)).activation

end

/-- Leaving entries out keeps the reading of those that stay. -/
theorem Table.find_filter {α : Type} (q : Nat × α → Bool) {t : Table α} {low k : Nat}
    (rising : Table.risingFrom t low = true) (kept : ∀ a, q (k, a) = true) :
    Table.find (t.filter q) k = Table.find t k := by
  induction t generalizing low with
  | nil => rfl
  | cons e rest ih =>
    obtain ⟨j, a⟩ := e
    simp only [Table.risingFrom, Bool.and_eq_true, decide_eq_true_eq] at rising
    obtain ⟨-, rest_rising⟩ := rising
    by_cases same : j = k
    · subst same
      simp [Table.find, kept]
    by_cases below : k < j
    · have absent : Table.find (rest.filter q) k = none :=
        Table.find_below (Table.risingFrom_filter q rest_rising) (by omega)
      rw [List.filter_cons]
      split
      · simp [Table.find, same, below]
      · simp [Table.find, same, below, absent]
    · rw [List.filter_cons]
      split
      · simp [Table.find, same, below, ih rest_rising]
      · simp [Table.find, same, below, ih rest_rising]

/-- R97: a commitment within the old ring and the new one is read as before. -/
theorem boundary_commitment {s : State} {base w v : Nat} {p : Product} (tables : s.tablesHeld)
    (ring : s.book.ring = some base) (old : base ≤ v ∧ v ≤ base + Config.ringAfter)
    (new : w ≤ v ∧ v ≤ w + Config.ringAfter) : (s.boundary w).commitment p v = s.commitment p v := by
  have rising : Table.wf (s.book.commitments.get p) = true := Table.wf_of_wfOr (tables.2 p)
  simp only [State.commitment, (boundary_book s w).1, ring, if_pos old, if_pos new, Table.readOr]
  rw [boundary_commitments, Table.find_filter _ rising fun a => by simpa using new]

end Sys2Proof.Machine

namespace Sys2Proof.Machine

/-! ## The calendar comes to an end (R43, R47) -/

/-- The windows up to `n` that a mark has still to pass. -/
def windowsLeft (n : Nat) (mark : Option Nat) : Nat :=
  match mark with
  | none => 0
  | some g => n - g

/-- One while an effective time is registered. -/
def arrivalsLeft (time : Option Nat) : Nat := if time.isSome then 1 else 0

/-- At least the number of events still to deliver while no gate or boundary of a window after `n` is raised. -/
def State.eventsLeft (s : State) (n : Nat) : Nat :=
  (∑ p, windowsLeft n (s.time.gateMarks.get p)) + windowsLeft n s.time.boundaryMark +
    ∑ p, arrivalsLeft (s.time.effective.get p)

theorem windowsLeft_le (n : Nat) (mark : Option Nat) : windowsLeft n mark ≤ n := by
  cases mark with
  | none => exact Nat.zero_le n
  | some g => exact Nat.sub_le n g

theorem arrivalsLeft_le_one (time : Option Nat) : arrivalsLeft time ≤ 1 := by
  unfold arrivalsLeft
  split <;> omega

theorem eventsLeft_le (s : State) (n : Nat) : s.eventsLeft n ≤ 9 * n + 8 := by
  have gates : ∑ p, windowsLeft n (s.time.gateMarks.get p) ≤ 8 * n :=
    Finset.sum_le_card_nsmul Finset.univ _ n fun p _ => windowsLeft_le n _
  have arrivals : ∑ p, arrivalsLeft (s.time.effective.get p) ≤ 8 * 1 :=
    Finset.sum_le_card_nsmul Finset.univ _ 1 fun p _ => arrivalsLeft_le_one _
  have boundary := windowsLeft_le n s.time.boundaryMark
  unfold State.eventsLeft
  omega

/-- A gate that closes leaves one event less. -/
theorem eventsLeft_gate {s : State} {p : Product} {g n : Nat} (mark : s.time.gateMarks.get p = some g) (below : g < n) :
    (s.closeGate p (g + 1)).eventsLeft n < s.eventsLeft n := by
  have passed : ∑ q, windowsLeft n ((s.time.gateMarks.set p (some (g + 1))).get q) <
      ∑ q, windowsLeft n (s.time.gateMarks.get q) := by
    refine Finset.sum_lt_sum (fun q _ => ?_) ⟨p, Finset.mem_univ p, ?_⟩
    · rw [PerProduct.get_set]
      split
      · next own =>
        rw [own, mark]
        simp only [windowsLeft]
        omega
      · exact le_refl _
    · rw [PerProduct.get_set, if_pos rfl, mark]
      simp only [windowsLeft]
      omega
  unfold State.eventsLeft
  rw [closeGate_time]
  dsimp only
  omega

/-- An effective time that arrives leaves one event less. -/
theorem eventsLeft_arrival {s : State} {p : Product} {time n : Nat} (registered : s.time.effective.get p = some time) :
    (s.deliver (.arrival p time)).eventsLeft n < s.eventsLeft n := by
  obtain ⟨marks, gone, others⟩ := deliver_arrival_time s p time
  have boundary : (s.deliver (.arrival p time)).time.boundaryMark = s.time.boundaryMark :=
    (arrival_windowKept (s.registerTime p none) p time).boundaryMark
  have passed : ∑ q, arrivalsLeft ((s.deliver (.arrival p time)).time.effective.get q) <
      ∑ q, arrivalsLeft (s.time.effective.get q) := by
    refine Finset.sum_lt_sum (fun q _ => ?_) ⟨p, Finset.mem_univ p, ?_⟩
    · by_cases own : q = p
      · rw [own, gone]
        exact Nat.zero_le _
      · rw [others q own]
    · rw [gone, registered]
      exact Nat.one_pos
  unfold State.eventsLeft
  rw [marks, boundary]
  omega

/-- A boundary leaves one event less, as its switches only raise gate marks and withdraw effective times. -/
theorem eventsLeft_boundary {s : State} {k n : Nat} (mark : s.time.boundaryMark = some k) (below : k < n) :
    (s.boundary (k + 1)).eventsLeft n < s.eventsLeft n := by
  have risen := boundary_marksRise s (k + 1)
  have gates : ∑ p, windowsLeft n ((s.boundary (k + 1)).time.gateMarks.get p) ≤
      ∑ p, windowsLeft n (s.time.gateMarks.get p) := by
    refine Finset.sum_le_sum fun p _ => ?_
    cases hg : s.time.gateMarks.get p with
    | none => rw [risen.absent p hg]
    | some g =>
      obtain ⟨h, later, le⟩ := risen.rises p g hg
      rw [later]
      exact Nat.sub_le_sub_left le n
  have arrivals : ∑ p, arrivalsLeft ((s.boundary (k + 1)).time.effective.get p) ≤
      ∑ p, arrivalsLeft (s.time.effective.get p) := by
    refine Finset.sum_le_sum fun p _ => ?_
    cases he : s.time.effective.get p with
    | none => rw [risen.unregistered p he]
    | some time => exact arrivalsLeft_le_one _
  have passed : windowsLeft n (s.boundary (k + 1)).time.boundaryMark < windowsLeft n s.time.boundaryMark := by
    rw [risen.boundaryMark, mark]
    simp only [State.markBoundary, windowsLeft]
    omega
  unfold State.eventsLeft
  omega

/-- R43, R47: every event delivered on the way to `limit` leaves one less. -/
theorem eventsLeft_deliver {s : State} {limit x d n : Nat} {e : CalendarEvent} (banks : s.banksHeld)
    (positive : 0 < s.windowMs) (bound : (limit + 14400000) / s.windowMs ≤ n) (raised : s.raises x e) (early : x ≤ limit) :
    ((s.runAt d).deliver e).eventsLeft n < s.eventsLeft n := by
  cases e with
  | gate p w =>
    obtain ⟨g, mark, rfl, rfl⟩ := raised
    refine eventsLeft_gate (s := s.runAt d) mark (((gate_raised_iff positive).1 early).trans_le (le_trans ?_ bound))
    exact Nat.div_le_div_right (Nat.add_le_add_left (leadMs_le banks p) limit)
  | boundary w =>
    obtain ⟨k, mark, rfl, rfl⟩ := raised
    refine eventsLeft_boundary (s := s.runAt d) mark (((boundary_raised_iff positive).1 early).trans_le (le_trans ?_ bound))
    exact Nat.div_le_div_right (Nat.le_add_right _ _)
  | arrival p time => exact eventsLeft_arrival (s := s.runAt d) raised.1

/-- R43, R47: with fuel for the events left none is due any more up to the limit. -/
theorem runCalendar_drained {limit n : Nat} (fuel : Nat) (s : State) (from0 : Nat) (banks : s.banksHeld)
    (params : s.paramsHeld) (bound : (limit + 14400000) / s.windowMs ≤ n) (enough : s.eventsLeft n ≤ fuel) :
    (s.runCalendar fuel from0 limit).nextEvent limit = none := by
  induction fuel generalizing s from0 with
  | zero =>
    cases next : s.nextEvent limit with
    | none => rwa [State.runCalendar]
    | some y =>
      obtain ⟨raised, early⟩ := nextEvent_raised (e := y.2) next
      have less := eventsLeft_deliver (d := 0) banks (windowMs_pos params) bound raised early
      omega
  | succ fuel ih =>
    unfold State.runCalendar
    split
    · assumption
    · next x e next =>
      obtain ⟨raised, early⟩ := nextEvent_raised next
      have kept := (runAt_keepsRanges s (max x from0)).trans (deliver_keepsRanges _ e)
      have less := eventsLeft_deliver (d := max x from0) banks (windowMs_pos params) bound raised early
      have length : ((s.runAt (max x from0)).deliver e).windowMs = s.windowMs :=
        congrArg Params.windowMs (deliver_steady (s.runAt (max x from0)) e).params
      exact ih _ _ (kept.banks banks) (kept.params params) (by rw [length]; exact bound) (by omega)

end Sys2Proof.Machine

namespace Sys2Proof.Machine

/-! ## What a step forward leaves (R43, R47, R48, R97, R106) -/

theorem deliver_params (s : State) (d : Nat) (e : CalendarEvent) : ((s.runAt d).deliver e).params = s.params :=
  (deliver_steady (s.runAt d) e).params

/-- R48: on the way from `s` to `limit` product `p`'s gate mark rises from `g`; without a staged bank it rises no
further than the mark's own, and the context stays. -/
structure GateCrossed (limit : Nat) (s : State) (p : Product) (g : Nat) (t : State) : Prop where
  params : t.params = s.params
  rises : ∃ h, t.time.gateMarks.get p = some h ∧ g ≤ h
  unstaged : (s.products.get p).staged = false → t.products.get p = s.products.get p ∧
    ∀ h, t.time.gateMarks.get p = some h → h ≤ max g ((limit + (s.bank p).leadMs) / s.windowMs)

theorem GateCrossed.start {limit : Nat} {s : State} {p : Product} {g : Nat} (mark : s.time.gateMarks.get p = some g) :
    GateCrossed limit s p g s where
  params := rfl
  rises := ⟨g, mark, le_refl g⟩
  unstaged _ := ⟨rfl, fun h found => by
    rw [mark] at found
    cases found
    exact le_max_left _ _⟩

/-- An event that keeps the product's context and mark. -/
theorem GateCrossed.of_kept {limit : Nat} {s t u : State} {p : Product} {g : Nat} (h : GateCrossed limit s p g t)
    (params : u.params = t.params) (products : u.products.get p = t.products.get p)
    (marks : u.time.gateMarks.get p = t.time.gateMarks.get p) : GateCrossed limit s p g u where
  params := params.trans h.params
  rises := by rw [marks]; exact h.rises
  unstaged free := by rw [products, marks]; exact h.unstaged free

theorem deliver_gateCrossed {limit : Nat} {s : State} (positive : 0 < s.windowMs) {p : Product} {g : Nat} (t : State)
    (d x : Nat) (e : CalendarEvent) (h : GateCrossed limit s p g t) (raised : t.raises x e) (early : x ≤ limit) :
    GateCrossed limit s p g ((t.runAt d).deliver e) := by
  have params := deliver_params t d e
  have length : t.windowMs = s.windowMs := congrArg Params.windowMs h.params
  cases e with
  | gate q w =>
    obtain ⟨g', mark, rfl, rfl⟩ := raised
    have below := (gate_raised_iff (by rw [length]; exact positive)).1 early
    have products : ((t.runAt d).deliver (.gate q (g' + 1))).products = t.products :=
      (closeGate_windowKept (t.runAt d) q (g' + 1)).products
    have marks : ((t.runAt d).deliver (.gate q (g' + 1))).time.gateMarks = t.time.gateMarks.set q (some (g' + 1)) :=
      congrArg TimeBase.gateMarks (closeGate_time (t.runAt d) q (g' + 1))
    by_cases own : p = q
    · subst own
      obtain ⟨before, mark', le⟩ := h.rises
      rw [mark] at mark'
      cases mark'
      refine ⟨params.trans h.params, ⟨g' + 1, by rw [marks]; simp, by omega⟩, fun free => ?_⟩
      obtain ⟨context, -⟩ := h.unstaged free
      have bank : t.bank p = s.bank p := congrArg ProductContext.active context
      rw [products, marks]
      refine ⟨context, fun h' found => ?_⟩
      rw [PerProduct.get_set, if_pos rfl] at found
      cases found
      rw [bank, length] at below
      exact le_trans below (le_max_right _ _)
    · exact h.of_kept params (by rw [products]) (by rw [marks]; simp [own])
  | boundary w =>
    have risen := boundary_marksRise (t.runAt d) w
    obtain ⟨g', mark, le⟩ := h.rises
    obtain ⟨g'', mark', le'⟩ := risen.rises p g' mark
    refine ⟨params.trans h.params, ⟨g'', mark', le.trans le'⟩, fun free => ?_⟩
    obtain ⟨context, bound⟩ := h.unstaged free
    have unstaged : (t.products.get p).staged = false := by rw [context, free]
    obtain ⟨context', marks⟩ := risen.unstaged p unstaged
    exact ⟨context'.trans context, fun h' found => bound h' (marks ▸ found)⟩
  | arrival q time =>
    have kept := arrival_windowKept ((t.runAt d).registerTime q none) q time
    exact h.of_kept params (congrArg (fun x => PerProduct.get x p) kept.products)
      (congrArg (fun x => PerProduct.get x p) (deliver_arrival_time (t.runAt d) q time).1)

/-- R47, R97, R106: on the way from `s` to `limit` the boundary mark, with the ring, has come from `k` to `j`, the
commitments kept that both rings hold; once a boundary has passed, obligations and window records are those of `j`. -/
structure RingCrossed (limit : Nat) (s : State) (k j : Nat) (t : State) : Prop where
  params : t.params = s.params
  boundaryMark : t.time.boundaryMark = some j
  ring : t.book.ring = some j
  above : k ≤ j
  below : j ≤ max k (limit / s.windowMs)
  tables : s.tablesHeld → t.tablesHeld
  commitments : s.tablesHeld → ∀ p v, j ≤ v → v ≤ k + 47 → t.commitment p v = s.commitment p v
  passed : k < j → ∀ p, (t.act p).obligation = t.commitment p j ∧ (t.mon p).current.window = some j

/-- An event that leaves ring, commitments, obligations and window records. -/
theorem RingCrossed.of_kept {limit : Nat} {s t u : State} {k j : Nat} (h : RingCrossed limit s k j t)
    (kept : WindowKept t u) (params : u.params = t.params) (tables : t.tablesHeld → u.tablesHeld) :
    RingCrossed limit s k j u where
  params := params.trans h.params
  boundaryMark := kept.boundaryMark.trans h.boundaryMark
  ring := kept.ring.trans h.ring
  above := h.above
  below := h.below
  tables := tables ∘ h.tables
  commitments held p v low high := (kept.commitment p v).trans (h.commitments held p v low high)
  passed later p := by
    rw [kept.obligation, kept.commitment, kept.window]
    exact h.passed later p

theorem deliver_ringCrossed {limit : Nat} {s : State} (positive : 0 < s.windowMs) {k : Nat} (t : State) (d x : Nat)
    (e : CalendarEvent) (h : ∃ j, RingCrossed limit s k j t) (raised : t.raises x e) (early : x ≤ limit) :
    ∃ j, RingCrossed limit s k j ((t.runAt d).deliver e) := by
  obtain ⟨j, crossed⟩ := h
  have params := deliver_params t d e
  have tables : t.tablesHeld → ((t.runAt d).deliver e).tablesHeld := (deliver_steady (t.runAt d) e).tables
  cases e with
  | gate p w =>
    exact ⟨j, crossed.of_kept ((runAt_windowKept t d).trans (closeGate_windowKept _ p w)) params tables⟩
  | arrival p time =>
    exact ⟨j, crossed.of_kept (((runAt_windowKept t d).trans (registerTime_windowKept _ p none)).trans
      (arrival_windowKept _ p time)) params tables⟩
  | boundary w =>
    obtain ⟨j', mark, rfl, rfl⟩ := raised
    have same := crossed.boundaryMark
    rw [mark] at same
    cases same
    have length : t.windowMs = s.windowMs := congrArg Params.windowMs crossed.params
    have reached := (boundary_raised_iff (by rw [length]; exact positive)).1 early
    rw [length] at reached
    have above := crossed.above
    exact ⟨j + 1, {
      params := params.trans crossed.params
      boundaryMark := (boundary_marksRise (t.runAt d) (j + 1)).boundaryMark
      ring := (boundary_book (t.runAt d) (j + 1)).1
      above := by omega
      below := le_trans reached (le_max_right _ _)
      tables := tables ∘ crossed.tables
      commitments := fun held p v low high =>
        (boundary_commitment (s := t.runAt d) (crossed.tables held) crossed.ring
          (show j ≤ v ∧ v ≤ j + 47 by omega) (show j + 1 ≤ v ∧ v ≤ j + 1 + 47 by omega)).trans
          (crossed.commitments held p v (by omega) high)
      passed := fun _ p => ⟨boundary_obligation (t.runAt d) (j + 1) p, (boundary_effect (t.runAt d) (j + 1) p).1⟩ }⟩

section
variable {s : State} {d m : Nat}

theorem stepForward_eq (s : State) (d m : Nat) :
    s.stepForward d m = ((s.runAt d).runCalendar (s.eventBound m) d m).runAt m := by
  rw [State.stepForward]

theorem runAt_nextEvent (s : State) (d limit : Nat) : (s.runAt d).nextEvent limit = s.nextEvent limit := rfl

/-- R43, R47: once the step is taken no event is due at the mark. -/
theorem stepForward_drained (banks : s.banksHeld) (params : s.paramsHeld) : (s.stepForward d m).nextEvent m = none := by
  have enough : (s.runAt d).eventsLeft ((m + 14400000) / s.windowMs) ≤ s.eventBound m := by
    refine (eventsLeft_le _ _).trans ?_
    unfold State.eventBound
    omega
  rw [stepForward_eq, runAt_nextEvent]
  exact runCalendar_drained (s := s.runAt d) _ d banks params (le_refl _) enough

theorem runCalendar_gateCrossed (params : s.paramsHeld) {p : Product} {g : Nat}
    (mark : s.time.gateMarks.get p = some g) (fuel : Nat) :
    GateCrossed m s p g (((s.runAt d).runCalendar fuel d m).runAt m) :=
  have start : GateCrossed m s p g (s.runAt d) := (GateCrossed.start mark).of_kept rfl rfl rfl
  (runCalendar_keeps (deliver_gateCrossed (windowMs_pos params)) fuel _ d start).of_kept rfl rfl rfl

theorem stepForward_gateCrossed (params : s.paramsHeld) {p : Product} {g : Nat}
    (mark : s.time.gateMarks.get p = some g) : GateCrossed m s p g (s.stepForward d m) := by
  rw [stepForward_eq]
  exact runCalendar_gateCrossed params mark _

theorem runCalendar_ringCrossed (params : s.paramsHeld) {k : Nat} (mark : s.time.boundaryMark = some k)
    (ring : s.book.ring = some k) (fuel : Nat) :
    ∃ j, RingCrossed m s k j (((s.runAt d).runCalendar fuel d m).runAt m) := by
  have start : RingCrossed m s k k s :=
    ⟨rfl, mark, ring, le_refl k, le_max_left _ _, id, fun _ _ _ _ _ => rfl, fun later => absurd later (lt_irrefl k)⟩
  have begun : ∃ j, RingCrossed m s k j (s.runAt d) := ⟨k, start.of_kept (runAt_windowKept s d) rfl id⟩
  obtain ⟨j, crossed⟩ := runCalendar_keeps (deliver_ringCrossed (windowMs_pos params)) fuel _ d begun
  exact ⟨j, crossed.of_kept (runAt_windowKept _ m) rfl id⟩

theorem stepForward_ringCrossed (params : s.paramsHeld) {k : Nat} (mark : s.time.boundaryMark = some k)
    (ring : s.book.ring = some k) : ∃ j, RingCrossed m s k j (s.stepForward d m) := by
  rw [stepForward_eq]
  exact runCalendar_ringCrossed params mark ring _

/-- R48: the gate marks after a step forward. -/
theorem stepForward_gateMark (banks : s.banksHeld) (params : s.paramsHeld) {p : Product} {g : Nat}
    (mark : s.time.gateMarks.get p = some g) :
    let closed := (m + ((s.stepForward d m).bank p).leadMs) / s.windowMs
    (∃ h, (s.stepForward d m).time.gateMarks.get p = some h ∧ g ≤ h ∧ closed ≤ h) ∧
    ((s.products.get p).staged = false → (s.stepForward d m).time.gateMarks.get p = some (max g closed)) := by
  intro closed
  have crossed := stepForward_gateCrossed (d := d) (m := m) params mark
  obtain ⟨h, found, le⟩ := crossed.rises
  have length : (s.stepForward d m).windowMs = s.windowMs := congrArg Params.windowMs crossed.params
  have reached : closed ≤ h := by
    have late := nextEvent_none (stepForward_drained (d := d) (m := m) banks params)
      (e := .gate p (h + 1)) ⟨h, found, rfl, rfl⟩
    by_contra short
    refine absurd ((gate_raised_iff ?_).2 ?_) (Nat.not_le_of_lt late)
    · rw [length]
      exact windowMs_pos params
    · rw [length]
      exact Nat.lt_of_not_le short
  refine ⟨⟨h, found, le, reached⟩, fun free => ?_⟩
  obtain ⟨context, bound⟩ := crossed.unstaged free
  have bank : (s.stepForward d m).bank p = s.bank p := congrArg ProductContext.active context
  have upper := bound h found
  rw [← bank] at upper
  rw [found, le_antisymm upper (max_le le reached)]

/-- R47, R97: the boundary mark after a step forward is that of the mark's window. -/
theorem stepForward_ring (banks : s.banksHeld) (params : s.paramsHeld) {k : Nat}
    (mark : s.time.boundaryMark = some k) (ring : s.book.ring = some k) :
    RingCrossed m s k (max k (m / s.windowMs)) (s.stepForward d m) := by
  obtain ⟨j, crossed⟩ := stepForward_ringCrossed (d := d) (m := m) params mark ring
  have length : (s.stepForward d m).windowMs = s.windowMs := congrArg Params.windowMs crossed.params
  have reached : m / s.windowMs ≤ j := by
    have late := nextEvent_none (stepForward_drained (d := d) (m := m) banks params)
      (e := .boundary (j + 1)) ⟨j, crossed.boundaryMark, rfl, rfl⟩
    by_contra short
    refine absurd ((boundary_raised_iff ?_).2 ?_) (Nat.not_le_of_lt late)
    · rw [length]
      exact windowMs_pos params
    · rw [length]
      exact Nat.lt_of_not_le short
  rwa [← le_antisymm crossed.below (max_le crossed.above reached)]

end

/-! ## CLOCK_MARK and HOLD_END (R42 to R46) -/

theorem execClockMark_take {s : State} {f : Frame} (head : s.gridHead .clockMark = some f) (length : f.payload.length = 6) :
    exec .clockMark s = .next ((s.dropHead .grid).takeMark (fieldAt f.payload 0 6)) := by
  change execClockMark s = _
  simp [execClockMark, head, length]

theorem takeMark_unset {s : State} (h : s.time.clock = .notSet) (m : Nat) : s.takeMark m = s.firstMark m := by
  simp [State.takeMark, State.deviceTime, h, Clock.device]

theorem takeMark_set {s : State} {d : Nat} (h : s.deviceTime = some d) (m : Nat) : s.takeMark m = s.laterMark d m := by
  simp [State.takeMark, h]

/-- R42: device time, the gate marks and the ring the first mark sets, before the Monitor takes it. -/
def State.marksSet (s : State) (m : Nat) : State :=
  { s with time := { s.time with
      clock := .running m
      gateMarks := PerProduct.ofFn (fun p => some (s.gateMarkAt p m))
      boundaryMark := some (s.windowOf m) } }.freshRing (s.windowOf m)

/-- R42, R152: the window records given the index of the first mark's window. -/
def State.windowsSet (s : State) (w : Nat) : State :=
  { s with monitor := { s.monitor with
      products := PerProduct.ofFn (fun p =>
        { s.mon p with current := { (s.mon p).current with window := some w } }) } }

theorem firstMark_eq (s : State) (m : Nat) :
    s.firstMark m = ((s.marksSet m).windowsSet (s.windowOf m)).evaluate false := rfl

theorem firstMark_current (s : State) (m : Nat) (p : Product) :
    ((s.firstMark m).mon p).current = { (s.mon p).current with window := some (s.windowOf m) } := by
  rw [firstMark_eq, (evaluate_evaluation _ false).measured p]
  simp only [State.windowsSet, State.mon, PerProduct.get_ofFn]
  rfl

/-- R42, R97: the ring of the first mark holds no commitment. -/
theorem firstMark_commitment (s : State) (m : Nat) (p : Product) (w : Nat) : (s.firstMark m).commitment p w = 0 := by
  have evaluated := (evaluate_evaluation ((s.marksSet m).windowsSet (s.windowOf m)) false).egress
  have empty : (s.firstMark m).book.commitments.get p = [] :=
    (congrArg (fun x => PerProduct.get x p) evaluated.commitments).trans (PerProduct.get_all _ p)
  simp only [State.commitment, empty]
  split
  · rfl
  · simp [Table.readOr]

theorem stepForward_of_none {s : State} {d m : Nat} (h : s.nextEvent m = none) : s.stepForward d m = s.runAt m := by
  rw [stepForward_eq, runCalendar_of_none (s := s.runAt d) h]
  rfl

/-- R43, R47: no event changes local time, the fleet or the parameters. -/
theorem runCalendar_steady (fuel : Nat) (s : State) (from0 limit : Nat) :
    (s.runCalendar fuel from0 limit).time.localTime = s.time.localTime ∧
    (s.runCalendar fuel from0 limit).fleet = s.fleet ∧ (s.runCalendar fuel from0 limit).params = s.params :=
  runCalendar_keeps (P := fun t => t.time.localTime = s.time.localTime ∧ t.fleet = s.fleet ∧ t.params = s.params)
    (fun t d x e h _ _ => by
      obtain ⟨localTime, fleet, params⟩ := h
      have steady := deliver_steady (t.runAt d) e
      exact ⟨steady.localTime.trans localTime, steady.fleet.trans fleet, steady.params.trans params⟩)
    fuel s from0 ⟨rfl, rfl, rfl⟩

theorem stepForward_frame (s : State) (d m : Nat) : (s.stepForward d m).time.localTime = s.time.localTime ∧
    (s.stepForward d m).fleet = s.fleet ∧ (s.stepForward d m).params = s.params := by
  have kept (fuel : Nat) : (((s.runAt d).runCalendar fuel d m).runAt m).time.localTime = s.time.localTime ∧
      (((s.runAt d).runCalendar fuel d m).runAt m).fleet = s.fleet ∧
      (((s.runAt d).runCalendar fuel d m).runAt m).params = s.params := runCalendar_steady fuel (s.runAt d) d m
  rw [stepForward_eq]
  exact kept _

end Sys2Proof.Machine

namespace Sys2Proof.Machine

/-- Settles O14: a mark ahead runs the calendar until no event is left below it; the other marks change the clock. -/
theorem clockMarkSetsStepsOrHoldsUntilHoldEnd : Obligations.ClockMarkSetsStepsOrHoldsUntilHoldEnd := by
  unfold Obligations.ClockMarkSetsStepsOrHoldsUntilHoldEnd
  refine ⟨fun s d held => ?_, fun s f head length => ?_⟩
  · change execHoldEnd s = _
    rw [execHoldEnd, held]
    rfl
  intro m u
  have taken : exec .clockMark s = .next (u.takeMark m) := execClockMark_take head length
  refine ⟨fun unset => ?_, fun d device => ?_⟩
  · rw [takeMark_unset (s := u) unset] at taken
    have frame := (evaluate_evaluation ((u.marksSet m).windowsSet (u.windowOf m)) false).egress
    exact ⟨u.firstMark m, taken, congrArg TimeBase.clock frame.time,
      fun p => (congrArg (fun x : TimeBase => x.gateMarks.get p) frame.time).trans (PerProduct.get_ofFn _ p),
      frame.ring, firstMark_commitment u m, firstMark_current u m, frame.activation, frame.fleet, frame.products,
      frame.census, frame.allocation, frame.params⟩
  · rw [takeMark_set (s := u) device] at taken
    refine ⟨fun ahead => ?_, fun ahead quiet => ?_, fun equal => ?_, fun behind near => ?_, fun behind far => ?_⟩
    · have step : u.laterMark d m = u.stepForward d m := if_pos ahead
      rw [step] at taken
      obtain ⟨localTime, fleet, params⟩ := stepForward_frame u d m
      refine ⟨u.stepForward d m, taken, by rw [stepForward_eq]; rfl, localTime, fleet, params, fun banks ranges => ?_⟩
      refine ⟨stepForward_drained (s := u) banks ranges,
        fun p g mark => stepForward_gateMark (s := u) banks ranges mark, fun k mark ring => ?_⟩
      have crossed := stepForward_ring (s := u) (d := d) (m := m) banks ranges mark ring
      refine ⟨crossed.boundaryMark, crossed.ring.trans crossed.boundaryMark.symm, crossed.commitments, fun later p => ?_⟩
      have window : max k (m / u.windowMs) = m / u.windowMs := max_eq_right later.le
      rw [window] at crossed
      exact crossed.passed later p
    · have step : u.laterMark d m = u.stepForward d m := if_pos ahead
      rw [step, stepForward_of_none (s := u) quiet] at taken
      exact taken
    · have same : u.laterMark d m = u.runAt d := (if_neg (by omega)).trans (if_pos equal)
      rw [same] at taken
      exact taken
    · have near' : d - m ≤ u.windowMs := near
      rw [State.laterMark, if_neg (by omega), if_neg (by omega), if_pos near'] at taken
      exact taken
    · have far' : ¬ d - m ≤ u.windowMs := Nat.not_le_of_lt far
      rw [State.laterMark, if_neg (by omega), if_neg (by omega), if_neg far'] at taken
      exact taken

end Sys2Proof.Machine

/-! # Proofs about the census: requests, sweep, clipping and publication

First the rules of sums, tables and the capacity-priority order (R58), then the statements. -/

namespace Sys2Proof.Machine

/-! ## Sums over lists -/

section Sums
variable {α : Type}

theorem sumOf_eq_sum_map (l : List α) (f : α → Nat) : sumOf l f = (l.map f).sum := by
  induction l with
  | nil => rfl
  | cons a l ih => simp [sumOf, ih]

theorem sumOf_append (l m : List α) (f : α → Nat) : sumOf (l ++ m) f = sumOf l f + sumOf m f := by
  simp [sumOf_eq_sum_map]

theorem sumOf_map {β : Type} (l : List β) (g : β → α) (f : α → Nat) :
    sumOf (l.map g) f = sumOf l (fun b => f (g b)) := by
  simp [sumOf_eq_sum_map, Function.comp_def]

theorem sumOf_congr {l : List α} {f g : α → Nat} (h : ∀ a ∈ l, f a = g a) : sumOf l f = sumOf l g := by
  rw [sumOf_eq_sum_map, sumOf_eq_sum_map, List.map_congr_left h]

theorem sumOf_perm {l m : List α} (h : l.Perm m) (f : α → Nat) : sumOf l f = sumOf m f := by
  rw [sumOf_eq_sum_map, sumOf_eq_sum_map]
  exact (h.map f).sum_eq

/-- Entries left out where the summand is 0 change no sum. -/
theorem sumOf_filter_of_zero (q : α → Bool) (l : List α) {f : α → Nat} (h : ∀ a ∈ l, q a = false → f a = 0) :
    sumOf (l.filter q) f = sumOf l f := by
  induction l with
  | nil => rfl
  | cons a l ih =>
    have rest := ih fun b hb => h b (.tail _ hb)
    cases ha : q a with
    | false => simp [ha, sumOf, rest, h a (.head _) ha]
    | true => simp [ha, sumOf, rest]

/-- A sum splits along a test of its entries. -/
theorem sumOf_filter_split (q : α → Bool) (l : List α) (f : α → Nat) :
    sumOf l f = sumOf (l.filter q) f + sumOf (l.filter (fun a => !q a)) f := by
  rw [← sumOf_append]
  exact sumOf_perm (List.filter_append_perm q l).symm f

theorem length_filter_eq_sumOf (l : List α) (q : α → Bool) :
    (l.filter q).length = sumOf l (fun a => if q a then 1 else 0) := by
  induction l with
  | nil => rfl
  | cons a l ih => cases ha : q a <;> simp [ha, sumOf, ih, Nat.add_comm]

end Sums

/-! ## Tables read entry by entry -/

/-- A table whose keys rise lists exactly the entries that its keys read as. -/
theorem Table.find_eq_some_iff {α : Type} {t : Table α} {low : Nat} (w : Table.risingFrom t low = true) (k : Nat)
    (a : α) : Table.find t k = some a ↔ (k, a) ∈ t := by
  refine ⟨Table.mem_of_find, fun listed => ?_⟩
  induction t generalizing low with
  | nil => cases listed
  | cons e rest ih =>
    obtain ⟨j, b⟩ := e
    simp only [Table.risingFrom, Bool.and_eq_true, decide_eq_true_eq] at w
    rcases List.mem_cons.1 listed with same | inRest
    · cases same
      simp [Table.find]
    · have found := ih w.2 inRest
      have above : j < k := by
        by_contra below
        rw [Table.find_below w.2 (by omega)] at found
        cases found
      have other : j ≠ k := by omega
      have notBelow : ¬ k < j := by omega
      simp [Table.find, other, notBelow, found]

/-- Leaving entries out leaves what a key reads as, where the test keeps it. -/
theorem Table.find_filter_iff {α : Type} (q : Nat × α → Bool) {t : Table α} {low : Nat}
    (w : Table.risingFrom t low = true) (k : Nat) (a : α) :
    Table.find (t.filter q) k = some a ↔ Table.find t k = some a ∧ q (k, a) = true := by
  rw [Table.find_eq_some_iff (Table.risingFrom_filter q w), Table.find_eq_some_iff w, List.mem_filter]

theorem Table.lt_of_mem_rising {α : Type} {t : Table α} {low : Nat} (w : Table.risingFrom t low = true) {e : Nat × α}
    (h : e ∈ t) : low ≤ e.1 := by
  by_contra below
  have found := (Table.find_eq_some_iff w e.1 e.2).2 h
  rw [Table.find_below w (by omega)] at found
  cases found

/-- Dropping a key leaves out the entry of that key. -/
theorem Table.drop_eq_filter {α : Type} {t : Table α} {low : Nat} (w : Table.risingFrom t low = true) (k : Nat) :
    Table.drop t k = t.filter (fun e => decide (e.1 ≠ k)) := by
  induction t generalizing low with
  | nil => rfl
  | cons e rest ih =>
    obtain ⟨j, b⟩ := e
    simp only [Table.risingFrom, Bool.and_eq_true, decide_eq_true_eq] at w
    have above : ∀ e ∈ rest, j < e.1 := fun e he => Table.lt_of_mem_rising w.2 he
    unfold Table.drop
    split
    · next same =>
      subst same
      rw [List.filter_cons_of_neg (by simp), List.filter_eq_self.2]
      intro e he
      simpa using Nat.ne_of_gt (above e he)
    · next other =>
      rw [List.filter_cons_of_pos (by simpa using other)]
      split
      · next below =>
        rw [List.filter_eq_self.2]
        intro e he
        have := above e he
        simp
        omega
      · rw [ih w.2]

/-- The entry of a key, as the table's entries of that key. -/
theorem Table.filter_key {α : Type} {t : Table α} {low : Nat} (w : Table.risingFrom t low = true) (k : Nat) :
    t.filter (fun e => decide (e.1 = k)) = ((Table.find t k).map (fun a => (k, a))).toList := by
  induction t generalizing low with
  | nil => rfl
  | cons e rest ih =>
    obtain ⟨j, b⟩ := e
    simp only [Table.risingFrom, Bool.and_eq_true, decide_eq_true_eq] at w
    have tail := ih w.2
    by_cases same : j = k
    · subst same
      rw [Table.find_below w.2 (by omega)] at tail
      simp only [List.filter_cons, decide_true, if_true, tail]
      simp [Table.find]
    · rw [List.filter_cons_of_neg (by simpa using same), tail]
      by_cases below : k < j
      · rw [Table.find_below w.2 (by omega)]
        simp [Table.find, same, below]
      · simp [Table.find, same, below]

/-- A sum over a table's entries is the sum over its keys, where an unlisted key counts nothing. -/
theorem sumOf_table {α : Type} (d : α) (f : α → Nat) (zero : f d = 0) (n : Nat) {t : Table α} {low : Nat}
    (w : Table.risingFrom t low = true) (bound : ∀ e ∈ t, e.1 < low + n) :
    sumOf t (fun e => f e.2) = sumOf (List.range' low n) (fun k => f (Table.readOr t d k)) := by
  induction n generalizing t low with
  | zero =>
    cases t with
    | nil => rfl
    | cons e rest =>
      have := Table.lt_of_mem_rising w (e := e) (.head _)
      have := bound e (.head _)
      omega
  | succ n ih =>
    rw [List.range'_succ]
    cases t with
    | nil => simpa [sumOf, Table.readOr, zero] using ih (t := []) (low := low + 1) rfl (by simp)
    | cons e rest =>
      obtain ⟨j, a⟩ := e
      simp only [Table.risingFrom, Bool.and_eq_true, decide_eq_true_eq] at w
      obtain ⟨atLeast, rising⟩ := w
      by_cases first : j = low
      · subst first
        have tail := ih rising fun e he => by have := bound e (.tail _ he); omega
        have later : sumOf (List.range' (j + 1) n) (fun k => f (Table.readOr rest d k)) =
            sumOf (List.range' (j + 1) n) (fun k => f (Table.readOr ((j, a) :: rest) d k)) := by
          refine sumOf_congr fun k hk => ?_
          have above := (List.mem_range'_1.1 hk).1
          have other : j ≠ k := by omega
          have notBelow : ¬ k < j := by omega
          simp [Table.readOr, Table.find, other, notBelow]
        simp only [sumOf, tail, later]
        simp [Table.readOr, Table.find]
      · have above : low < j := by omega
        have tail := ih (t := (j, a) :: rest) (low := low + 1)
          (by simp only [Table.risingFrom, Bool.and_eq_true, decide_eq_true_eq]; exact ⟨by omega, rising⟩)
          fun e he => by have := bound e he; omega
        rw [tail]
        simp [sumOf, Table.readOr, Table.find, first, above, zero]

theorem Table.sorted_of_rising {α : Type} {t : Table α} {low : Nat} (w : Table.risingFrom t low = true) :
    t.Pairwise (fun a b => a.1 < b.1) := by
  induction t generalizing low with
  | nil => exact .nil
  | cons e rest ih =>
    simp only [Table.risingFrom, Bool.and_eq_true, decide_eq_true_eq] at w
    exact List.pairwise_cons.2 ⟨fun x hx => Table.lt_of_mem_rising w.2 hx, ih w.2⟩

/-- Entries in rising order of their keys make a table. -/
theorem Table.risingFrom_of_sorted {α : Type} {t : Table α} (low : Nat) (above : ∀ e ∈ t, low ≤ e.1)
    (sorted : t.Pairwise (fun a b => a.1 < b.1)) : Table.risingFrom t low = true := by
  induction t generalizing low with
  | nil => rfl
  | cons e rest ih =>
    rw [List.pairwise_cons] at sorted
    simp only [Table.risingFrom, Bool.and_eq_true, decide_eq_true_eq]
    exact ⟨above e (.head _), ih (e.1 + 1) (fun x hx => sorted.1 x hx) sorted.2⟩

section Written
variable {α : Type} [DecidableEq α]

/-- Values put in rising order of their keys, those equal to the unlisted value left out. -/
def listedValues {β : Type} (key : β → Nat) (value : β → α) (d : α) (l : List β) : Table α :=
  l.filterMap (fun b => if value b = d then none else some (key b, value b))

variable {β : Type} {key : β → Nat} {value : β → α} {d : α} {l : List β}

theorem mem_listedValues (k : Nat) (a : α) :
    (k, a) ∈ listedValues key value d l ↔ ∃ b ∈ l, key b = k ∧ value b = a ∧ value b ≠ d := by
  simp only [listedValues, List.mem_filterMap]
  constructor
  · rintro ⟨b, hb, made⟩
    split at made
    · cases made
    · next listed =>
      cases made
      exact ⟨b, hb, rfl, rfl, listed⟩
  · rintro ⟨b, hb, rfl, rfl, listed⟩
    exact ⟨b, hb, if_neg listed⟩

theorem listedValues_wf (sorted : l.Pairwise (fun a b => key a < key b)) :
    Table.wf (listedValues key value d l) = true := by
  refine Table.risingFrom_of_sorted 0 (fun _ _ => Nat.zero_le _) ?_
  refine sorted.filterMap _ fun a b below x hx y hy => ?_
  split at hx
  · cases hx
  · split at hy
    · cases hy
    · cases hx
      cases hy
      exact below

theorem readOr_listedValues (sorted : l.Pairwise (fun a b => key a < key b)) {b : β} (hb : b ∈ l) :
    Table.readOr (listedValues key value d l) d (key b) = value b := by
  have listed := Table.find_eq_some_iff (listedValues_wf (value := value) (d := d) sorted) (key b)
  unfold Table.readOr
  by_cases zero : value b = d
  · have distinct : (l.map key).Nodup := (List.pairwise_map.2 sorted).imp Nat.ne_of_lt
    cases found : Table.find (listedValues key value d l) (key b) with
    | none => exact zero.symm
    | some a =>
      obtain ⟨c, hc, keys, rfl, other⟩ := (mem_listedValues _ _).1 ((listed a).1 found)
      rw [List.inj_on_of_nodup_map distinct hc hb keys]
      rfl
  · rw [(listed (value b)).2 ((mem_listedValues _ _).2 ⟨b, hb, rfl, rfl, zero⟩)]
    rfl

theorem readOr_listedValues_none {k : Nat} (absent : ∀ b ∈ l, key b ≠ k) :
    Table.readOr (listedValues key value d l) d k = d := by
  unfold Table.readOr
  cases found : Table.find (listedValues key value d l) k with
  | none => rfl
  | some a =>
    obtain ⟨b, hb, keys, -⟩ := (mem_listedValues k a).1 (Table.mem_of_find found)
    exact absurd keys (absent b hb)

/-- Writing a value at each key of a list. -/
theorem readOr_foldl_writeOr (value : Nat → α) {t : Table α} (w : Table.wfOr t d = true) (l : List Nat) (k : Nat) :
    Table.readOr (l.foldl (fun t j => Table.writeOr t d j (value j)) t) d k =
      if k ∈ l then value k else Table.readOr t d k := by
  induction l using List.reverseRecOn with
  | nil => simp
  | append_singleton l j ih =>
    have wf := Table.wf_of_wfOr (Table.wfOr_foldl_writeOr (d := d) id (fun _ j => value j) l w)
    simp only [id] at wf
    simp only [List.foldl_append, List.foldl_cons, List.foldl_nil]
    by_cases same : k = j
    · subst same
      simp [Table.readOr_writeOr_same wf]
    · simp [Table.readOr_writeOr_other wf same, same, ih]

end Written

/-! ## The capacity-priority order (R58) -/

/-- R58: product `a` stands before product `b` in capacity-priority order. -/
def standsBefore (priority : Product → Nat) (a b : Product) : Bool :=
  decide (priority a < priority b) || (decide (priority a = priority b) && decide (a < b))

theorem standsBefore_iff (priority : Product → Nat) (a b : Product) :
    standsBefore priority a b = true ↔ priority a < priority b ∨ (priority a = priority b ∧ a < b) := by
  simp [standsBefore]

theorem standsBefore_asymm {priority : Product → Nat} {a b : Product} (h : standsBefore priority a b = true) :
    ¬ standsBefore priority b a = true := by
  rw [standsBefore_iff] at h ⊢
  rcases h with less | ⟨same, lower⟩
  · omega
  · have := lt_asymm lower
    simp [same, this]

theorem insertOrdered_perm {α : Type} (before : α → α → Bool) (a : α) (l : List α) :
    (insertOrdered before a l).Perm (a :: l) := by
  induction l with
  | nil => exact .refl _
  | cons b l ih =>
    unfold insertOrdered
    split
    · exact .refl _
    · exact (ih.cons b).trans (.swap a b l)

theorem ordered_perm {α : Type} (before : α → α → Bool) (l : List α) : (ordered before l).Perm l := by
  have step (l m : List α) : (l.foldl (fun acc a => insertOrdered before a acc) m).Perm (l ++ m) := by
    induction l generalizing m with
    | nil => exact .refl _
    | cons a l ih => exact (ih _).trans (((insertOrdered_perm before a m).append_left l).trans List.perm_middle)
  simpa [ordered] using step l []

/-- R58: a product of higher number goes after those of its own priority. -/
theorem insertOrdered_sorted (priority : Product → Nat) (a : Product) {l : List Product}
    (sorted : l.Pairwise (fun x y => standsBefore priority x y = true)) (lower : ∀ x ∈ l, x < a) :
    (insertOrdered (fun x y => decide (priority x < priority y)) a l).Pairwise
      (fun x y => standsBefore priority x y = true) := by
  induction l with
  | nil => simp [insertOrdered]
  | cons b l ih =>
    have order := List.pairwise_cons.1 sorted
    unfold insertOrdered
    split
    · next less =>
      refine List.pairwise_cons.2 ⟨fun x hx => (standsBefore_iff ..).2 (.inl ?_), sorted⟩
      have less : priority a < priority b := of_decide_eq_true less
      rcases List.mem_cons.1 hx with rfl | hx
      · exact less
      · have := (standsBefore_iff ..).1 (order.1 x hx)
        omega
    · next notLess =>
      refine List.pairwise_cons.2 ⟨fun x hx => ?_, ih order.2 fun x hx => lower x (.tail _ hx)⟩
      rcases List.mem_cons.1 ((insertOrdered_perm _ a l).mem_iff.1 hx) with rfl | hx
      · have notLess : ¬ priority x < priority b := by simpa using notLess
        have atLeast := Nat.lt_or_eq_of_le (not_lt.1 notLess)
        exact (standsBefore_iff ..).2 (atLeast.imp_right fun e => ⟨e, lower b (.head _)⟩)
      · exact order.1 x hx

theorem priorityOrder_perm (priority : Product → Nat) : (priorityOrder priority).Perm allProducts := ordered_perm _ _

/-- R58: ascending capacity priority, then ascending product number. -/
theorem priorityOrder_sorted (priority : Product → Nat) :
    (priorityOrder priority).Pairwise (fun x y => standsBefore priority x y = true) := by
  have step (l m : List Product) (sorted : m.Pairwise (fun x y => standsBefore priority x y = true))
      (rising : l.Pairwise (· < ·)) (lower : ∀ x ∈ m, ∀ y ∈ l, x < y) :
      (l.foldl (fun acc a => insertOrdered (fun x y => decide (priority x < priority y)) a acc) m).Pairwise
        (fun x y => standsBefore priority x y = true) := by
    induction l generalizing m with
    | nil => exact sorted
    | cons a l ih =>
      have order := List.pairwise_cons.1 rising
      refine ih _ (insertOrdered_sorted priority a sorted fun x hx => lower x hx a (.head _)) order.2 fun x hx y hy => ?_
      rcases List.mem_cons.1 ((insertOrdered_perm _ a m).mem_iff.1 hx) with rfl | hx
      · exact order.1 y hy
      · exact lower x hx y (.tail _ hy)
  exact step allProducts [] .nil (by decide) (by simp)

theorem CensusRun.mem_order (run : CensusRun) (p : Product) : p ∈ run.order ↔ (run.banks.get p).enabled = true := by
  simp [CensusRun.order, (priorityOrder_perm _).mem_iff, mem_allProducts]

theorem CensusRun.order_nodup (run : CensusRun) : run.order.Nodup :=
  ((priorityOrder_perm _).nodup_iff.2 (by decide)).filter _

/-- R58: the products of a run that stand before `p`, as the run's order and as the conditions on their banks list
them. -/
theorem CensusRun.before_perm (run : CensusRun) {pre post : List Product} {p : Product}
    (split : run.order = pre ++ p :: post) (q : Product → Bool) :
    (pre.filter q).Perm (allProducts.filter (fun a => (run.banks.get a).enabled && q a &&
      standsBefore (fun b => (run.banks.get b).priority) a p)) := by
  have nodup := run.order_nodup
  have sorted : run.order.Pairwise (fun x y => standsBefore (fun b => (run.banks.get b).priority) x y = true) :=
    (priorityOrder_sorted _).filter _
  have irrefl : ∀ a, standsBefore (fun b => (run.banks.get b).priority) a a = false := by simp [standsBefore]
  rw [split] at nodup sorted
  obtain ⟨preNodup, -, -⟩ := List.nodup_append.1 nodup
  obtain ⟨-, tail, cross⟩ := List.pairwise_append.1 sorted
  refine (List.perm_ext_iff_of_nodup (preNodup.filter _) (List.Nodup.filter _ (by decide))).2 fun a => ?_
  have listed : (run.banks.get a).enabled = true ↔ a ∈ pre ∨ a = p ∨ a ∈ post := by
    rw [← run.mem_order, split]
    simp
  have earlier : a ∈ pre ↔
      (run.banks.get a).enabled = true ∧ standsBefore (fun b => (run.banks.get b).priority) a p = true := by
    rw [listed]
    constructor
    · exact fun h => ⟨.inl h, cross a h p (.head _)⟩
    · rintro ⟨h | rfl | h, first⟩
      · exact h
      · simp [irrefl] at first
      · exact absurd first (standsBefore_asymm ((List.pairwise_cons.1 tail).1 a h))
  simp only [List.mem_filter, mem_allProducts, true_and, Bool.and_eq_true, earlier]
  tauto

end Sys2Proof.Machine

namespace Sys2Proof.Machine

/-! ## Census requests and starts (R62 to R66) -/

/-- R66: a full run latches the Feeder Table's caps. -/
theorem latchedCaps_full (s : State) {f : Nat} (h : f < 64) :
    Table.readOr (s.latchedCaps .full) Caps.zero f = s.feederCaps f :=
  readOr_listedValues (key := id) (value := s.feederCaps) List.pairwise_lt_range (List.mem_range.2 h)

/-- The caps of the Roster's feeder records, as a select run latches them. -/
def Roster.latchedCaps (r : Roster) : Table Caps := listedValues (fun e => e.1) (fun e => e.2.caps) Caps.zero r.feeders

theorem latchedCaps_select {s : State} {x : Publication} (h : s.census.published = some x) (f : Nat) :
    s.latchedCaps (.select f) = Table.writeOr x.roster.latchedCaps Caps.zero f (s.feederCaps f) := by
  simp only [State.latchedCaps, h]
  rfl

/-- R66: the Roster in force gives each feeder the caps of its record. -/
theorem Roster.readOr_latchedCaps {r : Roster} (w : Table.wf r.feeders = true) (g : Nat) :
    Table.readOr r.latchedCaps Caps.zero g = (Table.readOr r.feeders FeederRecord.zero g).caps := by
  have sorted := Table.sorted_of_rising w
  cases found : Table.find r.feeders g with
  | none =>
    have absent : ∀ e ∈ r.feeders, e.1 ≠ g := by
      rintro ⟨k, a⟩ he rfl
      rw [(Table.find_eq_some_iff w k a).2 he] at found
      cases found
    rw [Roster.latchedCaps, readOr_listedValues_none absent, Table.readOr, found]
    rfl
  | some a =>
    have listed := readOr_listedValues (key := fun e : Nat × FeederRecord => e.1) (value := fun e => e.2.caps)
      (d := Caps.zero) sorted (Table.mem_of_find found)
    rw [Table.readOr.eq_1 r.feeders, found]
    exact listed

/-- R66: a select run latches its own feeder's caps from the Feeder Table and the others' from the Roster. -/
theorem readOr_latchedCaps_select {s : State} {x : Publication} (published : s.census.published = some x)
    (w : Table.wf x.roster.feeders = true) (f : Nat) :
    Table.readOr (s.latchedCaps (.select f)) Caps.zero f = s.feederCaps f ∧
    ∀ g, g ≠ f → Table.readOr (s.latchedCaps (.select f)) Caps.zero g =
      (Table.readOr x.roster.feeders FeederRecord.zero g).caps := by
  have wf : Table.wf x.roster.latchedCaps = true := listedValues_wf (Table.sorted_of_rising w)
  rw [latchedCaps_select published]
  refine ⟨Table.readOr_writeOr_same wf f _, fun g other => ?_⟩
  rw [Table.readOr_writeOr_other wf other, Roster.readOr_latchedCaps w]

/-- R65: a due expiry is taken. -/
theorem execCensusIntervalExpiry_due {s : State} (due : s.census.timerExpiry ≤ s.localTime) :
    exec .censusIntervalExpiry s = .next s.censusTimerExpires :=
  congrArg _ (if_pos (decide_eq_true due))

theorem execRequestCensus_run {s : State} {r : PendingRequest} (next : s.nextOf 21 = some r)
    (length : r.payload.length = 3) : exec .requestCensus s = .next (s.takeRequest.requestCensus r) :=
  congrArg _ (request_run next length)

section
variable {s : State} {f : Nat}

/-- R63: the first census after a start, and one after a bank switch, is full. -/
theorem selectKind_full (h : s.census.published = none ∨ s.census.banksSwitched = true) : s.selectKind f = .full := by
  rcases h with none | switched
  · simp [State.selectKind, none]
  · simp [State.selectKind, switched]

theorem selectKind_select (published : s.census.published.isSome = true) (kept : s.census.banksSwitched = false) :
    s.selectKind f = .select f := by
  cases h : s.census.published with
  | none => simp [h] at published
  | some x => simp [State.selectKind, h, kept]

/-! ### A select request (R63, R64) -/

theorem requestSelect_idle_full (idle : s.census.run = none) (h : s.selectKind f = .full) :
    s.requestSelect f = (s.startRun .full, .startedFull) := by
  simp [State.requestSelect, idle, h]

theorem requestSelect_idle_select (idle : s.census.run = none) (h : s.selectKind f = .select f) :
    s.requestSelect f = (s.startRun (.select f), .startedSelect) := by
  simp [State.requestSelect, idle, h]

theorem requestSelect_absorbed (running : s.census.run.isSome = true) (full : s.census.fullPending = true) :
    s.requestSelect f = (s, .absorbed) := by
  simp [State.requestSelect, running, full]

theorem requestSelect_pends (running : s.census.run.isSome = true) (free : s.census.fullPending = false)
    (none : s.census.selectPending = none) :
    s.requestSelect f = ({ s with census := { s.census with selectPending := some f } }, .pendingSelect) := by
  simp [State.requestSelect, running, free, none]

theorem requestSelect_same (running : s.census.run.isSome = true) (free : s.census.fullPending = false)
    (same : s.census.selectPending = some f) : s.requestSelect f = (s, .pendingSelect) := by
  simp [State.requestSelect, running, free, same]

theorem requestSelect_other {g : Nat} (running : s.census.run.isSome = true) (free : s.census.fullPending = false)
    (held : s.census.selectPending = some g) (other : g ≠ f) : s.requestSelect f =
      ({ s with census := { s.census with fullPending := true, selectPending := none } }, .pendingFull) := by
  simp [State.requestSelect, running, free, held, other]

theorem requestFull_startedFull (idle : s.census.run = none) : s.requestFull = (s.startRun .full, .startedFull) := by
  simp [State.requestFull, idle]

theorem requestFull_pendingFull (running : s.census.run.isSome = true) : s.requestFull =
    ({ s with census := { s.census with fullPending := true, selectPending := none } }, .pendingFull) := by
  simp [State.requestFull, running]

/-! ### The request's octets (R62) -/

variable {r : PendingRequest}

theorem requestCensus_refused
    (h : 1 < fieldAt r.payload 1 1 ∨ (fieldAt r.payload 1 1 = 1 ∧ 63 < fieldAt r.payload 2 1)) :
    s.requestCensus r = s.respond r (some .badField) [] := by
  unfold State.requestCensus
  rcases h with unlisted | ⟨present, above⟩
  · have notZero : fieldAt r.payload 1 1 ≠ 0 := by omega
    have notOne : fieldAt r.payload 1 1 ≠ 1 := by omega
    simp [optionOctet, notZero, notOne]
  · have outside : ¬ fieldAt r.payload 2 1 < Config.feeders := Nat.not_lt_of_le above
    simp [present, optionOctet, outside]

/-- R62: the answer carries the disposition in one octet. -/
theorem Disposition.octets_code (d : Disposition) : octetsOf 1 d.code = [d.code] := by
  cases d <;> rfl

theorem requestCensus_full {t : State} {d : Disposition} (absent : fieldAt r.payload 1 1 = 0)
    (taken : s.requestFull = (t, d)) : s.requestCensus r = t.respond r none [d.code] := by
  simp [State.requestCensus, absent, optionOctet, taken, d.octets_code]

theorem requestCensus_select {t : State} {d : Disposition} (present : fieldAt r.payload 1 1 = 1)
    (feeder : fieldAt r.payload 2 1 ≤ 63) (taken : s.requestSelect (fieldAt r.payload 2 1) = (t, d)) :
    s.requestCensus r = t.respond r none [d.code] := by
  have inside : fieldAt r.payload 2 1 < Config.feeders := Nat.lt_of_le_of_lt feeder (by decide)
  simp [State.requestCensus, present, optionOctet, inside, taken, d.octets_code]

end

/-- Settles O29: the table of R64, row by row, over the reading of the request's octets. -/
theorem censusRequestsStartOrPend : Obligations.CensusRequestsStartOrPend := by
  unfold Obligations.CensusRequestsStartOrPend
  refine ⟨fun s f => ⟨latchedCaps_full s, fun x published w =>
    readOr_latchedCaps_select published (Table.wf_of_wfOr w) f⟩, fun s due => ⟨fun idle => ?_, fun running => ?_⟩,
    fun s r next length => ?_⟩
  · rw [execCensusIntervalExpiry_due due, State.censusTimerExpires, requestFull_idle idle]
    rfl
  · rw [execCensusIntervalExpiry_due due, State.censusTimerExpires, requestFull_running running]
  · rw [execRequestCensus_run next length]
    refine ⟨fun bad => ?_, fun absent idle => ?_, fun absent running => ?_, fun present feeder idle => ⟨fun first => ?_,
      fun published kept => ?_⟩, fun present feeder running => ⟨fun full => ?_, fun free none => ?_, fun free same => ?_,
      fun g free held other => ?_⟩⟩
    · rw [requestCensus_refused bad]
    · exact congrArg _ (requestCensus_full absent (requestFull_startedFull (s := s.takeRequest) idle))
    · exact congrArg _ (requestCensus_full absent (requestFull_pendingFull (s := s.takeRequest) running))
    · exact congrArg _ (requestCensus_select present feeder
        (requestSelect_idle_full (s := s.takeRequest) idle (selectKind_full first)))
    · exact congrArg _ (requestCensus_select present feeder
        (requestSelect_idle_select (s := s.takeRequest) idle (selectKind_select published kept)))
    · exact congrArg _ (requestCensus_select present feeder
        (requestSelect_absorbed (s := s.takeRequest) running full))
    · exact congrArg _ (requestCensus_select present feeder
        (requestSelect_pends (s := s.takeRequest) running free none))
    · exact congrArg _ (requestCensus_select present feeder
        (requestSelect_same (s := s.takeRequest) running free same))
    · exact congrArg _ (requestCensus_select present feeder
        (requestSelect_other (s := s.takeRequest) running free held other))

end Sys2Proof.Machine

namespace Sys2Proof.Machine

/-! ## The shares of one site (R69, R70) -/

/-- What a site has left of its headroom in a direction. -/
def SiteRoom.head (room : SiteRoom) (d : Direction) : Nat :=
  match d with
  | .up => room.headUp
  | .down => room.headDown

/-- What a site has left of its budget in a direction. -/
def SiteRoom.budget (room : SiteRoom) (d : Direction) : Nat :=
  match d with
  | .up => room.budUp
  | .down => room.budDown

/-- R70, step 3: derating raises nothing. -/
theorem derated_le (p : Params) (age raw : Nat) : derated p age raw ≤ raw := by
  unfold derated
  split
  · exact le_rfl
  · next old =>
    have less : p.fStale - age ≤ p.fStale - p.fFresh := by omega
    calc raw * (p.fStale - age) / (p.fStale - p.fFresh)
        ≤ raw * (p.fStale - p.fFresh) / (p.fStale - p.fFresh) := Nat.div_le_div_right (Nat.mul_le_mul_left raw less)
      _ ≤ raw := Nat.div_le_of_le_mul (Nat.mul_comm .. ▸ le_rfl)

theorem contribution_le_headroom (p : Params) (age h b t : Nat) : contribution p age h b t ≤ h :=
  (derated_le p age _).trans (Nat.min_le_left _ _)

/-- R70, step 4: a contribution's energy, rounded up, stays within the budget it was read from. -/
theorem energyDrawn_contribution_le (p : Params) (age h b t : Nat) : energyDrawn (contribution p age h b t) t ≤ b := by
  have power : contribution p age h b t ≤ b * 3600 / t := (derated_le p age _).trans (Nat.min_le_right _ _)
  have energy : contribution p age h b t * t ≤ b * 3600 :=
    (Nat.mul_le_mul_right t power).trans (Nat.div_mul_le_self _ _)
  unfold energyDrawn
  omega

/-! ### One product's draw -/

section Draw
variable (p : Params) (age : Nat) (bank : Bank) (room : SiteRoom)

/-- R70: the share is the contribution of what is left in the product's direction. -/
theorem drawProduct_share : (drawProduct p age bank room).1 =
    contribution p age (room.head bank.direction) (room.budget bank.direction) bank.endurance := by
  cases h : bank.direction <;> simp [drawProduct, h, SiteRoom.head, SiteRoom.budget]

/-- R70, step 4: the share is taken from the headroom of the product's direction. -/
theorem drawProduct_head (d : Direction) : (drawProduct p age bank room).2.head d +
    (if bank.direction = d then (drawProduct p age bank room).1 else 0) = room.head d := by
  have within := contribution_le_headroom p age (room.head d) (room.budget d) bank.endurance
  cases h : bank.direction <;> cases d <;> simp_all [drawProduct, SiteRoom.head, SiteRoom.budget]

/-- R70, step 4: the share's energy is taken from the budget of the product's direction. -/
theorem drawProduct_budget (d : Direction) : (drawProduct p age bank room).2.budget d +
    (if bank.direction = d then energyDrawn (drawProduct p age bank room).1 bank.endurance else 0) = room.budget d := by
  have within := energyDrawn_contribution_le p age (room.head d) (room.budget d) bank.endurance
  cases h : bank.direction <;> cases d <;> simp_all [drawProduct, SiteRoom.head, SiteRoom.budget]

end Draw

/-! ### Product after product -/

section Shares
variable (p : Params) (age : Nat) (banks : PerProduct Bank) (participation : BitVec 8) (room : SiteRoom)

/-- The products of a direction that a site draws for. -/
def draws (d : Direction) (q : Product) : Bool := participation.getLsbD q.val && decide ((banks.get q).direction = d)

theorem siteShares_concat (l : List Product) (q : Product) :
    siteShares p age banks participation (l ++ [q]) room =
      (let before := siteShares p age banks participation l room
       if participation.getLsbD q.val then
         (before.1.set q (drawProduct p age (banks.get q) before.2).1, (drawProduct p age (banks.get q) before.2).2)
       else before) := by
  simp [siteShares, List.foldl_append]

/-- A product outside the list, or that the site takes no part in, has share 0. -/
theorem siteShares_undrawn (l : List Product) (q : Product) (h : q ∉ l ∨ participation.getLsbD q.val = false) :
    (siteShares p age banks participation l room).1.get q = 0 := by
  induction l using List.reverseRecOn with
  | nil => simp [siteShares]
  | append_singleton l a ih =>
    rw [siteShares_concat]
    dsimp only
    split
    · next part =>
      have other : q ≠ a := by
        rintro rfl
        rcases h with h | h
        · simp at h
        · exact Bool.false_ne_true (h.symm.trans part)
      rw [PerProduct.get_set, if_neg other]
      exact ih (h.imp_left fun h => by simp_all)
    · exact ih (h.imp_left fun h => by simp_all)

/-- The products that follow leave a share as it was drawn. -/
theorem siteShares_append (l m : List Product) (q : Product) (h : q ∉ m) :
    (siteShares p age banks participation (l ++ m) room).1.get q =
      (siteShares p age banks participation l room).1.get q := by
  induction m using List.reverseRecOn with
  | nil => simp
  | append_singleton m a ih =>
    rw [← List.append_assoc, siteShares_concat]
    dsimp only
    have inM : q ∉ m := fun hq => h (by simp [hq])
    split
    · have other : q ≠ a := fun same => h (by simp [same])
      rw [PerProduct.get_set, if_neg other, ih inM]
    · exact ih inM

/-- A quantity that each draw takes from what is left is shared out exactly: what the products of a list drew in a
direction and what they left make up the room. -/
theorem siteShares_conserves (left : SiteRoom → Nat) (drawn : Product → Nat → Nat) (d : Direction)
    (step : ∀ (q : Product) (room : SiteRoom), left (drawProduct p age (banks.get q) room).2 +
      (if (banks.get q).direction = d then drawn q (drawProduct p age (banks.get q) room).1 else 0) = left room)
    (l : List Product) (nodup : l.Nodup) :
    sumOf (l.filter (draws banks participation d))
        (fun q => drawn q ((siteShares p age banks participation l room).1.get q)) +
      left (siteShares p age banks participation l room).2 = left room := by
  induction l using List.reverseRecOn with
  | nil => simp [siteShares, sumOf]
  | append_singleton l a ih =>
    obtain ⟨nodupInit, -, apart⟩ := List.nodup_append.1 nodup
    have fresh : a ∉ l := fun h => apart a h a (by simp) rfl
    have kept : ∀ q ∈ l.filter (draws banks participation d),
        drawn q ((siteShares p age banks participation (l ++ [a]) room).1.get q) =
          drawn q ((siteShares p age banks participation l room).1.get q) := by
      intro q hq
      have other : q ≠ a := fun same => fresh (same ▸ List.mem_of_mem_filter hq)
      rw [siteShares_append p age banks participation room l [a] q (by simpa using other)]
    rw [List.filter_append, sumOf_append, sumOf_congr kept]
    have taken := step a (siteShares p age banks participation l room).2
    have whole := ih nodupInit
    rw [siteShares_concat]
    dsimp only
    cases part : participation.getLsbD a.val with
    | false =>
      have skipped : draws banks participation d a = false := by simp only [draws, part, Bool.false_and]
      simpa [skipped, sumOf] using whole
    | true =>
      have drawn : draws banks participation d a = decide ((banks.get a).direction = d) := by
        simp only [draws, part, Bool.true_and]
      by_cases along : (banks.get a).direction = d
      · simp only [drawn, along, decide_true, List.filter_cons, List.filter_nil, if_true, sumOf,
          PerProduct.get_set] at taken ⊢
        omega
      · simp only [drawn, along, decide_false, List.filter_cons, List.filter_nil, if_true, if_false, sumOf,
          PerProduct.get_set, Bool.false_eq_true] at taken ⊢
        omega

theorem siteShares_head (d : Direction) (l : List Product) (nodup : l.Nodup) :
    sumOf (l.filter (draws banks participation d)) (siteShares p age banks participation l room).1.get +
      (siteShares p age banks participation l room).2.head d = room.head d :=
  siteShares_conserves p age banks participation room (fun r => r.head d) (fun _ c => c) d
    (fun q r => drawProduct_head p age (banks.get q) r d) l nodup

theorem siteShares_budget (d : Direction) (l : List Product) (nodup : l.Nodup) :
    sumOf (l.filter (draws banks participation d))
        (fun q => energyDrawn ((siteShares p age banks participation l room).1.get q) (banks.get q).endurance) +
      (siteShares p age banks participation l room).2.budget d = room.budget d :=
  siteShares_conserves p age banks participation room (fun r => r.budget d)
    (fun q c => energyDrawn c (banks.get q).endurance) d (fun q r => drawProduct_budget p age (banks.get q) r d) l nodup

/-- R70: a share is the contribution of what the products before it left. -/
theorem siteShares_get (pre post : List Product) (q : Product) (nodup : (pre ++ q :: post).Nodup)
    (part : participation.getLsbD q.val = true) :
    (siteShares p age banks participation (pre ++ q :: post) room).1.get q =
      contribution p age ((siteShares p age banks participation pre room).2.head (banks.get q).direction)
        ((siteShares p age banks participation pre room).2.budget (banks.get q).direction) (banks.get q).endurance := by
  have last : q ∉ post := (List.nodup_cons.1 (List.nodup_append.1 nodup).2.1).1
  rw [List.append_cons, siteShares_append _ _ _ _ _ _ _ _ last, siteShares_concat]
  simp [part, drawProduct_share]

end Shares

/-- A sum over the products of a direction, where the summand is 0 for those the run's order does not draw for. -/
theorem CensusRun.sumOf_along (run : CensusRun) (participation : BitVec 8) (d : Direction) (f : Product → Nat)
    (zero : ∀ q, q ∉ run.order ∨ participation.getLsbD q.val = false → f q = 0) :
    sumOf (allProducts.filter (fun q => decide ((run.banks.get q).direction = d))) f =
      sumOf (run.order.filter (draws run.banks participation d)) f := by
  have perm : (run.order.filter (draws run.banks participation d)).Perm
      ((allProducts.filter (fun q => decide ((run.banks.get q).direction = d))).filter
        (fun q => decide (q ∈ run.order) && participation.getLsbD q.val)) := by
    refine (List.perm_ext_iff_of_nodup (run.order_nodup.filter _)
      (List.Nodup.filter _ (List.Nodup.filter _ (by decide)))).2 fun q => ?_
    simp only [draws, List.mem_filter, mem_allProducts, true_and, Bool.and_eq_true, decide_eq_true_eq]
    tauto
  rw [sumOf_perm perm]
  refine (sumOf_filter_of_zero _ _ fun q _ h => zero q ?_).symm
  simpa [Classical.or_iff_not_imp_left] using h

/-- Settles O31: the order's products of a direction draw on one room, and the others draw nothing. -/
theorem sharesStayWithinHeadroomAndBudget : Obligations.SharesStayWithinHeadroomAndBudget := by
  unfold Obligations.SharesStayWithinHeadroomAndBudget
  intro s run slot x r c along energy
  let age := r.age s.localTime
  let room := roomOf x.static r
  have undrawn (q : Product) := siteShares_undrawn s.params age run.banks x.static.participation room run.order q
  have head (d : Direction) : sumOf (along d) c.shares.get ≤ room.head d := by
    rw [← siteShares_head s.params age run.banks x.static.participation room d run.order run.order_nodup,
      ← run.sumOf_along x.static.participation d _ undrawn]
    exact Nat.le_add_right _ _
  have budget (d : Direction) : sumOf (along d) energy ≤ room.budget d := by
    have none : ∀ q, q ∉ run.order ∨ x.static.participation.getLsbD q.val = false → energy q = 0 := fun q h => by
      have zero : c.shares.get q = 0 := undrawn q h
      simp [energy, zero]
    rw [← siteShares_budget s.params age run.banks x.static.participation room d run.order run.order_nodup]
    exact le_trans (le_of_eq (run.sumOf_along x.static.participation d energy none)) (Nat.le_add_right _ _)
  exact ⟨head .up, head .down, budget .up, budget .down⟩

end Sys2Proof.Machine

namespace Sys2Proof.Machine

/-! ## The reading of one slot (R67 to R69) -/

/-- R67, R72: the run once it has read its next slot and made the records `l` of it. -/
def State.slotTaken (s : State) (run : CensusRun) (l : List SweepRecord) : State :=
  { s with census := { s.census with
      run := some { run with
        nextSlot := run.nextSlot + 1
        sweep := run.sweep ++ l
        swept := if s.sweeps run.kind run.nextSlot then run.swept ++ [run.nextSlot] else run.swept } } }

theorem execCensusSlotRead_reads {s : State} {run : CensusRun} (running : s.census.run = some run)
    (unread : run.nextSlot < 4096) :
    exec .censusSlotRead s = .next (s.slotTaken run (s.readSlot run run.nextSlot).toList) := by
  have inside : run.nextSlot < Config.slots := unread
  refine congrArg Host.Outcome.next ?_
  simp only [running, inside, if_true]
  rfl

/-- R72: the slots a run sweeps, by its kind. -/
theorem sweeps_eq (s : State) (k : CensusKind) (slot : Nat) : s.sweeps k slot = (match k with
    | .full => true
    | .select f => (s.siteAt slot).any (fun x => decide (x.static.feeder = f))) := by
  cases k with
  | full => rfl
  | select f => cases h : s.siteAt slot <;> simp [State.sweeps, h]

/-- R67: the sites a run counts, by its kind. -/
theorem counts_iff (s : State) (k : CensusKind) (x : Site) : s.counts k x = true ↔ s.siteEligible x = true ∧
    (match k with
     | .full => True
     | .select f => x.static.feeder = f) := by
  cases k <;> simp [State.counts]

section
variable {s : State} {run : CensusRun} {slot : Nat} {x : Site}

theorem readSlot_vacant (h : s.siteAt slot = none) : s.readSlot run slot = none := by
  simp [State.readSlot, h]

theorem readSlot_uncounted (h : s.siteAt slot = some x) (uncounted : ¬ s.counts run.kind x = true) :
    s.readSlot run slot = none := by
  cases report : x.report <;> simp [State.readSlot, h, report, uncounted]

theorem readSlot_counted {r : ReportFields} (h : s.siteAt slot = some x) (report : x.report = some r)
    (counted : s.counts run.kind x = true) : s.readSlot run slot = some (s.sweepRecord run slot x r) := by
  simp [State.readSlot, h, report, counted]

end

/-- R69: the room read for a site: what the site's ratings and energy bounds, and its report, leave in each direction. -/
theorem roomOf_spec (f : StaticFields) (r : ReportFields) : let base := r.pNow - r.appliedOffset
    ((roomOf f r).headUp : Int) = max 0 ((min f.dischargeRating r.dischargeAvail : Nat) - base) ∧
    ((roomOf f r).headDown : Int) = max 0 ((min f.chargeRating r.chargeAvail : Nat) + base) ∧
    ((roomOf f r).budUp : Int) = max 0 ((r.eStored : Int) - (min f.eFloor r.eUsable : Nat)) ∧
    ((roomOf f r).budDown : Int) = max 0 ((min f.eCeil r.eUsable : Nat) - (r.eStored : Int)) := by
  simp only [roomOf, headroomUp, headroomDown, budgetUp, budgetDown]
  omega

/-- R70: the products that draw in `p`'s direction before it, in capacity-priority order. -/
def CensusRun.drawsBefore (run : CensusRun) (participation : BitVec 8) (p : Product) : List Product :=
  allProducts.filter (fun q => (run.banks.get q).enabled && draws run.banks participation (run.banks.get p).direction q &&
    standsBefore (fun a => (run.banks.get a).priority) q p)

/-- R70: the share of a product that a site draws for, from what the products before it in capacity-priority order left of
the headroom and budget of its direction. -/
theorem siteShares_order (params : Params) (age : Nat) (run : CensusRun) (participation : BitVec 8) (room : SiteRoom)
    {p : Product} (enabled : (run.banks.get p).enabled = true) (part : participation.getLsbD p.val = true) :
    let shares := (siteShares params age run.banks participation run.order room).1
    let d := (run.banks.get p).direction
    shares.get p = contribution params age (room.head d - sumOf (run.drawsBefore participation p) shares.get)
      (room.budget d - sumOf (run.drawsBefore participation p)
        (fun q => energyDrawn (shares.get q) (run.banks.get q).endurance)) (run.banks.get p).endurance := by
  intro shares d
  obtain ⟨pre, post, split⟩ := List.append_of_mem ((run.mem_order p).2 enabled)
  have nodup := run.order_nodup
  rw [split] at nodup
  obtain ⟨preNodup, -, apart⟩ := List.nodup_append.1 nodup
  have perm := run.before_perm split (draws run.banks participation d)
  let first := siteShares params age run.banks participation pre room
  have kept : ∀ q ∈ pre.filter (draws run.banks participation d), shares.get q = first.1.get q := by
    intro q hq
    have later : q ∉ p :: post := fun h => apart q (List.mem_of_mem_filter hq) q h rfl
    simp only [shares, split]
    exact siteShares_append _ _ _ _ _ _ _ _ later
  have head : sumOf (run.drawsBefore participation p) shares.get + first.2.head d = room.head d := by
    rw [CensusRun.drawsBefore, ← sumOf_perm perm, sumOf_congr kept]
    exact siteShares_head _ _ _ _ _ _ _ preNodup
  have budget : sumOf (run.drawsBefore participation p)
      (fun q => energyDrawn (shares.get q) (run.banks.get q).endurance) + first.2.budget d = room.budget d := by
    rw [CensusRun.drawsBefore, ← sumOf_perm perm, sumOf_congr fun q hq => congrArg (energyDrawn · _) (kept q hq)]
    exact siteShares_budget _ _ _ _ _ _ _ preNodup
  rw [← head, ← budget, Nat.add_sub_cancel_left, Nat.add_sub_cancel_left]
  simp only [shares, split]
  exact siteShares_get _ _ _ _ _ _ _ _ nodup part

/-- Settles O30: what each kind of slot yields, and for a counted site the room of R69 with the shares of R70. -/
theorem slotReadMakesOneSweepRecord : Obligations.SlotReadMakesOneSweepRecord := by
  unfold Obligations.SlotReadMakesOneSweepRecord
  intro s run running unread sweeps after counted
  have read (l : List SweepRecord) (h : (s.readSlot run run.nextSlot).toList = l) :
      exec .censusSlotRead s = .next (after l) := by
    rw [execCensusSlotRead_reads running unread, h]
    simp only [after, State.slotTaken, sweeps_eq]
    rfl
  refine ⟨fun vacant => read [] (by rw [readSlot_vacant vacant]; rfl), fun x site uncounted =>
    read [] (by rw [readSlot_uncounted site (mt (counts_iff s run.kind x).1 uncounted)]; rfl), ?_⟩
  intro x r site report isCounted base
  have made := readSlot_counted (run := run) site report ((counts_iff s run.kind x).2 isCounted)
  obtain ⟨headUp, headDown, budUp, budDown⟩ := roomOf_spec x.static r
  refine ⟨s.sweepRecord run run.nextSlot x r, read _ (by rw [made]; rfl), rfl, rfl, rfl, headUp, headDown, budUp,
    budDown, fun p none => ?_, fun p enabled part => ?_⟩
  · refine siteShares_undrawn _ _ _ _ _ _ _ (none.imp_left fun disabled listed => ?_)
    rw [(run.mem_order p).1 listed] at disabled
    cases disabled
  · intro b before energy headroom budget raw age
    have earlier : run.drawsBefore x.static.participation p = before := by
      simp only [before, CensusRun.drawsBefore, draws, standsBefore, Bool.and_assoc]
      rfl
    have share := siteShares_order s.params age run x.static.participation (roomOf x.static r) enabled part
    rw [earlier] at share
    exact share

end Sys2Proof.Machine

namespace Sys2Proof.Machine

/-! ## Clipping at a feeder (R71) -/

/-- R71, step 3: scaling raises no share. -/
theorem clippedShare_le (u remaining total : Nat) : clippedShare u remaining total ≤ u := by
  unfold clippedShare
  split
  · exact le_rfl
  · next above =>
    calc u * remaining / total ≤ u * total / total := Nat.div_le_div_right (Nat.mul_le_mul_left u (by omega))
      _ ≤ u := Nat.div_le_of_le_mul (Nat.mul_comm .. ▸ le_rfl)

/-- R71, step 3: the shares scaled to what remains of a cap sum to at most that. -/
theorem sumOf_clippedShare_le {α : Type} (l : List α) (f : α → Nat) (remaining : Nat) :
    sumOf l (fun a => clippedShare (f a) remaining (sumOf l f)) ≤ remaining := by
  by_cases fits : sumOf l f ≤ remaining
  · simp [clippedShare, fits]
  · have scaled (total : Nat) (m : List α) :
        sumOf m (fun a => f a * remaining / total) ≤ sumOf m f * remaining / total := by
      induction m with
      | nil => simp [sumOf]
      | cons a m ih =>
        simp only [sumOf, Nat.add_mul]
        exact (Nat.add_le_add_left ih _).trans (Nat.div_add_div_le_add_div)
    simp only [clippedShare, if_neg fits]
    refine (scaled _ l).trans (Nat.div_le_of_le_mul (Nat.le_refl _))

/-- A sweep record with each product's share put through one function of the product. -/
def SweepRecord.scaled (scale : Product → Nat → Nat) (x : SweepRecord) : SweepRecord :=
  { x with shares := PerProduct.ofFn (fun p => scale p (x.shares.get p)) }

theorem SweepRecord.scaled_get (scale : Product → Nat → Nat) (x : SweepRecord) (p : Product) :
    (x.scaled scale).shares.get p = scale p (x.shares.get p) := PerProduct.get_ofFn _ p

/-- The scaling of one product's shares, the others' kept. -/
def scaleOne (p : Product) (remaining total : Nat) (q : Product) (u : Nat) : Nat :=
  if q = p then clippedShare u remaining total else u

section Clip
variable (banks : PerProduct Bank)

/-- R71: a product's turn scales its shares at every site of the feeder. -/
theorem clipProduct_sites (c : ClipState) (p : Product) : (clipProduct banks c p).sites =
    c.sites.map (SweepRecord.scaled (scaleOne p (c.remaining (banks.get p).direction)
      (sumOf c.sites (fun x => x.shares.get p)))) := by
  refine List.map_congr_left fun x _ => ?_
  refine congrArg (fun shares : PerProduct Nat => { x with shares := shares }) (PerProduct.ext_get fun q => ?_)
  rw [PerProduct.get_set, PerProduct.get_ofFn, scaleOne]
  split
  · next same => rw [same]
  · rfl

theorem clipProduct_totals (c : ClipState) (p q : Product) : (clipProduct banks c p).totals.get q =
    if q = p then sumOf (clipProduct banks c p).sites (fun x => x.shares.get p) else c.totals.get q :=
  PerProduct.get_set _ _ _ _

theorem clipProduct_clipped (c : ClipState) (p q : Product) : (clipProduct banks c p).clipped.get q =
    if q = p then decide (c.remaining (banks.get p).direction < sumOf c.sites (fun x => x.shares.get p))
    else c.clipped.get q :=
  PerProduct.get_set _ _ _ _

/-- R71: a product's total is taken from the remaining cap of its direction. -/
theorem clipProduct_remaining (c : ClipState) (p : Product) (d : Direction) :
    (clipProduct banks c p).remaining d +
      (if (banks.get p).direction = d then (clipProduct banks c p).totals.get p else 0) = c.remaining d := by
  have within : sumOf (clipProduct banks c p).sites (fun x => x.shares.get p) ≤
      c.remaining (banks.get p).direction := by
    simp only [clipProduct_sites, sumOf_map, SweepRecord.scaled_get, scaleOne, if_true]
    exact sumOf_clippedShare_le _ _ _
  rw [clipProduct_totals, if_pos rfl]
  have left (e : Direction) : (clipProduct banks c p).remaining e = c.remaining e -
      if (banks.get p).direction = e then sumOf (clipProduct banks c p).sites (fun x => x.shares.get p) else 0 := by
    cases e <;> cases h : (banks.get p).direction <;> simp [clipProduct, ClipState.remaining, h]
  rw [left]
  split
  · next same => rw [same] at within; omega
  · simp

/-! ### Product after product -/

/-- What the turns of the products `l` make of a feeder: one scaling of its sites, which raises no share and keeps those
of the products outside `l`, whose totals and clipped indications stay too. -/
structure ClippedBy (c : ClipState) (l : List Product) (scale : Product → Nat → Nat) : Prop where
  sites : (l.foldl (clipProduct banks) c).sites = c.sites.map (SweepRecord.scaled scale)
  lowers : ∀ q u, scale q u ≤ u
  keeps : ∀ q, q ∉ l → ∀ u, scale q u = u
  totals : ∀ q, q ∉ l → (l.foldl (clipProduct banks) c).totals.get q = c.totals.get q
  clipped : ∀ q, q ∉ l → (l.foldl (clipProduct banks) c).clipped.get q = c.clipped.get q

theorem SweepRecord.scaled_id (x : SweepRecord) : x.scaled (fun _ u => u) = x :=
  congrArg (fun shares : PerProduct Nat => { x with shares := shares })
    (PerProduct.ext_get fun q => PerProduct.get_ofFn _ q)

theorem SweepRecord.scaled_scaled (f g : Product → Nat → Nat) (x : SweepRecord) :
    (x.scaled f).scaled g = x.scaled (fun p u => g p (f p u)) :=
  congrArg (fun shares : PerProduct Nat => { x with shares := shares }) (PerProduct.ext_get fun q => by
    simp [SweepRecord.scaled])

theorem ClippedBy.nil (c : ClipState) : ClippedBy banks c [] (fun _ u => u) where
  sites := ((List.map_congr_left fun x _ => x.scaled_id).trans (List.map_id _)).symm
  lowers _ _ := le_rfl
  keeps _ _ _ := rfl
  totals _ _ := rfl
  clipped _ _ := rfl

theorem ClippedBy.single (c : ClipState) (p : Product) : ClippedBy banks c [p]
    (scaleOne p (c.remaining (banks.get p).direction) (sumOf c.sites (fun x => x.shares.get p))) where
  sites := clipProduct_sites banks c p
  lowers q u := by
    unfold scaleOne
    split
    · exact clippedShare_le _ _ _
    · exact le_rfl
  keeps q other u := if_neg (by simpa using other)
  totals q other := (clipProduct_totals banks c p q).trans (if_neg (by simpa using other))
  clipped q other := (clipProduct_clipped banks c p q).trans (if_neg (by simpa using other))

variable {banks}

theorem ClippedBy.append {c : ClipState} {l m : List Product} {f g : Product → Nat → Nat}
    (first : ClippedBy banks c l f) (second : ClippedBy banks (l.foldl (clipProduct banks) c) m g) :
    ClippedBy banks c (l ++ m) (fun q u => g q (f q u)) where
  sites := by
    rw [List.foldl_append, second.sites, first.sites, List.map_map]
    exact List.map_congr_left fun x _ => x.scaled_scaled f g
  lowers q u := (second.lowers q _).trans (first.lowers q u)
  keeps q other u := by
    obtain ⟨notL, notM⟩ := not_or.1 (mt List.mem_append.2 other)
    rw [second.keeps q notM, first.keeps q notL]
  totals q other := by
    obtain ⟨notL, notM⟩ := not_or.1 (mt List.mem_append.2 other)
    rw [List.foldl_append, second.totals q notM, first.totals q notL]
  clipped q other := by
    obtain ⟨notL, notM⟩ := not_or.1 (mt List.mem_append.2 other)
    rw [List.foldl_append, second.clipped q notM, first.clipped q notL]

/-- The sum of the shares of a product that has no turn stays. -/
theorem ClippedBy.sumOf_kept {c : ClipState} {l : List Product} {scale : Product → Nat → Nat}
    (h : ClippedBy banks c l scale) {p : Product} (other : p ∉ l) :
    sumOf (l.foldl (clipProduct banks) c).sites (fun x => x.shares.get p) = sumOf c.sites (fun x => x.shares.get p) := by
  simp only [h.sites, sumOf_map, SweepRecord.scaled_get, h.keeps p other]

variable (banks)

theorem clippedBy_exists (c : ClipState) (l : List Product) : ∃ scale, ClippedBy banks c l scale := by
  induction l generalizing c with
  | nil => exact ⟨_, .nil banks c⟩
  | cons p l ih =>
    obtain ⟨scale, rest⟩ := ih (clipProduct banks c p)
    exact ⟨_, (ClippedBy.single banks c p).append rest⟩

/-- R71: the totals of a direction's products and what they left make up its cap. -/
theorem clip_conserves (c : ClipState) (d : Direction) (l : List Product) (nodup : l.Nodup) :
    sumOf (l.filter (fun q => decide ((banks.get q).direction = d))) (l.foldl (clipProduct banks) c).totals.get +
      (l.foldl (clipProduct banks) c).remaining d = c.remaining d := by
  induction l using List.reverseRecOn with
  | nil => simp [sumOf]
  | append_singleton l p ih =>
    obtain ⟨nodupInit, -, apart⟩ := List.nodup_append.1 nodup
    have whole := ih nodupInit
    have taken := clipProduct_remaining banks (l.foldl (clipProduct banks) c) p d
    have kept : ∀ q ∈ l.filter (fun q => decide ((banks.get q).direction = d)),
        (clipProduct banks (l.foldl (clipProduct banks) c) p).totals.get q =
          (l.foldl (clipProduct banks) c).totals.get q := by
      intro q hq
      rw [clipProduct_totals, if_neg (apart q (List.mem_of_mem_filter hq) p (by simp))]
    rw [List.foldl_append, List.foldl_cons, List.foldl_nil, List.filter_append, sumOf_append, sumOf_congr kept]
    by_cases along : (banks.get p).direction = d
    · simp [along, sumOf] at taken ⊢
      omega
    · simp [along, sumOf] at taken ⊢
      omega

/-- R71 for one product in its place: its shares are scaled to what the products before it left. -/
theorem clip_turn (c : ClipState) {pre post : List Product} {p : Product} (nodup : (pre ++ p :: post).Nodup) :
    let last := (pre ++ p :: post).foldl (clipProduct banks) c
    let d := (banks.get p).direction
    let remaining := c.remaining d - sumOf (pre.filter (fun q => decide ((banks.get q).direction = d))) last.totals.get
    let total := sumOf c.sites (fun x => x.shares.get p)
    last.totals.get p = sumOf last.sites (fun x => x.shares.get p) ∧
    last.clipped.get p = decide (remaining < total) ∧
    ∃ scale, ClippedBy banks c (pre ++ p :: post) scale ∧ ∀ u, scale p u = clippedShare u remaining total := by
  intro last d remaining total
  obtain ⟨preNodup, tailNodup, apart⟩ := List.nodup_append.1 nodup
  have notPre : p ∉ pre := fun h => apart p h p (.head _) rfl
  have notPost : p ∉ post := (List.nodup_cons.1 tailNodup).1
  let c₁ := pre.foldl (clipProduct banks) c
  let c₂ := clipProduct banks c₁ p
  obtain ⟨first, before⟩ := clippedBy_exists banks c pre
  obtain ⟨second, after⟩ := clippedBy_exists banks c₂ post
  have lastEq : last = post.foldl (clipProduct banks) c₂ := by simp [last, c₁, c₂]
  have turn := ClippedBy.single banks c₁ p
  have tail : ClippedBy banks c₁ (p :: post) _ := turn.append after
  have left : c₁.remaining d = remaining := by
    have kept : ∀ q ∈ pre.filter (fun q => decide ((banks.get q).direction = d)),
        last.totals.get q = c₁.totals.get q := fun q hq => by
      have later : q ∉ p :: post := fun h => apart q (List.mem_of_mem_filter hq) q h rfl
      simpa [last] using tail.totals q later
    have whole := clip_conserves banks c d pre preNodup
    simp only [remaining, sumOf_congr kept, ← whole]
    exact (Nat.add_sub_cancel_left ..).symm
  have sum : sumOf c₁.sites (fun x => x.shares.get p) = total := before.sumOf_kept notPre
  refine ⟨?_, ?_, _, before.append tail, fun u => ?_⟩
  · rw [lastEq, after.totals p notPost, after.sumOf_kept notPost, clipProduct_totals, if_pos rfl]
  · rw [lastEq, after.clipped p notPost, clipProduct_clipped, if_pos rfl, left, sum]
  · rw [before.keeps p notPre, after.keeps p notPost, scaleOne, if_pos rfl, left, sum]

end Clip

/-! ### The whole feeder -/

/-- The feeder as clipping finds it. -/
def clipStart (run : CensusRun) (f : Nat) : ClipState :=
  { sites := run.sweep.filter (fun x => decide (x.feeder = f)), totals := PerProduct.all 0,
    clipped := PerProduct.all false, up := run.cap f .up, down := run.cap f .down }

theorem clipFeeder_totals (run : CensusRun) (f : Nat) :
    (clipFeeder run f).2.totals = (run.order.foldl (clipProduct run.banks) (clipStart run f)).totals := rfl

theorem clipStart_remaining (run : CensusRun) (f : Nat) (d : Direction) :
    (clipStart run f).remaining d = run.cap f d := by
  cases d <;> rfl

/-- The enabled products of a direction, as the run's order lists them. -/
theorem CensusRun.along_perm (run : CensusRun) (d : Direction) :
    (run.order.filter (fun q => decide ((run.banks.get q).direction = d))).Perm
      (allProducts.filter (fun p => (run.banks.get p).enabled && decide ((run.banks.get p).direction = d))) := by
  refine (List.perm_ext_iff_of_nodup (run.order_nodup.filter _) (List.Nodup.filter _ (by decide))).2 fun q => ?_
  simp [run.mem_order, mem_allProducts]

/-- R71: the totals of a direction's enabled products stay within the feeder's cap. -/
theorem clipFeeder_within (run : CensusRun) (f : Nat) (d : Direction) :
    sumOf (run.order.filter (fun q => decide ((run.banks.get q).direction = d))) (clipFeeder run f).2.totals.get ≤
      run.cap f d := by
  have whole := clip_conserves run.banks (clipStart run f) d run.order run.order_nodup
  rw [clipStart_remaining, ← clipFeeder_totals] at whole
  exact Nat.le_of_add_right_le whole.le

/-- R71: an enabled product's turn, with the products before it as their banks give them. -/
theorem clipFeeder_turn (run : CensusRun) (f : Nat) {p : Product} (enabled : (run.banks.get p).enabled = true) :
    let record := (clipFeeder run f).2
    let d := (run.banks.get p).direction
    let along := allProducts.filter (fun q => (run.banks.get q).enabled && decide ((run.banks.get q).direction = d))
    let before := along.filter (fun q => standsBefore (fun b => (run.banks.get b).priority) q p)
    let remaining := run.cap f d - sumOf before record.totals.get
    let total := sumOf (clipStart run f).sites (fun x => x.shares.get p)
    record.totals.get p = sumOf (clipFeeder run f).1 (fun x => x.shares.get p) ∧
    record.clipped.get p = decide (remaining < total) ∧
    ∃ scale, ClippedBy run.banks (clipStart run f) run.order scale ∧
      ∀ u, scale p u = clippedShare u remaining total := by
  intro record d along before remaining total
  obtain ⟨pre, post, split⟩ := List.append_of_mem ((run.mem_order p).2 enabled)
  have nodup := run.order_nodup
  have perm : (pre.filter (fun q => decide ((run.banks.get q).direction = d))).Perm before := by
    simpa only [before, along, List.filter_filter, Bool.and_comm (standsBefore _ _ _)] using
      run.before_perm split (fun q => decide ((run.banks.get q).direction = d))
  have left : remaining = (clipStart run f).remaining d -
      sumOf (pre.filter (fun q => decide ((run.banks.get q).direction = d))) record.totals.get := by
    rw [clipStart_remaining, sumOf_perm perm]
  have turn := clip_turn run.banks (clipStart run f) (split ▸ nodup)
  rw [← split] at turn
  rw [left]
  exact turn

/-- Settles O32: each product's turn, the conservation of the caps, and the scaling of every site. -/
theorem clippedSharesStayWithinTheCaps : Obligations.ClippedSharesStayWithinTheCaps := by
  unfold Obligations.ClippedSharesStayWithinTheCaps
  intro run f sites record counted caps capOf along
  have capEq (d : Direction) : run.cap f d = capOf d := by cases d <;> rfl
  have member {d : Direction} {p : Product} (h : p ∈ along d) :
      (run.banks.get p).enabled = true ∧ (run.banks.get p).direction = d := by
    simpa [along, mem_allProducts] using h
  have totalOf {d : Direction} {p : Product} (h : p ∈ along d) :
      record.totals.get p = sumOf sites (fun x => x.shares.get p) := (clipFeeder_turn run f (member h).1).1
  obtain ⟨scale, clipped⟩ := clippedBy_exists run.banks (clipStart run f) run.order
  have scaledSites (g : Product → Nat → Nat) (turns : ClippedBy run.banks (clipStart run f) run.order g) :
      sites = counted.map (SweepRecord.scaled g) := turns.sites
  refine ⟨rfl, fun d => ?_, fun d p hp => ?_, fun p disabled => ?_, ?_⟩
  · rw [sumOf_congr fun p hp => (totalOf hp).symm, ← capEq, ← sumOf_perm (run.along_perm d)]
    exact clipFeeder_within run f d
  · intro before remaining total
    obtain ⟨enabled, rfl⟩ := member hp
    obtain ⟨-, indication, g, turns, scaled⟩ := clipFeeder_turn run f enabled
    have left : remaining = run.cap f (run.banks.get p).direction - sumOf before record.totals.get := by rw [capEq]
    rw [left]
    refine ⟨totalOf hp, indication, ?_⟩
    rw [scaledSites g turns, List.forall₂_map_left_iff, List.forall₂_same]
    intro x _
    rw [SweepRecord.scaled_get, scaled]
    rfl
  · have absent : p ∉ run.order := fun h => by simp [(run.mem_order p).1 h] at disabled
    exact ⟨(clipped.totals p absent).trans (PerProduct.get_all 0 p),
      (clipped.clipped p absent).trans (PerProduct.get_all false p)⟩
  · rw [scaledSites scale clipped, List.forall₂_map_left_iff, List.forall₂_same]
    refine fun x _ => ⟨rfl, rfl, fun p => ?_⟩
    rw [SweepRecord.scaled_get]
    exact clipped.lowers p _

end Sys2Proof.Machine

namespace Sys2Proof.Machine

/-! ## The Snapshot's figures (R73) -/

theorem offerableOf_eq (b : Bank) (available : Nat) (rounded : Nat)
    (h : available * (1000 - b.margin) / 1000 / b.increment * b.increment = rounded) :
    offerableOf b available = if rounded < b.minBid then 0 else if b.maxBid < rounded then b.maxBid else rounded := by
  simp only [offerableOf, h]
  split
  · rfl
  · split <;> omega

/-- R73: an offerable quantity is a multiple of the increment within the bids, and at most what is available. -/
theorem offerableOf_bounds {b : Bank} (available : Nat) (bids : b.minBid ≤ b.maxBid) (whole : b.maxBid % b.increment = 0) :
    offerableOf b available % b.increment = 0 ∧
    (offerableOf b available = 0 ∨ (b.minBid ≤ offerableOf b available ∧ offerableOf b available ≤ b.maxBid)) ∧
    offerableOf b available ≤ available := by
  obtain ⟨rounded, h⟩ : ∃ n, available * (1000 - b.margin) / 1000 / b.increment * b.increment = n := ⟨_, rfl⟩
  have multiple : rounded % b.increment = 0 := by rw [← h]; exact Nat.mul_mod_left _ _
  have margined : available * (1000 - b.margin) / 1000 ≤ available :=
    Nat.div_le_of_le_mul ((Nat.mul_le_mul_left available (Nat.sub_le _ _)).trans_eq (Nat.mul_comm _ _))
  have less : rounded ≤ available := h ▸ (Nat.div_mul_le_self _ _).trans margined
  rw [offerableOf_eq b available rounded h]
  split
  · exact ⟨Nat.zero_mod _, .inl rfl, Nat.zero_le _⟩
  · next reached =>
    split
    · next above => exact ⟨whole, .inr ⟨bids, le_rfl⟩, above.le.trans less⟩
    · next within => exact ⟨multiple, .inr ⟨not_lt.1 reached, not_lt.1 within⟩, less⟩

section
variable {banks : PerProduct Bank} {r : Roster} {p : Product}

theorem snapshotProduct_disabled (disabled : (banks.get p).enabled = false) :
    snapshotProduct banks r p = { available := 0, offerable := 0, contributing := 0, clippedFeeders := 0 } := by
  simp [snapshotProduct, disabled]

/-- R73: an enabled product's figures, over the 64 feeders. -/
theorem snapshotProduct_enabled (enabled : (banks.get p).enabled = true) (w : Table.wf r.feeders = true)
    (bound : ∀ e ∈ r.feeders, e.1 < 64) :
    let record (f : Nat) := Table.readOr r.feeders FeederRecord.zero f
    let available := sumOf (List.range 64) (fun f => (record f).totals.get p)
    snapshotProduct banks r p =
      { available := available, offerable := offerableOf (banks.get p) available,
        contributing := (r.entries.filter (fun e => decide (0 < e.2.shares.get p))).length,
        clippedFeeders := ((List.range 64).filter (fun f => (record f).clipped.get p)).length } := by
  intro record available
  have bound' : ∀ e ∈ r.feeders, e.1 < 0 + 64 := by simpa using bound
  have totals : sumOf r.feeders (fun e => e.2.totals.get p) = available := by
    rw [sumOf_table FeederRecord.zero (fun x => x.totals.get p) (PerProduct.get_all 0 p) 64 w bound',
      ← List.range_eq_range']
  have clipped : (r.feeders.filter (fun e => e.2.clipped.get p)).length =
      ((List.range 64).filter (fun f => (record f).clipped.get p)).length := by
    rw [length_filter_eq_sumOf, length_filter_eq_sumOf, List.range_eq_range']
    exact sumOf_table FeederRecord.zero (fun x => if x.clipped.get p then 1 else 0)
      (by simp [FeederRecord.zero]) 64 w bound'
  simp only [snapshotProduct, enabled, if_true, totals, clipped]

end

/-- Settles O33: the sums over the Roster's table are sums over the feeders, and the bounds are those of the bank. -/
theorem snapshotFiguresFollowTheRoster : Obligations.SnapshotFiguresFollowTheRoster := by
  unfold Obligations.SnapshotFiguresFollowTheRoster
  intro banks r p inRange w bound b x record margined rounded
  have ranges := inRange
  simp only [Bank.inRange, Bool.and_eq_true, decide_eq_true_eq] at ranges
  have bids : b.minBid ≤ b.maxBid := by simp only [b]; tauto
  have whole : b.maxBid % b.increment = 0 := by simp only [b]; tauto
  cases enabled : b.enabled with
  | false =>
    have none : x = { available := 0, offerable := 0, contributing := 0, clippedFeeders := 0 } :=
      snapshotProduct_disabled enabled
    simp [none]
  | true =>
    have figures := snapshotProduct_enabled (banks := banks) enabled w bound
    have offerable : x.offerable = offerableOf b x.available := by simp only [x, figures]; rfl
    obtain ⟨multiple, within, less⟩ := offerableOf_bounds x.available bids whole
    rw [← offerable] at multiple within less
    refine ⟨fun _ => ⟨?_, ?_, ?_, ?_⟩, by simp, multiple, within, less⟩
    · simp only [x, figures]; rfl
    · exact offerable.trans (offerableOf_eq b x.available rounded rfl)
    · simp only [x, figures]
    · simp only [x, figures]; rfl

end Sys2Proof.Machine

namespace Sys2Proof.Machine

/-! ## The Roster's entries (R74) -/

theorem PerProduct.mem_toList {α : Type} (x : PerProduct α) (a : α) :
    a ∈ x.toList ↔ ∃ p : Product, x.get p = a := by
  have listed : x.toList = allProducts.map x.get := rfl
  simp [listed, mem_allProducts]

/-- R74: a sweep record with a share above 0 makes the entry of its slot. -/
theorem entryOf_eq_some (number : Nat) (y : SweepRecord) (slot : Nat) (e : RosterEntry) :
    entryOf number y = some (slot, e) ↔ y.slot = slot ∧ (∃ p : Product, 0 < y.shares.get p) ∧
      e = { siteNumber := y.siteNumber, feeder := y.feeder, shares := y.shares, census := number } := by
  have shared : (y.shares.toList.any (fun a => decide (0 < a)) = true) ↔ ∃ p : Product, 0 < y.shares.get p := by
    simp [PerProduct.mem_toList]
  unfold entryOf
  split
  · next h =>
    rw [shared] at h
    simp only [Option.some.injEq, Prod.mk.injEq, h, true_and, eq_comm]
  · next h =>
    rw [shared] at h
    simp [h]

/-- R74: what a slot reads as once the entries of sweep records of distinct slots are put in. -/
theorem find_putEntries (number slot : Nat) (e : RosterEntry) (l : List SweepRecord) (t : Table RosterEntry)
    (distinct : ∀ y ∈ l, ∀ z ∈ l, y.slot = z.slot → y = z) :
    Table.find (putEntries t number l) slot = some e ↔ (∃ y ∈ l, entryOf number y = some (slot, e)) ∨
      ((∀ y ∈ l, ∀ e', entryOf number y ≠ some (slot, e')) ∧ Table.find t slot = some e) := by
  induction l generalizing t with
  | nil => simp [putEntries]
  | cons y l ih =>
    have rest (t' : Table RosterEntry) := ih t' fun z hz w hw => distinct z (.tail _ hz) w (.tail _ hw)
    have same : ∀ z ∈ l, ∀ e', entryOf number z = some (slot, e') → y.slot = slot →
        entryOf number y = some (slot, e') := by
      intro z hz e' made at_
      rw [distinct y (.head _) z (.tail _ hz) (at_.trans ((entryOf_eq_some ..).1 made).1.symm), made]
    simp only [putEntries, List.foldl_cons]
    rw [← putEntries, rest]
    cases made : entryOf number y with
    | none => simp [made]
    | some entry =>
      obtain ⟨k, a⟩ := entry
      have at_ : y.slot = k := ((entryOf_eq_some ..).1 made).1
      by_cases here : k = slot
      · subst here
        simp only [Table.find_put_same, List.mem_cons, exists_eq_or_imp, forall_eq_or_imp, made, Option.some.injEq,
          Prod.mk.injEq, true_and]
        constructor
        · rintro (⟨z, hz, other⟩ | ⟨-, rfl⟩)
          · have := same z hz e other at_
            simp only [made, Option.some.injEq, Prod.mk.injEq, true_and] at this
            exact .inl (.inl this)
          · exact .inl (.inl rfl)
        · rintro ((rfl | found) | ⟨⟨none, -⟩, -⟩)
          · by_cases found : ∃ z ∈ l, entryOf number z = some (k, a)
            · exact .inl found
            · refine .inr ⟨fun z hz e' other => found ⟨z, hz, ?_⟩, rfl⟩
              have := same z hz e' other at_
              simp only [made, Option.some.injEq, Prod.mk.injEq, true_and] at this
              rw [other, this]
          · exact .inl found
          · exact absurd rfl (none a)
      · simp [Table.find_put_other _ (Ne.symm here), made, here]

/-! ### The clipped records of the feeders -/

/-- R71: the clipped records of a feeder are its sweep records, scaled. -/
theorem clipFeeder_scaled (run : CensusRun) (f : Nat) : ∃ scale,
    (clipFeeder run f).1 = (run.sweep.filter (fun x => decide (x.feeder = f))).map (SweepRecord.scaled scale) := by
  obtain ⟨scale, clipped⟩ := clippedBy_exists run.banks (clipStart run f) run.order
  exact ⟨scale, clipped.sites⟩

theorem clipFeeder_feeder {run : CensusRun} {f : Nat} {y : SweepRecord} (h : y ∈ (clipFeeder run f).1) :
    y.feeder = f := by
  obtain ⟨scale, scaled⟩ := clipFeeder_scaled run f
  rw [scaled] at h
  obtain ⟨x, hx, rfl⟩ := List.mem_map.1 h
  exact of_decide_eq_true (List.mem_filter.1 hx).2

/-- R67: of a sweep that counts no slot twice, the feeders' clipped records have distinct slots. -/
theorem clipFeeder_distinct {run : CensusRun} (nodup : (run.sweep.map (fun y => y.slot)).Nodup) {f g : Nat}
    {y z : SweepRecord} (hy : y ∈ (clipFeeder run f).1) (hz : z ∈ (clipFeeder run g).1) (same : y.slot = z.slot) :
    y = z := by
  have feederY := clipFeeder_feeder hy
  have feederZ := clipFeeder_feeder hz
  obtain ⟨scaleF, scaledF⟩ := clipFeeder_scaled run f
  obtain ⟨scaleG, scaledG⟩ := clipFeeder_scaled run g
  rw [scaledF] at hy
  rw [scaledG] at hz
  obtain ⟨x, hx, rfl⟩ := List.mem_map.1 hy
  obtain ⟨w, hw, rfl⟩ := List.mem_map.1 hz
  obtain rfl : x = w := List.inj_on_of_nodup_map nodup (List.mem_of_mem_filter hx) (List.mem_of_mem_filter hw) same
  obtain rfl : f = g := feederY.symm.trans feederZ
  have scaled := List.map_inj_left.1 (scaledF.symm.trans scaledG)
  exact scaled x hx

/-- R74: the clipped records of feeder `f` make the entry `e` of a slot. -/
def CensusRun.makesEntry (run : CensusRun) (number f slot : Nat) (e : RosterEntry) : Prop :=
  ∃ y ∈ (clipFeeder run f).1, y.slot = slot ∧ (∃ p : Product, 0 < y.shares.get p) ∧
    e = { siteNumber := y.siteNumber, feeder := f, shares := y.shares, census := number }

theorem makesEntry_iff (run : CensusRun) (number f slot : Nat) (e : RosterEntry) :
    run.makesEntry number f slot e ↔ ∃ y ∈ (clipFeeder run f).1, entryOf number y = some (slot, e) := by
  refine exists_congr fun y => and_congr_right fun hy => ?_
  rw [entryOf_eq_some, clipFeeder_feeder hy]

/-! ## The Roster of a full census (R71, R74) -/

/-- The clipped records of the 64 feeders, feeder after feeder. -/
def CensusRun.clippedSweep (run : CensusRun) : List SweepRecord :=
  (List.range Config.feeders).flatMap (fun f => (clipFeeder run f).1)

theorem fullRoster_eq (run : CensusRun) (number : Nat) : fullRoster run number =
    { feeders := (List.range Config.feeders).foldl
        (fun t f => Table.writeOr t FeederRecord.zero f (clipFeeder run f).2) []
      entries := putEntries [] number run.clippedSweep } := by
  have step (l : List Nat) (feeders : Table FeederRecord) (entries : Table RosterEntry) :
      l.foldl (fun r f =>
        { feeders := Table.writeOr r.feeders FeederRecord.zero f (clipFeeder run f).2,
          entries := putEntries r.entries number (clipFeeder run f).1 }) (Roster.mk feeders entries) =
      { feeders := l.foldl (fun t f => Table.writeOr t FeederRecord.zero f (clipFeeder run f).2) feeders
        entries := putEntries entries number (l.flatMap (fun f => (clipFeeder run f).1)) } := by
    induction l generalizing feeders entries with
    | nil => rfl
    | cons f l ih =>
      rw [List.foldl_cons, ih]
      simp [putEntries, List.foldl_append]
  exact step _ [] []

theorem fullRoster_feeder (run : CensusRun) (number : Nat) {f : Nat} (h : f < 64) :
    Table.readOr (fullRoster run number).feeders FeederRecord.zero f = (clipFeeder run f).2 := by
  rw [fullRoster_eq]
  exact (readOr_foldl_writeOr (fun f => (clipFeeder run f).2) rfl _ f).trans (if_pos (List.mem_range.2 h))

theorem fullRoster_entry {run : CensusRun} (nodup : (run.sweep.map (fun y => y.slot)).Nodup) (number slot : Nat)
    (e : RosterEntry) : Table.find (fullRoster run number).entries slot = some e ↔
      ∃ f, f < 64 ∧ run.makesEntry number f slot e := by
  have listed (y : SweepRecord) : y ∈ run.clippedSweep ↔ ∃ f, f < 64 ∧ y ∈ (clipFeeder run f).1 := by
    simp [CensusRun.clippedSweep, Config.feeders]
  rw [fullRoster_eq, find_putEntries]
  · simp only [Table.find_nil, reduceCtorEq, and_false, or_false, listed, makesEntry_iff]
    exact ⟨fun ⟨y, ⟨f, inside, hy⟩, made⟩ => ⟨f, inside, y, hy, made⟩,
      fun ⟨f, inside, y, hy, made⟩ => ⟨y, ⟨f, inside, hy⟩, made⟩⟩
  · intro y hy z hz same
    obtain ⟨f, -, hy⟩ := (listed y).1 hy
    obtain ⟨g, -, hz⟩ := (listed z).1 hz
    exact clipFeeder_distinct nodup hy hz same

/-! ## The merge of a select census (R72) -/

/-- A feeder's record with the shares of entries taken from its totals. -/
def FeederRecord.less (x : FeederRecord) (taken : Product → Nat) : FeederRecord :=
  { x with totals := PerProduct.ofFn (fun p => x.totals.get p - taken p) }

theorem FeederRecord.less_zero (x : FeederRecord) : x.less (fun _ => 0) = x :=
  congrArg (fun totals : PerProduct Nat => { x with totals := totals }) (PerProduct.ext_get fun p => by simp)

theorem FeederRecord.less_less (x : FeederRecord) (a b : Product → Nat) :
    (x.less a).less b = x.less (fun p => a p + b p) :=
  congrArg (fun totals : PerProduct Nat => { x with totals := totals }) (PerProduct.ext_get fun p => by
    simp [FeederRecord.less, Nat.sub_sub])

/-- The shares of product `p` that the entries of feeder `g` with a slot in `slots` hold. -/
def takenFrom (entries : Table RosterEntry) (slots : List Nat) (g : Nat) (p : Product) : Nat :=
  sumOf (entries.filter (fun e => decide (e.2.feeder = g) && slots.contains e.1)) (fun e => e.2.shares.get p)

theorem takenFrom_nil (entries : Table RosterEntry) (g : Nat) (p : Product) : takenFrom entries [] g p = 0 := by
  simp [takenFrom, sumOf]

/-- The shares taken with the slots `k :: slots`: those of the entry at `k`, then those of the other slots. -/
theorem takenFrom_cons {entries : Table RosterEntry} (w : Table.wf entries = true) (k : Nat) (slots : List Nat) (g : Nat)
    (p : Product) : takenFrom entries (k :: slots) g p =
      takenFrom entries [k] g p + takenFrom (Table.drop entries k) slots g p := by
  unfold takenFrom
  rw [sumOf_filter_split (fun e => decide (e.1 = k)), Table.drop_eq_filter w]
  simp only [List.filter_filter]
  refine congrArg₂ (· + ·) (congrArg (sumOf · _) ?_) (congrArg (sumOf · _) ?_)
  · refine List.filter_congr fun e _ => ?_
    by_cases same : e.1 = k <;> simp [same]
  · refine List.filter_congr fun e _ => ?_
    by_cases same : e.1 = k <;> simp [same]

/-- The shares taken with one slot: those of its entry, if that is the feeder's. -/
theorem takenFrom_single {entries : Table RosterEntry} (w : Table.wf entries = true) (k g : Nat) (p : Product) :
    takenFrom entries [k] g p = sumOf ((Table.find entries k).toList.filter (fun e => decide (e.feeder = g)))
      (fun e => e.shares.get p) := by
  have here : entries.filter (fun e => decide (e.2.feeder = g) && [k].contains e.1) =
      ((Table.find entries k).map (fun a => (k, a))).toList.filter (fun e => decide (e.2.feeder = g)) := by
    rw [← Table.filter_key w, List.filter_filter]
    exact List.filter_congr fun e _ => by simp
  rw [takenFrom, here]
  cases Table.find entries k with
  | none => rfl
  | some e => by_cases own : e.feeder = g <;> simp [own, sumOf]

/-- R72, step 2: withdrawing a slot takes its entry's shares from the entry's feeder. -/
theorem withdrawSlot_feeder {r : Roster} (entries : Table.wf r.entries = true) (feeders : Table.wf r.feeders = true)
    (k g : Nat) : Table.readOr (withdrawSlot r k).feeders FeederRecord.zero g =
      (Table.readOr r.feeders FeederRecord.zero g).less (takenFrom r.entries [k] g) := by
  have single := takenFrom_single entries k g
  unfold withdrawSlot
  cases found : Table.find r.entries k with
  | none =>
    have none : takenFrom r.entries [k] g = fun _ => 0 := funext fun p => by
      rw [single, found]
      rfl
    rw [none, FeederRecord.less_zero]
  | some e =>
    simp only [withdrawEntry]
    by_cases own : e.feeder = g
    · subst own
      have taken : takenFrom r.entries [k] e.feeder = e.shares.get := funext fun p => by
        simp [single, found, sumOf]
      rw [Table.readOr_writeOr_same feeders, taken]
      rfl
    · have none : takenFrom r.entries [k] g = fun _ => 0 := funext fun p => by
        simp [single, found, own, sumOf]
      rw [Table.readOr_writeOr_other feeders (Ne.symm own), none, FeederRecord.less_zero]

theorem withdrawSlot_entries {r : Roster} (w : Table.wf r.entries = true) (k : Nat) :
    (withdrawSlot r k).entries = Table.drop r.entries k := by
  unfold withdrawSlot
  split
  · next absent =>
    rw [Table.drop_eq_filter w, List.filter_eq_self.2]
    rintro ⟨j, e⟩ he
    refine decide_eq_true fun same => ?_
    subst same
    rw [(Table.find_eq_some_iff w j e).2 he] at absent
    cases absent
  · rfl

theorem withdrawSlot_feeders_wfOr {r : Roster} (w : Table.wfOr r.feeders FeederRecord.zero = true) (k : Nat) :
    Table.wfOr (withdrawSlot r k).feeders FeederRecord.zero = true := by
  unfold withdrawSlot
  split
  · exact w
  · exact Table.wfOr_writeOr w _ _

/-- R72, step 2: what the withdrawal of the swept slots leaves. -/
theorem withdrawSlots_spec (slots : List Nat) {r : Roster} (entries : Table.wf r.entries = true)
    (feeders : Table.wfOr r.feeders FeederRecord.zero = true) :
    Table.wfOr (slots.foldl withdrawSlot r).feeders FeederRecord.zero = true ∧
    (∀ g, Table.readOr (slots.foldl withdrawSlot r).feeders FeederRecord.zero g =
      (Table.readOr r.feeders FeederRecord.zero g).less (takenFrom r.entries slots g)) ∧
    ∀ slot e, Table.find (slots.foldl withdrawSlot r).entries slot = some e ↔
      slot ∉ slots ∧ Table.find r.entries slot = some e := by
  induction slots generalizing r with
  | nil =>
    refine ⟨feeders, fun g => ?_, by simp⟩
    have none : takenFrom r.entries [] g = fun _ => 0 := funext (takenFrom_nil r.entries g)
    rw [none, FeederRecord.less_zero]
    rfl
  | cons k slots ih =>
    have dropped := withdrawSlot_entries entries k
    have wf : Table.wf (withdrawSlot r k).entries = true := dropped ▸ Table.wf_drop entries k
    obtain ⟨form, totals, left⟩ := ih wf (withdrawSlot_feeders_wfOr feeders k)
    refine ⟨form, fun g => ?_, fun slot e => ?_⟩
    · rw [List.foldl_cons, totals g, withdrawSlot_feeder entries (Table.wf_of_wfOr feeders), FeederRecord.less_less,
        dropped]
      exact congrArg _ (funext fun p => (takenFrom_cons entries k slots g p).symm)
    · rw [List.foldl_cons, left slot e]
      by_cases here : slot = k
      · simp [here, withdrawSlot_same entries]
      · simp [here, withdrawSlot_other entries here]

/-- R72, step 1: a Roster without the entries of feeder `f`. -/
def Roster.without (r : Roster) (f : Nat) : Roster :=
  { r with entries := r.entries.filter (fun e => decide (e.2.feeder ≠ f)) }

theorem mergeRoster_eq (run : CensusRun) (f number : Nat) (old : Roster) : mergeRoster run f number old =
    { feeders := Table.writeOr (run.swept.foldl withdrawSlot (old.without f)).feeders FeederRecord.zero f
        (clipFeeder run f).2
      entries := putEntries (run.swept.foldl withdrawSlot (old.without f)).entries number (clipFeeder run f).1 } := rfl

theorem takenFrom_without (r : Roster) (slots : List Nat) {f g : Nat} (other : g ≠ f) :
    takenFrom (r.without f).entries slots g = takenFrom r.entries slots g := funext fun p => by
  unfold takenFrom Roster.without
  rw [List.filter_filter]
  refine congrArg (sumOf · _) (List.filter_congr fun e _ => ?_)
  by_cases own : e.2.feeder = g <;> simp [own, other]

section Merge
variable {run : CensusRun} {old : Roster} (entries : Table.wf old.entries = true)
  (feeders : Table.wfOr old.feeders FeederRecord.zero = true) (f number : Nat)

include entries feeders

theorem mergeRoster_feeder_same :
    Table.readOr (mergeRoster run f number old).feeders FeederRecord.zero f = (clipFeeder run f).2 := by
  obtain ⟨form, -, -⟩ := withdrawSlots_spec run.swept (r := old.without f) (Table.risingFrom_filter _ entries) feeders
  rw [mergeRoster_eq, Table.readOr_writeOr_same (Table.wf_of_wfOr form)]

theorem mergeRoster_feeder_other {g : Nat} (other : g ≠ f) :
    Table.readOr (mergeRoster run f number old).feeders FeederRecord.zero g =
      (Table.readOr old.feeders FeederRecord.zero g).less (takenFrom old.entries run.swept g) := by
  obtain ⟨form, totals, -⟩ :=
    withdrawSlots_spec run.swept (r := old.without f) (Table.risingFrom_filter _ entries) feeders
  rw [mergeRoster_eq, Table.readOr_writeOr_other (Table.wf_of_wfOr form) other, totals, takenFrom_without old _ other]
  rfl

theorem mergeRoster_entry (nodup : (run.sweep.map (fun y => y.slot)).Nodup) (slot : Nat) (e : RosterEntry) :
    Table.find (mergeRoster run f number old).entries slot = some e ↔ run.makesEntry number f slot e ∨
      ((∀ e', ¬ run.makesEntry number f slot e') ∧ Table.find old.entries slot = some e ∧ e.feeder ≠ f ∧
        slot ∉ run.swept) := by
  obtain ⟨-, -, left⟩ := withdrawSlots_spec run.swept (r := old.without f) (Table.risingFrom_filter _ entries) feeders
  have kept : Table.find (old.without f).entries slot = some e ↔
      Table.find old.entries slot = some e ∧ e.feeder ≠ f := by
    rw [Roster.without, Table.find_filter_iff _ entries, decide_eq_true_eq]
  rw [mergeRoster_eq, find_putEntries number slot e _ _ fun y hy z hz same => clipFeeder_distinct nodup hy hz same]
  simp only [makesEntry_iff, left, kept, not_exists, not_and]
  exact or_congr_right (and_congr ⟨fun h e' y hy => h y hy e', fun h y hy e' => h e' y hy⟩ (and_comm.trans and_assoc))

end Merge

end Sys2Proof.Machine

namespace Sys2Proof.Machine

/-! ## Publication (R64, R74, R75) -/

/-- R74: the census with what a completed run publishes. -/
def State.recorded (s : State) (run : CensusRun) : State :=
  { s with census := { s.census with
      counter := nextCensus s.census.counter, published := some (s.publicationOf run) } }

/-- R74, R75: the publication handed on: a trigger, an evaluation and the notice. -/
def State.announced (s : State) (run : CensusRun) : State :=
  ((s.recorded run).trigger.evaluate false).post (s.publicationOf run).notice

theorem publish_eq (s : State) (run : CensusRun) : s.publish run = (s.announced run).startPending := rfl

theorem execCensusPublish_publishes {s : State} {run : CensusRun} (running : s.census.run = some run)
    (complete : 4096 ≤ run.nextSlot) : exec .censusPublish s = .next (s.publish run) := by
  have outside : ¬ run.nextSlot < Config.slots := Nat.not_lt_of_le complete
  refine congrArg Host.Outcome.next ?_
  simp only [running, outside, if_false]

theorem announced_evaluation (s : State) (run : CensusRun) : EvaluationOnly (s.recorded run).trigger (s.announced run) :=
  (evaluate_evaluation _ false).trans (post_egress _ _).evaluation

section Announced
variable (s : State) (run : CensusRun)

theorem announced_census : (s.announced run).census = (s.recorded run).census := by simp [State.announced]
theorem announced_fleet : (s.announced run).fleet = s.fleet := by simp [State.announced, State.recorded]
theorem announced_time : (s.announced run).time = s.time := by simp [State.announced, State.recorded]
theorem announced_products : (s.announced run).products = s.products := by simp [State.announced, State.recorded]
theorem announced_activation : (s.announced run).activation = s.activation := by simp [State.announced, State.recorded]
theorem announced_params : (s.announced run).params = s.params := by simp [State.announced, State.recorded]

theorem announced_allocation : (s.announced run).allocation = (s.recorded run).trigger.allocation := by
  simp [State.announced]

theorem announced_terms : (s.announced run).book.offers.map Offer.terms = s.book.offers.map Offer.terms := by
  have kept := (announced_evaluation s run).egress.offers
  simpa [State.recorded] using kept

/-- R153: a publication ends the condition NO_CENSUS. -/
theorem announced_noCensus (p : Product) : ((s.announced run).mon p).conditions.noCensus = false := by
  have posted : (s.announced run).monitor = ((s.recorded run).trigger.evaluate false).monitor := (post_egress _ _).monitor
  rw [State.mon, posted]
  have conditions := evaluate_conditions (s.recorded run).trigger false p
  rw [State.mon] at conditions
  rw [conditions]
  simp [State.conditionsOf, State.recorded]

end Announced

/-! ### The pending run (R64) -/

/-- R66: a run of kind `k` as it starts: the banks and caps latched, no slot read. -/
def State.freshRun (s : State) (k : CensusKind) : CensusRun :=
  { kind := k, banks := PerProduct.ofFn s.bank, caps := s.latchedCaps k, nextSlot := 0, sweep := [], swept := [] }

/-- R66: the caps latched are those of the Feeder Table and of the Roster in force. -/
theorem freshRun_congr {s t : State} (fleet : t.fleet = s.fleet) (products : t.products = s.products)
    (published : t.census.published = s.census.published) (k : CensusKind) : t.freshRun k = s.freshRun k := by
  have bank : t.bank = s.bank := funext fun p => by rw [State.bank, State.bank, products]
  have caps : t.feederCaps = s.feederCaps := funext fun f => by
    rw [State.feederCaps, State.feederCaps, State.feeder, State.feeder, fleet]
  cases k <;> simp only [State.freshRun, State.latchedCaps, bank, caps, published]

theorem startRun_full_census (s : State) : (s.startRun .full).census = { s.census with
    run := some (s.freshRun .full), banksSwitched := false,
    timerExpiry := s.localTime + s.params.censusInterval * 1000, timerBase := s.localTime } := rfl

/-- A start changes the census alone. -/
theorem startRun_eq (s : State) (k : CensusKind) : s.startRun k = { s with census := (s.startRun k).census } := by
  cases k <;> rfl

theorem startRun_published (s : State) (k : CensusKind) : (s.startRun k).census.published = s.census.published := by
  cases k <;> rfl

theorem startRun_counter (s : State) (k : CensusKind) : (s.startRun k).census.counter = s.census.counter := by
  cases k <;> rfl

theorem startRun_run (s : State) (k : CensusKind) : (s.startRun k).census.run = some (s.freshRun k) := by
  cases k <;> rfl

/-- The pending flags of a census cleared with its run, as a pending run finds it. -/
def State.pendingTaken (s : State) : State :=
  { s with census := { s.census with run := none, fullPending := false, selectPending := none } }

theorem startPending_full {s : State} (full : s.census.fullPending = true) :
    s.startPending = s.pendingTaken.startRun .full := if_pos full

theorem startPending_select {s : State} {f : Nat} (free : s.census.fullPending = false)
    (held : s.census.selectPending = some f) : s.startPending = s.pendingTaken.startRun (s.selectKind f) := by
  simp only [State.startPending, free, held, State.pendingTaken]
  rfl

theorem startPending_idle {s : State} (free : s.census.fullPending = false) (none : s.census.selectPending = none) :
    s.startPending = s.pendingTaken := by
  simp only [State.startPending, free, none, State.pendingTaken]
  rfl

/-- R64: the pending run changes the census alone, and neither the Snapshot, the Roster nor the counter. -/
theorem startPending_frame (s : State) : s.startPending = { s with census := s.startPending.census } ∧
    s.startPending.census.published = s.census.published ∧ s.startPending.census.counter = s.census.counter := by
  cases full : s.census.fullPending with
  | true =>
    rw [startPending_full full]
    exact ⟨rfl, rfl, rfl⟩
  | false =>
    cases held : s.census.selectPending with
    | none =>
      rw [startPending_idle full held]
      exact ⟨rfl, rfl, rfl⟩
    | some f =>
      rw [startPending_select full held]
      exact ⟨startRun_eq _ _, startRun_published _ _, startRun_counter _ _⟩

/-! ### The pass of a publication (R126, R127) -/

/-- R127: what a pass latches is read from the activation records, the banks, the publication and the Fleet Table. -/
theorem State.LatchedBy.congr {s t : State} {l : PassLatch} (h : s.LatchedBy l)
    (activation : t.activation = s.activation) (products : t.products = s.products)
    (published : t.census.published = s.census.published) (fleet : t.fleet = s.fleet) : t.LatchedBy l where
  targets p := by rw [h.targets, State.act, State.act, activation]
  banks p := by rw [h.banks, State.bank, State.bank, products]
  roster := by rw [h.roster, published]
  census := by rw [h.census, published]
  slots slot := by
    have eligible : t.siteEligible = s.siteEligible := funext fun x => by
      simp only [State.siteEligible, State.feeder, fleet]
    rw [h.slots, State.siteAt, State.siteAt, fleet, eligible]

/-! ### What a publication leaves -/

section Publish
variable (s : State) (run : CensusRun)

/-- R64: the start of the pending run changes the census alone. -/
theorem publish_frame : s.publish run = { s.announced run with census := (s.publish run).census } :=
  (startPending_frame (s.announced run)).1

theorem publish_published : (s.publish run).census.published = some (s.publicationOf run) := by
  rw [publish_eq, (startPending_frame _).2.1, announced_census]
  rfl

theorem publish_counter : (s.publish run).census.counter = nextCensus s.census.counter := by
  rw [publish_eq, (startPending_frame _).2.2, announced_census]
  rfl

theorem publish_fleet : (s.publish run).fleet = s.fleet :=
  (congrArg State.fleet (publish_frame s run)).trans (announced_fleet s run)

theorem publish_time : (s.publish run).time = s.time :=
  (congrArg State.time (publish_frame s run)).trans (announced_time s run)

theorem publish_products : (s.publish run).products = s.products :=
  (congrArg State.products (publish_frame s run)).trans (announced_products s run)

theorem publish_activation : (s.publish run).activation = s.activation :=
  (congrArg State.activation (publish_frame s run)).trans (announced_activation s run)

theorem publish_params : (s.publish run).params = s.params :=
  (congrArg State.params (publish_frame s run)).trans (announced_params s run)

theorem publish_allocation : (s.publish run).allocation = (s.recorded run).trigger.allocation :=
  (congrArg State.allocation (publish_frame s run)).trans (announced_allocation s run)

theorem publish_terms : (s.publish run).book.offers.map Offer.terms = s.book.offers.map Offer.terms :=
  (congrArg (fun t : State => t.book.offers.map Offer.terms) (publish_frame s run)).trans (announced_terms s run)

theorem publish_noCensus (p : Product) : ((s.publish run).mon p).conditions.noCensus = false :=
  (congrArg (fun t : State => (t.mon p).conditions.noCensus) (publish_frame s run)).trans (announced_noCensus s run p)

/-- R126, R127: a publication makes one trigger; the pass it starts latches the new Roster. -/
theorem publish_triggersOnce : s.TriggersOnce (s.publish run) True := by
  have once := trigger_triggersOnce (s.recorded run)
  have pass := publish_allocation s run
  refine ⟨fun no => absurd trivial no, fun _ running => pass.trans (once.pended trivial running), fun _ idle => ?_⟩
  obtain ⟨l, latched, started⟩ := once.started trivial idle
  refine ⟨l, latched.congr ?_ ?_ ?_ ?_, pass.trans started⟩
  · rw [publish_activation, State.trigger_activation]; rfl
  · rw [publish_products, State.trigger_products]; rfl
  · rw [publish_published, State.trigger_census]; rfl
  · rw [publish_fleet, State.trigger_fleet]; rfl

end Publish

end Sys2Proof.Machine

namespace Sys2Proof.Machine

section PendingRun
variable {s : State} {run : CensusRun}

/-- R66: the run that starts after a publication latches the banks as they stand and the caps of what was published. -/
theorem publish_started {k : CensusKind} (h : s.publish run = (s.announced run).pendingTaken.startRun k) :
    (s.publish run).census.run = some
      { kind := k, banks := PerProduct.ofFn s.bank, caps := (s.publish run).latchedCaps k, nextSlot := 0, sweep := [],
        swept := [] } := by
  have bank : (s.publish run).bank = s.bank := funext fun p => by rw [State.bank, State.bank, publish_products]
  have same : (s.publish run).freshRun k = (s.announced run).pendingTaken.freshRun k := by
    refine freshRun_congr ?_ ?_ ?_ k
    · rw [publish_fleet, ← announced_fleet s run]; rfl
    · rw [publish_products, ← announced_products s run]; rfl
    · rw [h, startRun_published]
  have started : (s.publish run).census.run = some ((s.publish run).freshRun k) := by
    rw [same, ← startRun_run, ← h]
  rw [started, State.freshRun, bank]

/-- R64: a full pending run starts. -/
theorem publish_pendingFull (full : s.census.fullPending = true) :
    s.publish run = (s.announced run).pendingTaken.startRun .full := by
  rw [publish_eq, startPending_full]
  rw [announced_census]
  exact full

/-- R63, R64: a pending select run starts, as full when banks were switched. -/
theorem publish_pendingSelect {f : Nat} (free : s.census.fullPending = false) (held : s.census.selectPending = some f) :
    s.publish run =
      (s.announced run).pendingTaken.startRun (if s.census.banksSwitched = true then .full else .select f) := by
  have census := announced_census s run
  have kind : (s.announced run).selectKind f = if s.census.banksSwitched = true then .full else .select f := by
    simp only [State.selectKind, census, State.recorded, Option.isNone_some, Bool.false_or]
  rw [publish_eq, startPending_select (f := f), kind]
  · rw [census]; exact free
  · rw [census]; exact held

/-- R64: without a pending run the census state is IDLE. -/
theorem publish_idle (free : s.census.fullPending = false) (none : s.census.selectPending = none) :
    s.publish run = (s.announced run).pendingTaken := by
  rw [publish_eq, startPending_idle]
  · rw [announced_census]; exact free
  · rw [announced_census]; exact none

end PendingRun

/-- Settles O34: the Roster of either kind, the hand-on and the start of the pending run. -/
theorem publicationReplacesBothAndStartsThePendingRun : Obligations.PublicationReplacesBothAndStartsThePendingRun := by
  unfold Obligations.PublicationReplacesBothAndStartsThePendingRun
  intro s run running complete number made starts
  have once := publish_triggersOnce s run
  have switched : (s.announced run).pendingTaken.census.banksSwitched = s.census.banksSwitched := by
    simpa [State.pendingTaken, State.recorded] using congrArg Census.banksSwitched (announced_census s run)
  refine ⟨s.publish run, s.publicationOf run, execCensusPublish_publishes running complete, publish_published s run,
    publish_counter s run, rfl, rfl, rfl, rfl, fun p => PerProduct.get_ofFn _ p, fun nodup => ⟨fun full => ?_,
    fun f old select published entries feeders => ?_⟩, publish_noCensus s run, fun passing => ?_, fun idle => ?_,
    fun full => ?_, fun f free held => ?_, fun free none => ?_, publish_fleet s run, publish_time s run,
    publish_products s run, publish_activation s run, publish_params s run, publish_terms s run⟩
  · have roster : (s.publicationOf run).roster = fullRoster run number := by
      simp only [State.publicationOf, State.rosterOf, full]
      rfl
    rw [roster]
    exact ⟨fun f inside => fullRoster_feeder run number inside, fun slot e => fullRoster_entry nodup number slot e⟩
  · have roster : (s.publicationOf run).roster = mergeRoster run f number old.roster := by
      simp only [State.publicationOf, State.rosterOf, select, published]
      rfl
    rw [roster]
    exact ⟨mergeRoster_feeder_same entries feeders f number,
      fun g other => mergeRoster_feeder_other entries feeders f number other,
      fun slot e => mergeRoster_entry entries feeders f number nodup slot e⟩
  · rw [once.pended trivial passing]
    exact ⟨rfl, rfl⟩
  · obtain ⟨l, latched, started⟩ := once.started trivial idle
    exact ⟨l, by rw [started], latched, by rw [started]⟩
  · have begun := publish_pendingFull (run := run) full
    refine ⟨?_, ?_, ?_, publish_started begun, ?_⟩
    · rw [begun]; rfl
    · rw [begun]; rfl
    · rw [begun]; rfl
    · have now : (s.announced run).localTime = s.localTime := by rw [State.localTime, State.localTime, announced_time]
      rw [begun, startRun_full_census, ← announced_params s run, ← now]
      rfl
  · have begun := publish_pendingSelect (run := run) free held
    refine ⟨?_, publish_started begun, ?_⟩
    · rw [begun]
      split <;> rfl
    · rw [begun]
      split
      · rfl
      · next kept => exact switched.trans (Bool.eq_false_of_not_eq_true kept)
  · rw [publish_idle free none]
    exact ⟨rfl, switched⟩

end Sys2Proof.Machine

/-! # Proofs about the Offer Book, the reservation and the Grid Egress Arbiter's choice

First what a submission leaves outstanding (R86, R87), then the requests about offers (R83 to R85, R93, R98, R100, R101),
the notices posted and the arbiter's choice (R178, R193), and the book after a cold reset (R102). -/

namespace Sys2Proof.Machine

/-! ## Sums over the book -/

theorem mem_of_findOffer {s : State} {id : Nat} {o : Offer} (h : s.findOffer id = some o) : o ∈ s.book.offers :=
  List.mem_of_find?_eq_some h

theorem id_of_findOffer {s : State} {id : Nat} {o : Offer} (h : s.findOffer id = some o) : o.id = id :=
  of_decide_eq_true (List.find?_some (p := fun o : Offer => decide (o.id = id)) h)

/-- The record of one id changed, in a book of unique ids: the sum changes by that record's summand alone. -/
theorem sumOf_update_id {l : List Offer} (ids : (l.map (fun o => o.id)).Nodup) {o : Offer} (ho : o ∈ l)
    (f g : Offer → Nat) : sumOf l (fun x => if x.id = o.id then g x else f x) + f o = sumOf l f + g o := by
  induction l with
  | nil => cases ho
  | cons a l ih =>
    rw [List.map_cons, List.nodup_cons] at ids
    obtain ⟨fresh, ids⟩ := ids
    rcases List.mem_cons.1 ho with rfl | ho
    · have others : sumOf l (fun x => if x.id = o.id then g x else f x) = sumOf l f :=
        sumOf_congr fun x hx => if_neg fun same => fresh (List.mem_map.2 ⟨x, hx, same⟩)
      simp only [sumOf, if_true, others]
      omega
    · have other : a.id ≠ o.id := fun same => fresh (List.mem_map.2 ⟨o, ho, same.symm⟩)
      have rest := ih ids ho
      simp only [sumOf, if_neg other]
      omega

/-! ## The outstanding quantity (R86) -/

/-- What an offer adds to the outstanding quantity of (p, w). -/
def Offer.outstandingIn (o : Offer) (p : Product) (w : Nat) : Nat :=
  if o.product = p ∧ o.window = w then o.outstanding else 0

theorem outstanding_eq_sumOf (s : State) (p : Product) (w : Nat) :
    s.outstanding p w = sumOf s.book.offers (fun o => o.outstandingIn p w) := by
  let here (o : Offer) : Bool := decide (o.product = p) && decide (o.window = w)
  have inside : ∀ o ∈ s.book.offers.filter here, o.outstanding = o.outstandingIn p w := by
    intro o ho
    have named : o.product = p ∧ o.window = w := by simpa [here] using (List.mem_filter.1 ho).2
    exact (if_pos named).symm
  have outside : ∀ o ∈ s.book.offers, here o = false → o.outstandingIn p w = 0 := by
    intro o _ ho
    exact if_neg fun ⟨product, window⟩ => by simp [here, product, window] at ho
  exact (sumOf_congr inside).trans (sumOf_filter_of_zero here _ outside)

theorem mapOffer_outstanding (s : State) (id : Nat) (f : Offer → Offer) (p : Product) (w : Nat) :
    (s.mapOffer id f).outstanding p w =
      sumOf s.book.offers (fun o => if o.id = id then (f o).outstandingIn p w else o.outstandingIn p w) := by
  rw [outstanding_eq_sumOf, State.mapOffer, sumOf_map]
  exact sumOf_congr fun o _ => apply_ite (fun x : Offer => x.outstandingIn p w) _ _ _

/-- R88: every record an OFFER entry of the source queue names is QUEUED. -/
def State.EntriesQueued (s : State) : Prop :=
  ∀ id : Nat, OfferEntry.offer id ∈ s.arbiter.offers → ∀ o ∈ s.book.offers, o.id = id → o.state = .queued

theorem State.EntriesHeld.entriesQueued {s : State} (h : s.EntriesHeld) : s.EntriesQueued := by
  intro id entry o ho named
  obtain ⟨a, ha, same, queued⟩ := h.named id entry
  rw [h.eq_of_id ho ha (named.trans same.symm)]
  exact queued

/-- R88: a QUEUED record keeps its quantity as it becomes SUBMITTED, and so the outstanding quantity stands. -/
theorem handOverOffer_outstanding {s : State} {id : Nat} (queued : ∀ o ∈ s.book.offers, o.id = id → o.state = .queued)
    (p : Product) (w : Nat) : (s.handOverOffer id).outstanding p w = s.outstanding p w := by
  unfold State.handOverOffer
  split
  · rfl
  · rw [outstanding_eq_sumOf s]
    refine (mapOffer_outstanding _ id (fun o => { o with state := .submitted }) p w).trans (sumOf_congr fun o ho => ?_)
    split
    · next named => simp [Offer.outstandingIn, Offer.outstanding, queued o ho named]
    · rfl

theorem handOver_outstanding {s : State} (queued : s.EntriesQueued) (x : Source) (p : Product) (w : Nat) :
    (s.handOver x).outstanding p w = s.outstanding p w := by
  cases x with
  | offer =>
    unfold State.handOver
    dsimp only
    split
    · rfl
    · next id rest head =>
      exact handOverOffer_outstanding (s := { s with arbiter := { s.arbiter with offers := rest } })
        (queued id (by rw [head]; exact .head _)) p w
    · unfold State.handOverWithdraw
      split <;> rfl
  | ack | availability | report | response | notice =>
    unfold State.handOver
    dsimp only
    split <;> rfl

/-- R178: the arbiter's choice leaves the outstanding quantity. -/
theorem choose_outstanding {s : State} (queued : s.EntriesQueued) (p : Product) (w : Nat) :
    s.choose.outstanding p w = s.outstanding p w := by
  unfold State.choose
  split
  · split
    · rfl
    · exact handOver_outstanding queued _ p w
  · rfl

theorem placeOfferEntry_outstanding {s : State} {e : OfferEntry}
    (queued : ({ s with arbiter := { s.arbiter with offers := s.arbiter.offers ++ [e] } } : State).EntriesQueued)
    (p : Product) (w : Nat) : (s.placeOfferEntry e).outstanding p w = s.outstanding p w := by
  unfold State.placeOfferEntry State.afterPlacing
  split
  · exact choose_outstanding queued p w
  · rfl

/-- R85, R86: a DRAFT record queued at `q` adds `q` to the outstanding quantity of its product and window. -/
theorem queueOffer_outstanding {s : State} (held : s.EntriesHeld) {o : Offer} (ho : s.findOffer o.id = some o)
    (draft : o.state = .draft) (q : Nat) :
    (s.queueOffer o.id q).outstanding o.product o.window = s.outstanding o.product o.window + q := by
  let queue (x : Offer) : Offer := { x with state := .queued, quantity := q }
  have entries : ({ (s.mapOffer o.id queue).clearReservation o.id with
      arbiter := { s.arbiter with offers := s.arbiter.offers ++ [.offer o.id] } } : State).EntriesQueued := by
    intro id entry y hy named
    obtain ⟨x, hx, rfl⟩ := List.mem_map.1 hy
    by_cases same : x.id = o.id
    · rw [if_pos same]
    · rw [if_neg same] at named ⊢
      rcases List.mem_append.1 entry with old | new
      · exact held.entriesQueued id old x hx named
      · cases List.mem_singleton.1 new
        exact absurd named same
  have one := sumOf_update_id held.ids (mem_of_findOffer ho) (fun x => x.outstandingIn o.product o.window)
    (fun x => (queue x).outstandingIn o.product o.window)
  have before : o.outstandingIn o.product o.window = 0 := by simp [Offer.outstandingIn, Offer.outstanding, draft]
  have after : (queue o).outstandingIn o.product o.window = q := if_pos ⟨rfl, rfl⟩
  rw [before, after, ← mapOffer_outstanding s o.id queue, ← outstanding_eq_sumOf] at one
  exact (placeOfferEntry_outstanding (s := (s.mapOffer o.id queue).clearReservation o.id) entries _ _).trans one

/-! ## The guard (R86, R87) -/

/-- R86, R87: the quantity the guard passes is within what the outstanding quantity leaves of the offerable one. -/
theorem guardQuantity_le {b : Bank} {o : Offer} {offerable outstanding q : Nat}
    (h : guardQuantity b o offerable outstanding = some q) : outstanding + q ≤ offerable := by
  unfold guardQuantity at h
  split at h
  · split at h
    · next room =>
      cases h
      exact room
    · cases h
  · dsimp only at h
    split at h
    · cases h
    · next sized =>
      cases h
      have step : followQuantity b o.quantity offerable outstanding ≤ offerable - outstanding :=
        (Nat.div_mul_le_self _ _).trans (Nat.min_le_right _ _)
      omega

/-- R85: a submission judged good has passed the guard over the Snapshot in force, each check before it answering with a
refusal. -/
theorem guardQuantity_of_judged {s : State} {o : Offer} {x : Publication} {q : Nat}
    (published : s.census.published = some x) (judged : s.judgeSubmission o = .ok q) :
    guardQuantity (s.bank o.product) o (x.snapshot.products.get o.product).offerable
      (s.outstanding o.product o.window) = some q := by
  unfold State.judgeSubmission at judged
  rw [published] at judged
  dsimp only at judged
  repeat (split at judged; · cases judged)
  next passed =>
    cases judged
    exact passed

/-- Settles O23: the record was DRAFT and counted nothing, it counts `q` once queued, and the guard left room for `q`; a
hand-over by the arbiter changes no quantity. -/
theorem submissionStaysWithinTheOfferable : Obligations.SubmissionStaysWithinTheOfferable := by
  unfold Obligations.SubmissionStaysWithinTheOfferable
  intro s o x q held found draft published judged
  rw [queueOffer_outstanding (entriesHeld_of_bookHeld held) found draft]
  exact guardQuantity_le (guardQuantity_of_judged published judged)

end Sys2Proof.Machine

namespace Sys2Proof.Machine

/-! ## The octets of a request about offers (R83, R84, R198) -/

theorem OfferMode.ofCode_code (m : OfferMode) : OfferMode.ofCode m.code = some m := by
  cases m <;> rfl

theorem OfferMode.ofCode_above {n : Nat} (h : 1 < n) : OfferMode.ofCode n = none := by
  match n, h with
  | _ + 2, _ => rfl

theorem optionOctet_above {n : Nat} (h : 1 < n) : optionOctet n = none := by
  rw [optionOctet, if_neg (by omega), if_neg (by omega)]

/-- R83, check 5: a quantity in range under a bank, by the mode. -/
def Bank.TermsHold (b : Bank) (mode : OfferMode) (q : Nat) : Prop :=
  match mode with
  | .fixed => 0 < q ∧ q % b.increment = 0 ∧ b.minBid ≤ q ∧ q ≤ b.maxBid
  | .follow => q ≤ 100000000

theorem quantityOk_iff (b : Bank) (mode : OfferMode) (q : Nat) : quantityOk b mode q = true ↔ b.TermsHold mode q := by
  cases mode <;> simp [quantityOk, Bank.TermsHold, and_assoc]

theorem not_quantityOk_iff (b : Bank) (mode : OfferMode) (q : Nat) :
    quantityOk b mode q = false ↔ ¬ b.TermsHold mode q := by
  rw [← quantityOk_iff, Bool.not_eq_true]

section Terms
variable {b : Bank} {mode : OfferMode} {n q : Nat}

theorem termsOf_unlisted (h : 1 < n) : termsOf b n q = none := by
  rw [termsOf, OfferMode.ofCode_above h]
  rfl

theorem termsOf_outside (listed : mode.code = n) (h : ¬ b.TermsHold mode q) : termsOf b n q = none := by
  rw [termsOf, ← listed, mode.ofCode_code]
  exact Option.filter_some_neg ((not_quantityOk_iff b mode q).2 h)

theorem termsOf_inside (listed : mode.code = n) (h : b.TermsHold mode q) : termsOf b n q = some mode := by
  rw [termsOf, ← listed, mode.ofCode_code]
  exact Option.filter_some_pos ((quantityOk_iff b mode q).2 h)

end Terms

theorem notSet_iff (s : State) : s.time.clock = .notSet ↔ s.deviceTime = none := by
  unfold State.deviceTime Clock.device
  cases s.time.clock <;> simp

/-! ## A free id (R81) -/

/-- R81: ids run through 1 to 65,535 in a circle. -/
theorem nextId_iterate {id : Nat} (low : 1 ≤ id) (high : id ≤ 65535) (k : Nat) :
    nextId^[k] id = (id - 1 + k) % 65535 + 1 := by
  induction k with
  | zero =>
    rw [Function.iterate_zero_apply]
    omega
  | succ k ih =>
    rw [Function.iterate_succ_apply', ih, nextId]
    split <;> omega

/-- An id that the search gives though it is taken had every id before it taken. -/
theorem taken_of_freeId {s : State} {fuel id : Nat} (h : s.findOffer (s.freeId fuel id) ≠ none) :
    ∀ k < fuel, s.findOffer (nextId^[k] id) ≠ none := by
  induction fuel generalizing id with
  | zero => exact fun k hk => absurd hk (Nat.not_lt_zero k)
  | succ fuel ih =>
    unfold State.freeId at h
    split at h
    · next taken =>
      intro k hk
      cases k with
      | zero => exact Option.isSome_iff_ne_none.1 taken
      | succ k => exact ih h k (Nat.lt_of_succ_lt_succ hk)
    · next free => exact absurd (Option.not_isSome_iff_eq_none.1 free) h

/-- R81: a book of at most 512 records leaves one of the 513 ids tried free. -/
theorem findOffer_newId {s : State} (room : s.book.offers.length ≤ Config.bookSize) : s.findOffer s.newId = none := by
  by_contra taken
  have bounds : 1 ≤ nextId s.book.lastId ∧ nextId s.book.lastId ≤ 65535 := by
    unfold nextId
    split <;> omega
  have tried := taken_of_freeId taken
  generalize nextId s.book.lastId = first at bounds tried
  obtain ⟨low, high⟩ := bounds
  have distinct : ((List.range (Config.bookSize + 1)).map (fun k => nextId^[k] first)).Nodup := by
    refine List.Nodup.map_on (fun i hi j hj same => ?_) List.nodup_range
    rw [nextId_iterate low high, nextId_iterate low high] at same
    have hi' : i < 513 := List.mem_range.1 hi
    have hj' : j < 513 := List.mem_range.1 hj
    omega
  have within : (List.range (Config.bookSize + 1)).map (fun k => nextId^[k] first) ⊆
      s.book.offers.map (fun o => o.id) := by
    intro id hid
    obtain ⟨k, hk, rfl⟩ := List.mem_map.1 hid
    obtain ⟨o, found⟩ := Option.ne_none_iff_exists'.1 (tried k (List.mem_range.1 hk))
    exact List.mem_map.2 ⟨o, mem_of_findOffer found, id_of_findOffer found⟩
  have most := (distinct.subperm within).length_le
  rw [List.length_map, List.length_map, List.length_range] at most
  omega

theorem takeRequest_newId (s : State) : s.takeRequest.newId = s.newId := by
  have search (fuel : Nat) : ∀ id, s.takeRequest.freeId fuel id = s.freeId fuel id := by
    induction fuel with
    | zero => exact fun _ => rfl
    | succ fuel ih =>
      intro id
      rw [State.freeId, State.freeId, ih]
      rfl
  exact search _ _

/-! ## CREATE_OFFER (R83) -/

section Create
variable {s : State} {r : PendingRequest}

theorem execCreateOffer_run (next : s.nextOf 14 = some r) (length : r.payload.length = 17) :
    exec .createOffer s = .next (s.takeRequest.createOffer r) :=
  congrArg _ (request_run next length)

theorem createOffer_unlisted (h : 7 < fieldAt r.payload 1 1 ∨ 1 < fieldAt r.payload 8 1) :
    s.createOffer r = s.respond r (some .badField) [] := by
  unfold State.createOffer
  rcases h with product | mode
  · rw [productOf_above product]
  · rw [OfferMode.ofCode_above mode]
    cases productOf (fieldAt r.payload 1 1) <;> rfl

variable {p : Product} {mode : OfferMode}

theorem createOffer_refused (product : p.val = fieldAt r.payload 1 1) (listed : mode.code = fieldAt r.payload 8 1)
    {e : Reason} (fails : s.createRefusal p (fieldAt r.payload 2 6) mode (fieldAt r.payload 9 4) = some e) :
    s.createOffer r = s.respond r (some e) [] := by
  rw [State.createOffer, ← product, ← listed, productOf_val, mode.ofCode_code]
  simp only [fails]

theorem createOffer_drafted (product : p.val = fieldAt r.payload 1 1) (listed : mode.code = fieldAt r.payload 8 1)
    (passes : s.createRefusal p (fieldAt r.payload 2 6) mode (fieldAt r.payload 9 4) = none) :
    let o := s.draft p (fieldAt r.payload 2 6) mode (fieldAt r.payload 9 4) (signedAt r.payload 13 4)
    s.createOffer r = (s.addOffer o).respond r none (octetsOf 2 o.id ++ octetsOf 2 ((s.addOffer o).positionOf o.id)) := by
  rw [State.createOffer, ← product, ← listed, productOf_val, mode.ofCode_code]
  simp only [passes]

theorem createRefusal_noTime (unset : s.deviceTime = none) (w q : Nat) :
    s.createRefusal p w mode q = some .noTime := by
  rw [State.createRefusal, State.currentWindow, unset]
  rfl

/-- R83: the checks after the clock's, in order. -/
theorem createRefusal_eq {d : Nat} (set : s.deviceTime = some d) (w q : Nat) : s.createRefusal p w mode q =
    if (s.bank p).enabled = false then some .wrongState
    else if ¬ (d / s.windowMs + 1 ≤ w ∧ w ≤ d / s.windowMs + 47) then some .badField
    else if quantityOk (s.bank p) mode q = false then some .badField
    else if s.gateClosed p w = true then some .gateClosed
    else if 8 ≤ s.liveOffers p w then some .ladderFull
    else if 512 ≤ s.book.offers.length then some .bookFull
    else none := by
  rw [State.createRefusal, State.currentWindow, set]
  simp only [Option.map_some, State.windowOf, Bool.not_eq_true']
  rfl

end Create

/-- Settles O20: each clause picks its check out of R83's order. -/
theorem createOfferIsJudgedInOrder : Obligations.CreateOfferIsJudgedInOrder := by
  unfold Obligations.CreateOfferIsJudgedInOrder
  intro s r next length u w q refused
  have run : exec .createOffer s = .next (u.createOffer r) := execCreateOffer_run next length
  refine ⟨fun unlisted => run.trans (congrArg _ (createOffer_unlisted unlisted)), fun p mode product listed => ?_⟩
  intro b termsHold
  have refuse {e : Reason} (fails : u.createRefusal p w mode q = some e) : refused e :=
    run.trans (congrArg _ (createOffer_refused product listed fails))
  refine ⟨fun unset => refuse (createRefusal_noTime (s := u) unset w q), fun d set => ?_⟩
  intro inRing
  have checks := createRefusal_eq (s := u) (p := p) (mode := mode) set w q
  refine ⟨fun disabled => ?_, fun enabled out => ?_, fun enabled inside bad => ?_, fun enabled inside terms closed => ?_,
    fun enabled inside terms opened full => ?_, fun enabled inside terms opened few full => ?_,
    fun enabled inside terms opened few room => ?_⟩
  · exact refuse (checks.trans (if_pos disabled))
  all_goals replace checks := checks.trans (if_neg (ne_false_of_eq_true enabled))
  · exact refuse (checks.trans (if_pos out))
  all_goals replace checks := checks.trans (if_neg (not_not_intro inside))
  · exact refuse (checks.trans (if_pos ((not_quantityOk_iff b mode q).2 bad)))
  all_goals replace checks := checks.trans (if_neg (ne_false_of_eq_true ((quantityOk_iff b mode q).2 terms)))
  · exact refuse (checks.trans (if_pos closed))
  all_goals replace checks := checks.trans (if_neg (ne_true_of_eq_false opened))
  · exact refuse (checks.trans (if_pos full))
  all_goals replace checks := checks.trans (if_neg (Nat.not_le_of_lt few))
  · exact refuse (checks.trans (if_pos full))
  · rw [← takeRequest_newId s]
    exact ⟨findOffer_newId (s := u) (Nat.le_of_lt room),
      run.trans (congrArg _ (createOffer_drafted product listed (checks.trans (if_neg (Nat.not_le_of_lt room)))))⟩

end Sys2Proof.Machine

namespace Sys2Proof.Machine

/-! ## UPDATE_OFFER and WITHDRAW_OFFER (R84, R93) -/

section Requests
variable {s : State} {r : PendingRequest}

theorem execUpdateOffer_run (next : s.nextOf 15 = some r) (length : r.payload.length = 12) :
    exec .updateOffer s = .next (s.takeRequest.updateOffer r) :=
  congrArg _ (request_run next length)

theorem execSubmitOffer_run (next : s.nextOf 16 = some r) (length : r.payload.length = 3) :
    exec .submitOffer s = .next (s.takeRequest.submitOffer r) :=
  congrArg _ (request_run next length)

theorem execWithdrawOffer_run (next : s.nextOf 17 = some r) (length : r.payload.length = 3) :
    exec .withdrawOffer s = .next (s.takeRequest.withdrawRequest r) :=
  congrArg _ (request_run next length)

theorem execRetireOffers_run (next : s.nextOf 18 = some r) (length : r.payload.length = 14) :
    exec .retireOffers s = .next (s.takeRequest.retireOffers r) :=
  congrArg _ (request_run next length)

theorem updateOffer_unknown (h : s.findOffer (fieldAt r.payload 1 2) = none) :
    s.updateOffer r = s.respond r (some .noSuchRecord) [] := by
  rw [State.updateOffer, h]
  rfl

variable {o : Offer}

theorem updateOffer_wrongState (found : s.findOffer (fieldAt r.payload 1 2) = some o) (h : o.state ≠ .draft) :
    s.updateOffer r = s.respond r (some .wrongState) [] := by
  simp only [State.updateOffer, found, if_pos h]
  rfl

theorem updateOffer_badTerms (found : s.findOffer (fieldAt r.payload 1 2) = some o) (draft : o.state = .draft)
    (bad : termsOf (s.bank o.product) (fieldAt r.payload 11 1) (fieldAt r.payload 3 4) = none) :
    s.updateOffer r = s.respond r (some .badField) [] := by
  simp only [State.updateOffer, found, if_neg (not_not_intro draft), bad]
  rfl

theorem updateOffer_updated {mode : OfferMode} (found : s.findOffer (fieldAt r.payload 1 2) = some o)
    (draft : o.state = .draft)
    (terms : termsOf (s.bank o.product) (fieldAt r.payload 11 1) (fieldAt r.payload 3 4) = some mode) :
    s.updateOffer r = ((s.mapOffer o.id (fun x =>
      x.updated mode (fieldAt r.payload 3 4) (signedAt r.payload 7 4))).clearReservation o.id).respond r none [] := by
  simp only [State.updateOffer, found, if_neg (not_not_intro draft), terms]
  rfl

theorem withdrawRequest_unknown (h : s.findOffer (fieldAt r.payload 1 2) = none) :
    s.withdrawRequest r = s.respond r (some .noSuchRecord) [] := by
  rw [State.withdrawRequest, h]
  rfl

theorem withdrawRequest_named (found : s.findOffer (fieldAt r.payload 1 2) = some o) :
    s.withdrawRequest r = s.answer r (s.withdrawOffer o) := by
  rw [State.withdrawRequest, found]

/-- R93: past SUBMITTED, and in a terminal state, an offer is not withdrawn. -/
theorem withdrawOffer_wrongState (draft : o.state ≠ .draft) (queued : o.state ≠ .queued)
    (submitted : o.state ≠ .submitted) : s.withdrawOffer o = .error .wrongState := by
  unfold State.withdrawOffer
  split
  · next is => exact absurd is draft
  · next is => exact absurd is queued
  · next is => exact absurd is submitted
  all_goals rfl

/-! ## RETIRE_OFFERS (R98) -/

theorem retireRange_refused {a : Octets} (h : 1 < fieldAt a 1 1 ∨ (fieldAt a 1 1 = 0 ∧ fieldAt a 8 6 < fieldAt a 2 6)) :
    retireRange a = none := by
  unfold retireRange
  rcases h with unlisted | ⟨some, reversed⟩
  · rw [optionOctet_above unlisted]
  · rw [some]
    exact if_neg (Nat.not_le_of_lt reversed)

/-- R98: a range that is taken, with the records it retires by the octets of the request. -/
theorem retireRange_taken {a : Octets} (h : fieldAt a 1 1 = 1 ∨ (fieldAt a 1 1 = 0 ∧ fieldAt a 2 6 ≤ fieldAt a 8 6)) :
    ∃ range, retireRange a = some range ∧ retired range = fun o =>
      o.state.terminal && (decide (fieldAt a 1 1 = 1) ||
        (decide (fieldAt a 2 6 ≤ o.window) && decide (o.window ≤ fieldAt a 8 6))) := by
  unfold retireRange
  rcases h with all | ⟨some, inOrder⟩
  · rw [all]
    exact ⟨none, rfl, rfl⟩
  · rw [some]
    exact ⟨_, if_pos inOrder, rfl⟩

theorem retire_reservation_lost {id : Nat} (range : Option (Nat × Nat)) (h : s.book.reservation = some id) :
    (s.retire range).book.reservation =
      if ∃ o ∈ s.book.offers, o.id = id ∧ retired range o = true then none else some id := by
  simp only [State.retire, h, List.any_eq_true, Bool.and_eq_true, decide_eq_true_eq]

theorem retire_reservation_absent (range : Option (Nat × Nat)) (h : s.book.reservation = none) :
    (s.retire range).book.reservation = none := by
  simp only [State.retire, h]

theorem retireOffers_refused (h : retireRange r.payload = none) : s.retireOffers r = s.respond r (some .badField) [] := by
  rw [State.retireOffers, h]

theorem retireOffers_taken {range : Option (Nat × Nat)} (h : retireRange r.payload = some range) : s.retireOffers r =
    (s.retire range).respond r none (octetsOf 2 (s.book.offers.filter (retired range)).length) := by
  rw [State.retireOffers, h]

end Requests

/-- Settles O21: each request runs on the record it names, by the record's state. -/
theorem offersAreUpdatedWithdrawnAndRetired : Obligations.OffersAreUpdatedWithdrawnAndRetired := by
  unfold Obligations.OffersAreUpdatedWithdrawnAndRetired
  refine ⟨fun s r next length => ?_, fun s r next length => ?_, fun s r next length => ?_⟩
  · intro u q refused
    have run : exec .updateOffer s = .next (u.updateOffer r) := execUpdateOffer_run next length
    refine ⟨fun unknown => run.trans (congrArg _ (updateOffer_unknown unknown)), fun o found => ?_⟩
    have found' : u.findOffer (fieldAt r.payload 1 2) = some o := found
    refine ⟨fun other => ?_, fun draft unlisted => ?_, fun mode draft listed => ⟨fun bad => ?_, fun terms => ?_⟩⟩
    · exact run.trans (congrArg _ (updateOffer_wrongState found' other))
    · exact run.trans (congrArg _ (updateOffer_badTerms found' draft (termsOf_unlisted unlisted)))
    · exact run.trans (congrArg _ (updateOffer_badTerms found' draft (termsOf_outside listed bad)))
    · exact run.trans (congrArg _ (updateOffer_updated found' draft (termsOf_inside listed terms)))
  · intro u
    have run : exec .withdrawOffer s = .next (u.withdrawRequest r) := execWithdrawOffer_run next length
    refine ⟨fun unknown => run.trans (congrArg _ (withdrawRequest_unknown unknown)), fun o found => ?_⟩
    rw [withdrawRequest_named (s := u) found] at run
    refine ⟨fun draft => ?_, fun queued => ?_, fun submitted => ?_, fun draft queued submitted => ?_⟩
    · rwa [State.withdrawOffer, draft] at run
    · rwa [State.withdrawOffer, queued] at run
    · rwa [State.withdrawOffer, submitted] at run
    · rwa [withdrawOffer_wrongState draft queued submitted] at run
  · intro u all first last gone
    have run : exec .retireOffers s = .next (u.retireOffers r) := execRetireOffers_run next length
    refine ⟨fun bad => run.trans (congrArg _ (retireOffers_refused (retireRange_refused bad))), fun good => ?_⟩
    obtain ⟨range, taken, isGone⟩ := retireRange_taken good
    have isGone' : retired range = gone := isGone
    refine ⟨u.retire range, ?_, ?_, fun id held => ?_, fun absent => ?_⟩
    · rw [run, retireOffers_taken taken, isGone']
      rfl
    · rw [← isGone']
      rfl
    · rw [← isGone']
      exact retire_reservation_lost (s := u) range held
    · exact retire_reservation_absent (s := u) range absent

end Sys2Proof.Machine

namespace Sys2Proof.Machine

/-! ## The checks of a submission (R85 to R87) -/

section Submit
variable {s : State} {o : Offer} {x : Publication}

theorem running_of_set (set : s.deviceTime.isSome = true) : ¬ s.time.clock = .notSet := fun unset => by
  rw [(notSet_iff s).1 unset] at set
  cases set

theorem judgeSubmission_noTime (unset : s.deviceTime = none) : s.judgeSubmission o = .error .noTime :=
  if_pos ((notSet_iff s).2 unset)

theorem judgeSubmission_disabled (set : s.deviceTime.isSome = true) (disabled : (s.bank o.product).enabled = false) :
    s.judgeSubmission o = .error .wrongState := by
  rw [State.judgeSubmission, if_neg (running_of_set set), if_pos (by rw [disabled]; rfl)]

theorem judgeSubmission_noCensus (set : s.deviceTime.isSome = true) (enabled : (s.bank o.product).enabled = true)
    (none : s.census.published = none) : s.judgeSubmission o = .error .noCensus := by
  rw [State.judgeSubmission, if_neg (running_of_set set), if_neg (by rw [enabled]; nofun), none]

/-- R85, checks 6 to 8: the gate, the terms of a FIXED offer, and the guard. -/
theorem judgeSubmission_published (set : s.deviceTime.isSome = true) (enabled : (s.bank o.product).enabled = true)
    (published : s.census.published = some x) : s.judgeSubmission o =
      if s.gateClosed o.product o.window = true then .error .gateClosed
      else if o.mode = .fixed ∧ quantityOk (s.bank o.product) .fixed o.quantity = false then .error .badField
      else ((guardQuantity (s.bank o.product) o (x.snapshot.products.get o.product).offerable
        (s.outstanding o.product o.window)).elim (.error .overCapacity) .ok) := by
  rw [State.judgeSubmission, if_neg (running_of_set set), if_neg (by rw [enabled]; nofun), published]
  dsimp only
  generalize guardQuantity _ _ _ _ = guarded
  cases guarded <;> rfl

variable {b : Bank} {offerable held : Nat}

theorem guardQuantity_fixed (fixed : o.mode = .fixed) : guardQuantity b o offerable held =
    if held + o.quantity ≤ offerable then some o.quantity else none := by
  rw [guardQuantity, fixed]

theorem guardQuantity_follow (follow : o.mode = .follow) : guardQuantity b o offerable held =
    if followQuantity b o.quantity offerable held = 0 ∨ followQuantity b o.quantity offerable held < b.minBid then none
    else some (followQuantity b o.quantity offerable held) := by
  rw [guardQuantity, follow]

/-! ## SUBMIT_OFFER (R85) -/

variable {r : PendingRequest}

theorem submitOffer_unknown (h : s.findOffer (fieldAt r.payload 1 2) = none) :
    s.submitOffer r = s.respond r (some .noSuchRecord) [] := by
  rw [State.submitOffer, h]

theorem submitOffer_wrongState (found : s.findOffer (fieldAt r.payload 1 2) = some o) (h : o.state ≠ .draft) :
    s.submitOffer r = s.respond r (some .wrongState) [] := by
  simp only [State.submitOffer, found, if_pos h]

theorem submitOffer_refused (found : s.findOffer (fieldAt r.payload 1 2) = some o) (draft : o.state = .draft) {e : Reason}
    (judged : s.judgeSubmission o = .error e) : s.submitOffer r = s.respond r (some e) [] := by
  simp only [State.submitOffer, found, if_neg (not_not_intro draft), judged]

theorem submitOffer_queued (found : s.findOffer (fieldAt r.payload 1 2) = some o) (draft : o.state = .draft) {q : Nat}
    (judged : s.judgeSubmission o = .ok q) :
    s.submitOffer r = (s.queueOffer o.id q).respond r none (octetsOf 4 q) := by
  simp only [State.submitOffer, found, if_neg (not_not_intro draft), judged]

end Submit

/-- Settles O22: each clause picks its check out of R85's order, and the last two cases are the guard's. -/
theorem submitOfferIsJudgedInOrder : Obligations.SubmitOfferIsJudgedInOrder := by
  unfold Obligations.SubmitOfferIsJudgedInOrder
  intro s r next length u refused
  have run : exec .submitOffer s = .next (u.submitOffer r) := execSubmitOffer_run next length
  refine ⟨fun unknown => run.trans (congrArg _ (submitOffer_unknown unknown)), fun o found => ?_⟩
  intro b held fixedHolds
  have found' : u.findOffer (fieldAt r.payload 1 2) = some o := found
  have refuse (draft : o.state = .draft) {e : Reason} (judged : u.judgeSubmission o = .error e) : refused e :=
    run.trans (congrArg _ (submitOffer_refused found' draft judged))
  refine ⟨fun other => run.trans (congrArg _ (submitOffer_wrongState found' other)),
    fun draft unset => refuse draft (judgeSubmission_noTime unset),
    fun draft set disabled => refuse draft (judgeSubmission_disabled set disabled),
    fun draft set enabled none => refuse draft (judgeSubmission_noCensus set enabled none),
    fun x draft set enabled published => ?_⟩
  intro offerable ceiling sized
  have checks : u.judgeSubmission o = _ := judgeSubmission_published set enabled published
  refine ⟨fun closed => ?_, fun opened bad => ?_, fun opened good => ?_⟩
  · exact refuse draft (checks.trans (if_pos closed))
  all_goals replace checks := checks.trans (if_neg (ne_true_of_eq_false opened))
  · obtain ⟨fixed, outside⟩ := Classical.not_imp.1 bad
    exact refuse draft (checks.trans (if_pos ⟨fixed, (not_quantityOk_iff b .fixed o.quantity).2 outside⟩))
  replace checks := checks.trans (if_neg fun ⟨fixed, outside⟩ =>
    (not_quantityOk_iff b .fixed o.quantity).1 outside (good fixed))
  have judge {g : Option Nat} (guarded : guardQuantity b o offerable held = g) :
      u.judgeSubmission o = g.elim (.error .overCapacity) .ok := by
    rw [← guarded]
    exact checks
  refine ⟨fun fixed above => ?_, fun follow small => ?_, fun q passes => ?_⟩
  · exact refuse draft (judge ((guardQuantity_fixed fixed).trans (if_neg (Nat.not_le_of_lt above))))
  · exact refuse draft (judge ((guardQuantity_follow follow).trans (if_pos small)))
  · suffices guarded : guardQuantity b o offerable held = some q from
      run.trans (congrArg _ (submitOffer_queued found' draft (judge guarded)))
    rcases passes with ⟨fixed, room, rfl⟩ | ⟨follow, nonzero, enough, rfl⟩
    · exact (guardQuantity_fixed fixed).trans (if_pos room)
    · exact (guardQuantity_follow follow).trans (if_neg fun small => small.elim nonzero (Nat.not_lt_of_le enough))

end Sys2Proof.Machine

namespace Sys2Proof.Machine

/-! ## READ_OFFER_RESERVED and UPDATE_OFFER_CONDITIONAL (R100, R101) -/

section Reserved
variable {s : State} {r : PendingRequest} {o : Offer}

theorem execReadOfferReserved_run (next : s.nextOf 19 = some r) (length : r.payload.length = 3) :
    exec .readOfferReserved s = .next (s.takeRequest.readReserved r) :=
  congrArg _ (request_run next length)

theorem execUpdateOfferConditional_run (next : s.nextOf 20 = some r) (length : r.payload.length = 13) :
    exec .updateOfferConditional s = .next (s.takeRequest.updateConditional r) :=
  congrArg _ (request_run next length)

theorem readReserved_unknown (h : s.findOffer (fieldAt r.payload 1 2) = none) :
    s.readReserved r = (s.reserve none).respond r (some .noSuchRecord) [] := by
  rw [State.readReserved, h]

theorem readReserved_found (found : s.findOffer (fieldAt r.payload 1 2) = some o) :
    s.readReserved r = (s.reserve (some o.id)).respond r none (o.octets (s.positionOf o.id)) := by
  rw [State.readReserved, found]

theorem reservedDraft_some {id : Nat} (reserved : s.book.reservation = some id) (found : s.findOffer id = some o)
    (draft : o.state = .draft) : s.reservedDraft id = some o := by
  rw [State.reservedDraft, if_pos reserved, found]
  exact Option.filter_some_pos (decide_eq_true draft)

theorem reservedDraft_none {id : Nat}
    (h : s.book.reservation ≠ some id ∨ ¬ ∃ o, s.findOffer id = some o ∧ o.state = .draft) :
    s.reservedDraft id = none := by
  unfold State.reservedDraft
  split
  · next reserved =>
    refine Option.filter_eq_none_iff.2 fun o found draft => ?_
    exact h.elim (fun other => other reserved) fun none => none ⟨o, found, of_decide_eq_true draft⟩
  · rfl

/-- Section 11.4: the body while nothing is queued. -/
theorem conditionalBody_zero (applied : Bool) : conditionalBody applied 0 = [if applied then 1 else 0, 0, 0, 0, 0] := by
  cases applied <;> rfl

theorem updateConditional_notReserved (h : s.reservedDraft (fieldAt r.payload 1 2) = none) :
    s.updateConditional r = (s.reserve none).respond r (some .notReserved) [0, 0, 0, 0, 0] := by
  simp only [State.updateConditional, h]
  rw [conditionalBody_zero]
  rfl

/-- R101, step 2: bad terms, or an unlisted submit-after octet (log entry 15). -/
theorem updateConditional_badField (reserved : s.reservedDraft (fieldAt r.payload 1 2) = some o)
    (bad : termsOf (s.bank o.product) (fieldAt r.payload 11 1) (fieldAt r.payload 3 4) = none ∨
      optionOctet (fieldAt r.payload 12 1) = none) :
    s.updateConditional r = (s.reserve none).respond r (some .badField) [0, 0, 0, 0, 0] := by
  rw [show ([0, 0, 0, 0, 0] : Octets) = conditionalBody false 0 from rfl]
  simp only [State.updateConditional, reserved]
  rcases bad with terms | submit
  · rw [terms]
  · rw [submit]
    cases termsOf (s.bank o.product) (fieldAt r.payload 11 1) (fieldAt r.payload 3 4) <;> rfl

/-- R101, steps 3 to 5: the record `o` updated, and the reservation gone. -/
def State.conditionallyUpdated (s : State) (o y : Offer) : State := (s.mapOffer o.id (fun _ => y)).reserve none

variable {mode : OfferMode}

theorem updateConditional_updated (reserved : s.reservedDraft (fieldAt r.payload 1 2) = some o)
    (terms : termsOf (s.bank o.product) (fieldAt r.payload 11 1) (fieldAt r.payload 3 4) = some mode)
    {submit : Bool} (listed : optionOctet (fieldAt r.payload 12 1) = some submit) :
    let y := o.updated mode (fieldAt r.payload 3 4) (signedAt r.payload 7 4)
    s.updateConditional r = if submit then (s.conditionallyUpdated o y).submitUpdated r y
      else (s.conditionallyUpdated o y).respond r none [1, 0, 0, 0, 0] := by
  simp only [State.updateConditional, reserved, terms, listed]
  rfl

theorem submitUpdated_refused {e : Reason} (judged : s.judgeSubmission o = .error e) :
    s.submitUpdated r o = s.respond r (some e) [1, 0, 0, 0, 0] := by
  rw [State.submitUpdated, judged]
  rfl

theorem submitUpdated_queued {n : Nat} (judged : s.judgeSubmission o = .ok n) :
    s.submitUpdated r o = (s.queueOffer o.id n).respond r none ([1] ++ octetsOf 4 n) := by
  rw [State.submitUpdated, judged]
  rfl

end Reserved

/-- Settles O24: READ_OFFER_RESERVED by whether the id has a record; UPDATE_OFFER_CONDITIONAL by the steps of R101. -/
theorem reservationGuardsTheConditionalUpdate : Obligations.ReservationGuardsTheConditionalUpdate := by
  unfold Obligations.ReservationGuardsTheConditionalUpdate
  refine ⟨fun s r next length => ?_, fun s r next length => ?_⟩
  · intro u
    have run : exec .readOfferReserved s = .next (u.readReserved r) := execReadOfferReserved_run next length
    exact ⟨fun unknown => run.trans (congrArg _ (readReserved_unknown unknown)),
      fun o found => run.trans (congrArg _ (readReserved_found found))⟩
  · intro u id q freed
    have run : exec .updateOfferConditional s = .next (u.updateConditional r) :=
      execUpdateOfferConditional_run next length
    refine ⟨fun lost => run.trans (congrArg _ (updateConditional_notReserved (reservedDraft_none lost))),
      fun o holds found draft => ?_⟩
    intro b
    have reserved : u.reservedDraft id = some o := reservedDraft_some holds found draft
    have refuse (bad : termsOf b (fieldAt r.payload 11 1) q = none ∨ optionOctet (fieldAt r.payload 12 1) = none) :
        exec .updateOfferConditional s = .next (freed.respond r (some .badField) [0, 0, 0, 0, 0]) :=
      run.trans (congrArg _ (updateConditional_badField reserved bad))
    refine ⟨fun unlisted => refuse (unlisted.imp termsOf_unlisted optionOctet_above), fun mode listed submit => ?_⟩
    intro termsHold y t
    have updated (terms : termsHold) {after : Bool} (option : optionOctet (fieldAt r.payload 12 1) = some after) :
        exec .updateOfferConditional s =
          .next (if after then t.submitUpdated r y else t.respond r none [1, 0, 0, 0, 0]) :=
      run.trans (congrArg _ (updateConditional_updated reserved (termsOf_inside listed terms) option))
    refine ⟨fun bad => refuse (.inl (termsOf_outside listed bad)), fun terms no => ?_, fun e terms yes judged => ?_,
      fun n terms yes judged => ?_⟩
    · exact updated terms (after := false) (by rw [no]; rfl)
    · exact (updated terms (after := true) (by rw [yes]; rfl)).trans (congrArg _ (submitUpdated_refused judged))
    · exact (updated terms (after := true) (by rw [yes]; rfl)).trans (congrArg _ (submitUpdated_queued judged))

end Sys2Proof.Machine

namespace Sys2Proof.Machine

/-! ## Posting a notice (R193) -/

section Posting
variable {s : State} {n : Notice}

theorem post_masked (masked : maskHolds s.params.noticeMask n = false) : s.post n = s :=
  if_neg (ne_true_of_eq_false masked)

theorem post_discarded (held : maskHolds s.params.noticeMask n = true)
    (full : Config.noticeQueueSize ≤ s.management.notices.length) :
    s.post n = { s with management := { s.management with noticeDiscarded := true } } := by
  rw [State.post, if_pos held, if_neg (Nat.not_lt_of_le full)]

theorem post_queued (held : maskHolds s.params.noticeMask n = true)
    (room : s.management.notices.length < Config.noticeQueueSize) :
    s.post n = ({ s with management := { s.management with
      notices := s.management.notices ++ [n] } } : State).afterPlacing s.management.notices.isEmpty := by
  rw [State.post, if_pos held, if_pos room]

end Posting

/-! ## The source chosen (R178) -/

/-- R178: a source's place in the rule's order. -/
def Source.place (x : Source) : Nat :=
  match x with
  | .ack => 0
  | .availability => 1
  | .offer => 2
  | .report => 3
  | .response => 4
  | .notice => 5

theorem mem_allSources (x : Source) : x ∈ allSources := by
  cases x <;> decide

theorem allSources_inOrder : allSources.Pairwise (fun x y => x.place < y.place) := by
  decide

theorem mem_of_lowestLevel {p : Params} {l : List Source} {y : Source} (h : lowestLevel p l = some y) : y ∈ l := by
  induction l with
  | nil => cases h
  | cons a l ih =>
    unfold lowestLevel at h
    split at h
    · cases h
      exact .head _
    · next z rest =>
      split at h
      · cases h
        exact .tail _ (ih rest)
      · cases h
        exact .head _

/-- R178: of a list in the rule's order, the source of the lowest level, and of those the first. -/
theorem lowestLevel_eq {p : Params} {l : List Source} (inOrder : l.Pairwise (fun x y => x.place < y.place)) {x : Source}
    (hx : x ∈ l) (first : ∀ y ∈ l, p.level x < p.level y ∨ (p.level x = p.level y ∧ x.place ≤ y.place)) :
    lowestLevel p l = some x := by
  induction l with
  | nil => cases hx
  | cons a l ih =>
    rw [List.pairwise_cons] at inOrder
    obtain ⟨before, inOrder⟩ := inOrder
    unfold lowestLevel
    rcases List.mem_cons.1 hx with rfl | hx
    · split
      · rfl
      · next y rest =>
        have low := first y (.tail _ (mem_of_lowestLevel rest))
        exact if_neg (by omega)
    · rw [ih inOrder hx fun y hy => first y (.tail _ hy)]
      have low := first a (.head _)
      have later := before x hx
      exact if_pos (by omega)

theorem chosenSource_eq {s : State} {x : Source} (holds : s.sourceHolds x = true)
    (first : ∀ y, s.sourceHolds y = true → s.params.level x < s.params.level y ∨
      (s.params.level x = s.params.level y ∧ x.place ≤ y.place)) : s.chosenSource = some x :=
  lowestLevel_eq (allSources_inOrder.filter _) (List.mem_filter.2 ⟨mem_allSources x, holds⟩)
    fun y hy => first y (List.mem_filter.1 hy).2

theorem chosenSource_none {s : State} (empty : ∀ x, s.sourceHolds x = false) : s.chosenSource = none := by
  have none : allSources.filter s.sourceHolds = [] :=
    List.filter_eq_nil_iff.2 fun x _ => ne_true_of_eq_false (empty x)
  rw [State.chosenSource, none]
  rfl

theorem choose_down {s : State} (down : s.links.grid.up = false) : s.choose = s :=
  choose_of_gridHolds (by rw [State.gridHolds, down]; rfl)

theorem choose_empty {s : State} (empty : ∀ x, s.sourceHolds x = false) : s.choose = s := by
  unfold State.choose
  rw [chosenSource_none empty]
  exact ite_self s

theorem choose_chosen {s : State} {x : Source} (up : s.links.grid.up = true) (idle : s.links.gridTx = none)
    (chosen : s.chosenSource = some x) : s.choose = s.handOver x := by
  rw [State.choose, up, idle, chosen]
  rfl

/-! ## Handing over, source by source (R88, R167, R171, R186) -/

section HandOver
variable {s : State}

theorem handOver_ack {k : Option Product} {a : Ack} {rest : List (Option Product × Ack)}
    (head : s.arbiter.ack = (k, a) :: rest) : s.handOver .ack =
      ({ s with arbiter := { s.arbiter with ack := rest } } : State).sendGrid0 .activationAck a.payload := by
  simp only [State.handOver, head]

theorem handOver_availability {l : List AvailEntry} (held : s.arbiter.availability = some l) :
    s.handOver .availability = ({ s with arbiter := { s.arbiter with availability := none } } : State).sendGrid0
      .availability (availabilityPayload l) := by
  simp only [State.handOver, held]

theorem handOver_offer {id : Nat} {rest : List OfferEntry} {o : Offer} (head : s.arbiter.offers = .offer id :: rest)
    (found : s.findOffer id = some o) : s.handOver .offer =
      ((({ s with arbiter := { s.arbiter with offers := rest } } : State).sendGrid0 .offer
        (s.offerPayload o)).mapOffer id (fun x => { x with state := .submitted })).clearReservation id := by
  have found' : ({ s with arbiter := { s.arbiter with offers := rest } } : State).findOffer id = some o := found
  simp only [State.handOver, head, State.handOverOffer, found']
  rfl

theorem handOver_withdraw {id : Nat} {rest : List OfferEntry} {o : Offer}
    (head : s.arbiter.offers = .withdraw id :: rest) (found : s.findOffer id = some o) : s.handOver .offer =
      ({ s with arbiter := { s.arbiter with offers := rest } } : State).sendGrid0 .withdraw (s.withdrawPayload o) := by
  have found' : ({ s with arbiter := { s.arbiter with offers := rest } } : State).findOffer id = some o := found
  simp only [State.handOver, head, State.handOverWithdraw, found']
  rfl

theorem handOver_report {p : Product} {d : DeliveryReport} {rest : List (Product × DeliveryReport)}
    (head : s.arbiter.reports = (p, d) :: rest) : s.handOver .report =
      ({ s with arbiter := { s.arbiter with reports := rest } } : State).sendGrid0 .deliveryReport d.payload := by
  simp only [State.handOver, head]

theorem handOver_response {r : Response} (held : s.arbiter.response = some r) : s.handOver .response =
    ({ s with
      arbiter := { s.arbiter with response := none }
      management := { s.management with noticeDiscarded := false }
      links := { s.links with grid := { s.links.grid with summary := 0 } } } : State).sendGrid2 .response
        (r.payload s.links.grid.summary s.management.noticeDiscarded) := by
  simp only [State.handOver, held]

theorem handOver_notice {n : Notice} {rest : List Notice} (head : s.management.notices = n :: rest) :
    s.handOver .notice = ({ s with management := { s.management with notices := rest } } : State).sendGrid2 .notice
      n.payload := by
  simp only [State.handOver, head]

end HandOver

theorem execGridTransmitDone_eq {s : State} (busy : s.links.gridTx.isSome = true) :
    exec .gridTransmitDone s = .next ({ s with links := { s.links with gridTx := none } } : State).choose := by
  obtain ⟨frame, held⟩ := Option.isSome_iff_exists.1 busy
  change execGridTransmitDone s = _
  rw [execGridTransmitDone, held]

/-- Settles O43: a notice by mask and room; the freed transmitter takes the chosen source's first frame. -/
theorem arbiterTakesTheLowestLevelFirst : Obligations.ArbiterTakesTheLowestLevelFirst := by
  unfold Obligations.ArbiterTakesTheLowestLevelFirst
  refine ⟨fun s n => ?_, fun s busy => ?_⟩
  · intro masked queued
    refine ⟨post_masked, fun held full => post_discarded (eq_true_of_ne_false held) full, fun held room => ?_⟩
    have placed := post_queued (eq_true_of_ne_false held) room
    refine ⟨fun waits => placed.trans ?_, fun empty _ => placed.trans ?_⟩
    · rcases waits with waiting | holds
      · rw [State.afterPlacing, if_neg (mt List.isEmpty_iff.1 waiting)]
      · exact afterPlacing_of_gridHolds (s := queued) holds _
    · rw [State.afterPlacing, if_pos (List.isEmpty_iff.2 empty)]
  · intro u place chosen sent0 sent2
    have run : exec .gridTransmitDone s = .next u.choose := execGridTransmitDone_eq busy
    have hands {x : Source} (first : chosen x) : exec .gridTransmitDone s = .next (u.handOver x) := by
      obtain ⟨up, holds, lowest⟩ := first
      exact run.trans (congrArg _ (choose_chosen (s := u) up rfl (chosenSource_eq (s := u) holds lowest)))
    refine ⟨fun idle => ?_, fun k a rest first head => ?_, fun l first held => ?_, fun id rest o first head found => ?_,
      fun id rest o first head found => ?_, fun p d rest first head => ?_, fun r first held => ?_,
      fun n rest first head => ?_⟩
    · exact run.trans (congrArg _ (idle.elim (choose_down (s := u)) (choose_empty (s := u))))
    · exact (hands first).trans (congrArg _ (handOver_ack head))
    · exact (hands first).trans (congrArg _ (handOver_availability held))
    · exact (hands first).trans (congrArg _ (handOver_offer head found))
    · exact (hands first).trans (congrArg _ (handOver_withdraw head found))
    · exact (hands first).trans (congrArg _ (handOver_report head))
    · exact (hands first).trans (congrArg _ (handOver_response held))
    · exact (hands first).trans (congrArg _ (handOver_notice head))

end Sys2Proof.Machine

namespace Sys2Proof.Machine

/-! ## The Offer Book after a cold reset (R102) -/

theorem commitment_of_noRing {s : State} (h : s.book.ring = none) (p : Product) (w : Nat) : s.commitment p w = 0 := by
  rw [State.commitment, h]

theorem newId_of_emptyBook {s : State} (h : s.book.offers = []) : s.newId = nextId s.book.lastId := by
  have free : s.findOffer (nextId s.book.lastId) = none := by
    rw [State.findOffer, h]
    rfl
  rw [State.newId, State.freeId, free]
  rfl

/-- Settles O3: the reset state's book, whose first free id follows id 0. -/
theorem coldResetEmptiesTheOfferBook : Obligations.ColdResetEmptiesTheOfferBook := by
  unfold Obligations.ColdResetEmptiesTheOfferBook
  intro s
  let t : State := { State.reset with freeDraws := s.freeDraws, pending := s.pending }
  exact ⟨t, rfl, rfl, commitment_of_noRing rfl, rfl, rfl, rfl, rfl, rfl,
    fun p w m q price => ⟨newId_of_emptyBook (s := t) rfl, rfl⟩⟩

end Sys2Proof.Machine

/-! # Proofs about the Activation Unit: its records, orders, ends and frequency following

First the rules of the records and of the hand-on, then that every step keeps the targets within the obligations (R104),
then the commands one by one (R109 to R118). -/

namespace Sys2Proof.Machine

/-! ## The records read after a write -/

@[simp] theorem State.act_setAct (s : State) (p q : Product) (r : ActRecord) :
    (s.setAct p r).act q = if q = p then r else s.act q := PerProduct.get_set _ _ _ _

@[simp] theorem State.act_mapActs (s : State) (f : Product → ActRecord) (p : Product) : (s.mapActs f).act p = f p :=
  PerProduct.get_ofFn f p

theorem act_of_records {s t : State} (h : t.activation.records = s.activation.records) (p : Product) :
    t.act p = s.act p := congrArg (fun x : PerProduct ActRecord => x.get p) h

/-! ## Records within their obligations (R104)

What an event makes of one record has a target at or below the obligation, for most events whatever the record was. -/

/-- R104: the target is at most the obligation. -/
def ActRecord.within (r : ActRecord) : Prop := r.target ≤ r.obligation

theorem targetsHeld_iff (s : State) : s.targetsHeld ↔ ∀ p, (s.act p).within := Iff.rfl

theorem reset_within : ActRecord.reset.within := le_refl 0

/-- R112: an order applied takes the lesser of its quantity and the obligation. -/
theorem applyOrder_within (r : ActRecord) (id quantity : Nat) : (r.applyOrder id quantity).within := by
  unfold ActRecord.applyOrder
  split
  · exact Nat.zero_le _
  · exact min_le_right _ _

/-- R113: an order that waits leaves the target. -/
theorem withOrder_within {r : ActRecord} (h : r.within) (o : PendingOrder) : (r.withOrder o).within := h

/-- R114: an ended activation has target 0. -/
theorem ended_within (r : ActRecord) : r.ended.within := Nat.zero_le _

/-- R117: between the deadband and the full deviation the raw target is a share of the obligation. -/
theorem rawTarget_le (b : Bank) (obligation : Nat) (x : Int) : rawTarget b obligation x ≤ obligation := by
  unfold rawTarget
  split
  · exact Nat.zero_le _
  · split
    · exact le_refl _
    · next above below =>
      have share : x.toNat - b.deadband ≤ b.fullDeviation - b.deadband := by omega
      exact Nat.div_le_of_le_mul (by rw [Nat.mul_comm]; exact Nat.mul_le_mul_right obligation share)

/-- R117: a sample replaces the target by the raw one, or keeps it. -/
theorem sampled_within {r : ActRecord} (h : r.within) (b : Bank) (nominal frequency : Nat) :
    (r.sampled b nominal frequency).within := by
  unfold ActRecord.sampled ActRecord.within
  dsimp only
  split
  · exact rawTarget_le _ _ _
  · exact h

/-- R106 to R108: a boundary lowers every target to the new obligation. -/
theorem boundaryRecord_within (s : State) (p : Product) (o : Nat) : (s.boundaryRecord p o).within := by
  unfold State.boundaryRecord
  extract_lets r clamped
  have lowered : clamped.within := min_le_right _ _
  split_ifs
  · exact lowered
  · exact Nat.zero_le _
  all_goals exact lowered

/-! ## What keeps the targets within the obligations (R104) -/

/-- R104 passes from `s` to `t`. -/
def KeepsTargets (s t : State) : Prop := s.targetsHeld → t.targetsHeld

theorem KeepsTargets.refl (s : State) : KeepsTargets s s := id

theorem KeepsTargets.trans {s t u : State} (h : KeepsTargets s t) (k : KeepsTargets t u) : KeepsTargets s u := k ∘ h

/-- The records stand as they stood. -/
theorem KeepsTargets.of_records {s t : State} (h : t.activation.records = s.activation.records) : KeepsTargets s t :=
  fun held p => by
    rw [act_of_records h p]
    exact held p

/-- The Activation Unit stands as it stood. -/
theorem KeepsTargets.of_activation {s t : State} (h : t.activation = s.activation) : KeepsTargets s t :=
  .of_records (congrArg Activation.records h)

/-- The Activation Unit stands as it stood after a change that keeps the targets. -/
theorem KeepsTargets.then_activation {s t u : State} (k : KeepsTargets s t) (h : u.activation = t.activation) :
    KeepsTargets s u := k.trans (.of_activation h)

theorem KeepsTargets.foldl {α : Type} {f : State → α → State} (h : ∀ s a, KeepsTargets s (f s a)) (l : List α)
    (s : State) : KeepsTargets s (l.foldl f s) := by
  induction l generalizing s with
  | nil => exact .refl s
  | cons a l ih => exact (h s a).trans (ih _)

/-- A command that acts only when its condition holds. -/
theorem KeepsTargets.when {s t : State} {c : Prop} [Decidable c] (h : KeepsTargets s t) :
    KeepsTargets s (if c then t else s) := by
  split
  · exact h
  · exact .refl s

theorem KeepsTargets.unless {s t : State} {c : Prop} [Decidable c] (h : KeepsTargets s t) :
    KeepsTargets s (if c then s else t) := by
  split
  · exact .refl s
  · exact h

theorem KeepsTargets.of_next {s t u : State} (h : Host.Outcome.next (φ := Fault) (ρ := Refusal) u = .next t)
    (k : KeepsTargets s u) : KeepsTargets s t := by
  cases h
  exact k

/-- One record written, within its obligation. -/
theorem setAct_keepsTargets (s : State) (p : Product) {r : ActRecord} (h : (s.act p).within → r.within) :
    KeepsTargets s (s.setAct p r) := fun held => (targetsHeld_iff _).2 fun q => by
  rw [State.act_setAct]
  split
  · exact h (held p)
  · exact held q

/-- Every record written, within its obligation. -/
theorem mapActs_keepsTargets (s : State) {f : Product → ActRecord} (h : ∀ p, (s.act p).within → (f p).within) :
    KeepsTargets s (s.mapActs f) := fun held => (targetsHeld_iff _).2 fun p => by
  rw [State.act_mapActs]
  exact h p (held p)

/-- R109: handing on changes no record. -/
theorem KeepsTargets.handOn {s t : State} (h : KeepsTargets s t) (old : State) (c : Cause) :
    KeepsTargets s (t.handOn old c) := h.then_activation (t.handOn_activation old c)

theorem EgressOnly.keepsTargets {s t : State} (h : EgressOnly s t) : KeepsTargets s t := .of_activation h.activation

theorem RecordsKept.keepsTargets {s t : State} (h : RecordsKept s t) : KeepsTargets s t := .of_records h.records

/-! ### The Activation Unit -/

/-- A record written, its effective time withdrawn or registered, acknowledged and handed on. -/
theorem acknowledged_keepsTargets (s : State) (p : Product) {r : ActRecord} (h : (s.act p).within → r.within)
    (registered : Option Nat) (id : Nat) (o : AckOutcome) (time : Option Nat) (c : Cause) :
    KeepsTargets s ((((s.setAct p r).registerTime p registered).ackFor p id o time).handOn s c) :=
  (((setAct_keepsTargets s p h).then_activation (State.registerTime_activation _ _ _)).then_activation
    (State.ackFor_activation _ _ _ _ _)).handOn s c

theorem takeOrder_keepsTargets (s : State) (code id quantity time : Nat) :
    KeepsTargets s (s.takeOrder code id quantity time) := by
  unfold State.takeOrder
  split
  · exact (ackUnknown_egress s _ _ _).keepsTargets
  · next p _ =>
    split_ifs
    · exact (ackFor_egress s p _ _ _).keepsTargets
    · exact (ackFor_egress s p _ _ _).keepsTargets
    · exact ((setAct_keepsTargets s p fun _ => applyOrder_within _ _ _).trans
        (ackFor_egress _ p _ _ _).keepsTargets).handOn s _
    · exact acknowledged_keepsTargets s p (fun held => withOrder_within held _) _ _ _ _ _

theorem arrival_keepsTargets (s : State) (p : Product) (time : Nat) : KeepsTargets s (s.arrival p time) := by
  unfold State.arrival
  dsimp only
  split
  · exact .refl s
  · split
    · exact .refl s
    · split
      · exact acknowledged_keepsTargets s p (fun held => by split <;> exact held) _ _ _ _ _
      · exact acknowledged_keepsTargets s p (fun _ => applyOrder_within _ _ _) _ _ _ _ _

theorem takeEnd_keepsTargets (s : State) (code id : Nat) : KeepsTargets s (s.takeEnd code id) := by
  unfold State.takeEnd
  split
  · exact (ackUnknown_egress s _ _ _).keepsTargets
  · next p _ =>
    split_ifs
    · exact (ackFor_egress s p _ _ _).keepsTargets
    · exact acknowledged_keepsTargets s p (fun _ => ended_within _) _ _ _ _ _
    · exact (ackFor_egress s p _ _ _).keepsTargets

theorem holdRecords_keepsTargets (s : State) : KeepsTargets s s.holdRecords :=
  mapActs_keepsTargets s fun p held => by split <;> exact held

theorem loseRecords_keepsTargets (s : State) : KeepsTargets s s.loseRecords :=
  mapActs_keepsTargets s fun p held => by
    split
    · exact Nat.zero_le _
    · exact held

theorem regradeSilence_keepsTargets (s : State) : KeepsTargets s s.regradeSilence := by
  refine KeepsTargets.handOn (mapActs_keepsTargets s fun p held => ?_) s _
  split
  · unfold ActRecord.within
    dsimp only
    split
    · exact Nat.zero_le _
    · exact held
  · exact held

theorem takeSample_keepsTargets (s : State) (number frequency : Nat) :
    KeepsTargets s (s.takeSample number frequency) := by
  unfold State.takeSample
  dsimp only
  refine KeepsTargets.handOn (.trans (t := { s with activation := { s.activation with
    sample := some { number := number, time := s.localTime } } }) (.of_records rfl) ?_) s _
  refine mapActs_keepsTargets _ fun p held => ?_
  split
  · exact sampled_within held _ _ _
  · exact held

theorem activationBoundary_keepsTargets (s : State) (w : Nat) : KeepsTargets s (s.activationBoundary w) := by
  have bounded : KeepsTargets s (s.mapActs fun p => s.boundaryRecord p (s.commitment p w)) :=
    mapActs_keepsTargets s fun p _ => boundaryRecord_within s p _
  refine KeepsTargets.handOn (bounded.trans (.foldl (fun t p => ?_) _ _)) s _
  split
  · exact .refl t
  · exact (ackFor_egress t p _ _ _).keepsTargets

/-- R120: a switch resets a record or leaves all as they are. -/
theorem afterSwitch_keepsTargets (s : State) (p : Product) (old : Bank) : KeepsTargets s (s.afterSwitch p old) := by
  by_cases resets : s.switchResets p old = true
  · refine (setAct_keepsTargets s p fun _ => reset_within).then_activation ?_
    rw [afterSwitch_activation, if_pos resets]
    rfl
  · refine .of_activation ?_
    rw [afterSwitch_activation, if_neg resets]

/-- R123: after a warm restart every target is 0. -/
theorem warmRestart_targetsHeld (s : State) : s.warmRestart.targetsHeld := fun p => by
  rw [warmRestart_act]
  exact Nat.zero_le _

end Sys2Proof.Machine

namespace Sys2Proof.Machine

/-! ### The Fleet Table and Telemetry Intake

None of their operations writes the Activation Unit. -/

@[simp] theorem enterBarred_activation (s : State) (slot : Nat) (x : Site) (reason : BarReason) :
    (s.enterBarred slot x reason).activation = s.activation := by
  simp [State.enterBarred]

theorem barSite_activation (s : State) (slot : Nat) (x : Site) : (s.barSite slot x).activation = s.activation := by
  unfold State.barSite
  split
  · split <;> simp
  · simp

theorem clearSite_activation {s t : State} {slot : Nat} {x : Site} (h : s.clearSite slot x = .ok t) :
    t.activation = s.activation := by
  unfold State.clearSite at h
  split_ifs at h
  cases h
  rfl

theorem removeSite_activation {s t : State} {slot : Nat} {x : Site} (h : s.removeSite slot x = .ok t) :
    t.activation = s.activation := by
  unfold State.removeSite at h
  split_ifs at h
  cases h
  simp

theorem loadSite_activation (s : State) (slot : Nat) (f : StaticFields) :
    (s.loadSite slot f).activation = s.activation := by
  unfold State.loadSite
  split
  · rfl
  · dsimp only
    split <;> split <;> simp

theorem writeFeeder_activation (s : State) (f up down : Nat) (enabled : Bool) :
    (s.writeFeeder f up down enabled).activation = s.activation := by
  unfold State.writeFeeder
  dsimp only
  split <;> simp

@[simp] theorem reportUnconfirmed_activation (s : State) (slot : Nat) :
    (s.reportUnconfirmed slot).activation = s.activation := by
  unfold State.reportUnconfirmed
  dsimp only
  split
  · rfl
  · split
    · simp
    · split <;> simp

theorem confirmationTimeout_activation (s : State) (slot : Nat) (atOnce : Bool) :
    (s.confirmationTimeout slot atOnce).activation = s.activation := by
  unfold State.confirmationTimeout State.reportLimit
  dsimp only
  rw [State.trigger_activation, State.setDispatch_activation]
  split_ifs <;> simp

theorem handleReport_activation (s : State) (r : SiteReport) : (s.handleReport r).activation = s.activation := by
  have accepted (slot : Nat) (x : Site) : (s.acceptReport slot x r).activation = s.activation := by
    rw [acceptReport_eq]
    rfl
  have mismatched (slot : Nat) (x : Site) : (s.tagMismatch slot x).activation = s.activation := by
    unfold State.tagMismatch
    dsimp only
    split <;> simp
  unfold State.handleReport
  split
  · rfl
  · split
    · rfl
    · split_ifs
      · rfl
      · exact mismatched _ _
      · exact accepted _ _
      · rfl

/-! ### The Census Engine and the Allocation Engine -/

theorem requestFull_activation (s : State) : s.requestFull.1.activation = s.activation := by
  unfold State.requestFull
  split <;> rfl

theorem requestSelect_activation (s : State) (f : Nat) : (s.requestSelect f).1.activation = s.activation := by
  unfold State.requestSelect
  split
  · split
    · rfl
    · split
      · rfl
      · split <;> rfl
  · split <;> rfl

theorem censusTimerExpires_activation (s : State) : s.censusTimerExpires.activation = s.activation :=
  requestFull_activation s

theorem feedFleet_activation (s : State) : s.feedFleet.activation = s.activation := by
  unfold State.feedFleet
  split
  · split
    · rfl
    · split
      · rfl
      · next e _ _ f _ _ =>
        exact foldl_keeps (fun t => t.activation) (State.handOverEntry e.release) (fun _ _ => rfl) f _
  · rfl

theorem beginRelease_activation (s : State) : s.beginRelease.activation = s.activation := by
  unfold State.beginRelease
  dsimp only
  split
  · rfl
  · exact feedFleet_activation _

theorem endPass_activation (s : State) (l : PassLatch) : (s.endPass l).activation = s.activation := by
  have triggered (t : State) (c : Prop) [Decidable c] : (if c then t.trigger else t).activation = t.activation := by
    split <;> simp
  have requested (t : State) (c : Prop) [Decidable c] : (if c then
      { t with allocation := { t.allocation with requested := true } } else t).activation = t.activation := by
    split <;> rfl
  have ended (t : State) : (if t.allocation.passPending then t.startPass
      else { t with allocation := { t.allocation with pass := none } }).activation = t.activation := by
    split <;> rfl
  unfold State.endPass
  extract_lets evaluated t _ u
  rw [ended u, requested t, triggered evaluated, State.evaluate_activation, State.replaceByPass_activation]

/-! ### The Delivery Monitor, the Offer Book and the links -/

theorem endInterval_keepsTargets (s : State) : KeepsTargets s s.endInterval :=
  KeepsTargets.trans (t := { s with monitor := { s.monitor with
      intervalStart := s.localTime
      intervalExpiry := s.localTime + s.params.performanceInterval * 1000 } }) (.of_records rfl)
    (.foldl (fun t p => (measure_recordsKept t _ p).keepsTargets) _ _)

theorem clearLatches_activation (s : State) : s.clearLatches.activation = s.activation := by
  unfold State.clearLatches
  dsimp only
  split <;> simp

theorem bookBoundary_activation (s : State) (w : Nat) : (s.bookBoundary w).activation = s.activation := by
  rw [(bookBoundary_egress s w).activation, State.recycleRing_activation, (offersMoved_egress s w).activation]

theorem takeResult_activation (s : State) (id : Nat) (out : ResultOutcome) (reported reason : Nat) :
    (s.takeResult id out reported reason).activation = s.activation := by
  have applied (o : Offer) : (s.applyResult o out reported reason).activation = s.activation := by
    unfold State.applyResult
    dsimp only
    rw [State.post_activation]
    split <;> rfl
  unfold State.takeResult
  split
  · rfl
  · split
    · exact applied _
    · exact applied _
    · exact s.post_activation _
    all_goals rfl

theorem queueOffer_activation (s : State) (id q : Nat) : (s.queueOffer id q).activation = s.activation :=
  State.placeOfferEntry_activation _ _

theorem withdrawOffer_activation {s t : State} {o : Offer} (h : s.withdrawOffer o = .ok t) :
    t.activation = s.activation := by
  unfold State.withdrawOffer at h
  split at h
  · cases h; rfl
  · cases h; rfl
  · cases h; exact State.placeOfferEntry_activation _ _
  all_goals cases h

theorem handOnLink_activation (s : State) (port : Port) (up : Bool) (c : LinkCause) :
    (s.handOnLink port up c).activation = s.activation := by
  have cameUp : s.fleetCameUp.activation = s.activation := by
    unfold State.fleetCameUp
    split <;> rfl
  unfold State.handOnLink
  rw [State.post_activation]
  cases port with
  | fleet => cases up <;> simp [cameUp]
  | grid => cases up <;> simp
  | meter => simp

theorem goDown_activation (s : State) (port : Port) (c : LinkCause) : (s.goDown port c).activation = s.activation := by
  unfold State.goDown
  rw [handOnLink_activation, State.emptyTransmitter_activation, State.setEngine_activation]

theorem validFrame_activation (s : State) (port : Port) : (s.validFrame port).activation = s.activation := by
  unfold State.validFrame
  dsimp only
  split
  · exact State.setEngine_activation _ _ _
  · split
    · rw [handOnLink_activation, State.setEngine_activation]
    · rfl

/-! ### The calendar and the Product Table (R42 to R57) -/

theorem judgeStaged_keepsTargets (w : Nat) (s : State) (p : Product) : KeepsTargets s (s.judgeStaged w p) := by
  unfold State.judgeStaged
  split
  · split
    · exact .of_activation (by rw [State.post_activation, State.setProduct_activation])
    · exact KeepsTargets.trans (.of_activation (by rw [State.post_activation, State.copyBank_activation]))
        (afterSwitch_keepsTargets _ p _)
  · exact .refl s

theorem requestAfterSwitch_keepsTargets (s : State) : KeepsTargets s s.requestAfterSwitch :=
  .of_activation (requestFull_activation s.switchNoted)

/-- R47: of the blocks a boundary is delivered to, the Activation Unit alone sets targets, but for R120's resets. -/
theorem boundary_keepsTargets (s : State) (w : Nat) : KeepsTargets s (s.boundary w) := by
  have products (t : State) : KeepsTargets t (t.productBoundary w) :=
    (KeepsTargets.foldl (judgeStaged_keepsTargets w) _ t).trans (requestAfterSwitch_keepsTargets _).when
  have marked : KeepsTargets s { s with time := { s.time with boundaryMark := some w } } := .of_records rfl
  have booked (t : State) : KeepsTargets t (t.bookBoundary w) := .of_activation (bookBoundary_activation t w)
  have monitored (t : State) : KeepsTargets t (t.monitorBoundary w) :=
    .of_activation (by rw [State.monitorBoundary, State.evaluate_activation])
  exact (((marked.trans (products _)).trans (booked _)).trans (activationBoundary_keepsTargets _ w)).trans (monitored _)

theorem deliver_keepsTargets (s : State) (e : CalendarEvent) : KeepsTargets s (s.deliver e) := by
  cases e with
  | gate p w => exact .of_activation (closeGate_gatesOnly s p w).activation
  | boundary w => exact boundary_keepsTargets s w
  | arrival p t =>
    exact KeepsTargets.trans (.of_activation (s.registerTime_activation p none)) (arrival_keepsTargets _ p t)

theorem takeMark_keepsTargets (s : State) (m : Nat) : KeepsTargets s (s.takeMark m) := by
  unfold State.takeMark
  split
  · exact .of_activation (by rw [State.firstMark, State.monitorFirstMark, State.evaluate_activation]; rfl)
  · unfold State.laterMark
    split_ifs
    · exact (runCalendar_keeps (P := KeepsTargets s)
        (fun t d x e kept _ _ => (kept.then_activation (t.runAt_activation d)).trans (deliver_keepsTargets _ e)) _ _ _
        (.of_activation (s.runAt_activation _))).then_activation (State.runAt_activation _ m)
    · exact .of_records rfl
    · exact .of_records rfl
    · exact .of_activation (s.post_activation _)

theorem changeWindowLength_keepsTargets (s : State) : KeepsTargets s s.changeWindowLength := by
  unfold State.changeWindowLength
  split
  · exact .refl s
  · dsimp only
    split
    · exact .of_records rfl
    · split
      · exact (boundary_keepsTargets s _).trans (.of_records rfl)
      · exact .of_records rfl

theorem applyNow_keepsTargets {s t : State} {p : Product} (h : s.applyNow p = .ok t) : KeepsTargets s t := by
  unfold State.applyNow at h
  split_ifs at h
  cases h
  exact (KeepsTargets.trans (.of_activation (s.copyBank_activation p)) (afterSwitch_keepsTargets _ p _)).trans
    (requestAfterSwitch_keepsTargets _)

theorem stage_activation {s t : State} {p : Product} (h : s.stage p = .ok t) : t.activation = s.activation := by
  unfold State.stage at h
  split_ifs at h
  cases h
  rfl

theorem cancelStage_activation {s t : State} {p : Product} (h : s.cancelStage p = .ok t) :
    t.activation = s.activation := by
  unfold State.cancelStage at h
  split_ifs at h
  cases h
  rfl

theorem tick_activation (s : State) : s.tick.activation = s.activation := by
  unfold State.tick
  split <;> rfl

end Sys2Proof.Machine

namespace Sys2Proof.Machine

/-! ### Parameters and requests (R183 to R192) -/

/-- R191: of the blocks that act on parameters, a new window length and a new silence alone reach the records. -/
theorem applyParams_keepsTargets (s : State) (p : Params) : KeepsTargets s (s.applyParams p) := by
  obtain ⟨t1, t2, t3, t4, t5, t6, acted⟩ := actOnParams_stages { s with params := p } s.params
  have sites : KeepsTargets s t1 := .of_activation (by rw [acted.sitesOnly])
  have window : KeepsTargets t1 t2 := by rw [acted.window]; exact (changeWindowLength_keepsTargets t1).unless
  have census : KeepsTargets t2 t3 := .of_activation (by rw [acted.censusOnly])
  have silence : KeepsTargets t3 t4 := by rw [acted.silence]; exact (regradeSilence_keepsTargets t3).unless
  exact (((sites.trans window).trans census).trans silence).trans acted.recordsAfter.keepsTargets

/-- R184: a response leaves the Activation Unit as it stands. -/
theorem respond_keepsTargets (s : State) (r : PendingRequest) (e : Option Reason) (b : Octets) :
    KeepsTargets s (s.respond r e b) := .of_activation (s.respond_activation r e b)

theorem KeepsTargets.respond {s t : State} (h : KeepsTargets s t) (r : PendingRequest) (e : Option Reason)
    (b : Octets) : KeepsTargets s (t.respond r e b) := h.trans (respond_keepsTargets t r e b)

theorem outOfFormat_keepsTargets (s : State) (r : PendingRequest) : KeepsTargets s (s.outOfFormat r) :=
  KeepsTargets.respond (.of_activation (s.reportClass_activation _ _ _)) _ _ _

/-- R184: the head of the queue is taken for its execution. -/
theorem KeepsTargets.afterTake {s t : State} (h : KeepsTargets s.takeRequest t) : KeepsTargets s t :=
  KeepsTargets.trans (.of_activation s.takeRequest_activation) h

/-- A request keeps what its execution keeps. -/
theorem request_keepsTargets {run : State → PendingRequest → State} (h : ∀ s r, KeepsTargets s (run s r)) (s : State)
    (code length : Nat) : KeepsTargets s (s.request code length run) := by
  unfold State.request
  split
  · exact .refl s
  · split
    · exact .afterTake (h _ _)
    · exact .afterTake (outOfFormat_keepsTargets _ _)

/-- A request without a body keeps what the state it is done with keeps. -/
theorem answer_keepsTargets {s : State} {x : Except Reason State} (h : ∀ t, x = .ok t → KeepsTargets s t)
    (r : PendingRequest) : KeepsTargets s (s.answer r x) := by
  unfold State.answer
  split
  · exact (h _ rfl).respond _ _ _
  · exact respond_keepsTargets _ _ _ _

theorem siteRequest_keepsTargets {act : State → Nat → Site → Except Reason State}
    (h : ∀ (s t : State) (slot : Nat) (x : Site), act s slot x = .ok t → t.activation = s.activation) (s : State)
    (r : PendingRequest) : KeepsTargets s (s.siteRequest act r) := by
  refine answer_keepsTargets (fun t done => ?_) r
  split at done
  · cases done
  · exact .of_activation (h s t _ _ done)

theorem productRequest_keepsTargets {act : State → Product → Except Reason State}
    (h : ∀ (s t : State) (p : Product), act s p = .ok t → KeepsTargets s t) (s : State) (r : PendingRequest) :
    KeepsTargets s (s.productRequest act r) := by
  refine answer_keepsTargets (fun t done => ?_) r
  split at done
  · cases done
  · exact h s t _ done

theorem writeBank_activation {s : State} {p : Product} {o : Octets} {x : State × Bool}
    (h : s.writeBank p o = .ok x) : x.1.activation = s.activation := by
  unfold State.writeBank at h
  split at h
  · cases h
  · split at h
    · cases h
      rfl
    · cases h

theorem writeRecord_activation {s : State} {table : TableName} {i : Nat} {o : Octets} {x : State × Option Product}
    (h : s.writeRecord table i o = .ok x) : x.1.activation = s.activation := by
  unfold State.writeRecord at h
  split at h
  · unfold State.writeSiteRecord at h
    split at h
    · cases h
    · cases h
      exact loadSite_activation s i _
  · unfold State.writeFeederRecord at h
    split at h
    · cases h
    · split at h
      · cases h
        exact writeFeeder_activation s i _ _ _
      · cases h
  · split at h
    · cases h
    · next p _ =>
      cases written : s.writeBank p o with
      | error e =>
        rw [written] at h
        cases h
      | ok u =>
        rw [written] at h
        cases h
        exact writeBank_activation written
  all_goals cases h

/-- R188: a write changes the tables it names, record by record. -/
theorem writeRun_keepsTargets (rest : List Octets) (take : Option Nat) (applied : Nat) (marks : BitVec 8)
    (w : TableWindow) (r : PendingRequest) (s : State) :
    KeepsTargets s (State.writeRun rest take applied marks w r s) := by
  induction rest generalizing take applied marks w s with
  | nil => exact respond_keepsTargets s _ _ _
  | cons o more ih =>
    unfold State.writeRun
    split
    · exact respond_keepsTargets s _ _ _
    · split
      · exact .of_records rfl
      · split
        · exact respond_keepsTargets s _ _ _
        · next t _ written =>
          have stored : KeepsTargets s t := .of_activation (writeRecord_activation written)
          exact (stored.then_activation (t.setWindowTo_activation _)).trans (ih _ _ _ _ _)

theorem judgedWrite_keepsTargets (s : State) (r : PendingRequest) (fixed : Nat) (take : Option Nat)
    (x : Except Reason TableWindow) : KeepsTargets s (s.judgedWrite r fixed take x) := by
  unfold State.judgedWrite State.beginWrite
  split
  · exact respond_keepsTargets _ _ _ _
  · split
    · exact respond_keepsTargets _ _ _ _
    · split
      · exact writeRun_keepsTargets _ _ _ _ _ _ _
      · exact outOfFormat_keepsTargets s r

theorem resumeWrite_keepsTargets (s : State) (take : Option Nat) (x : InExecution) :
    KeepsTargets s (s.resumeWrite take x) := by
  unfold State.resumeWrite
  split
  · exact writeRun_keepsTargets _ _ _ _ _ _ s
  · exact .refl s

/-- R189: a read moves its cursor and answers. -/
theorem readRun_keepsTargets (remaining : Nat) (take : Option Nat) (first count : Nat) (records : Octets)
    (w : TableWindow) (r : PendingRequest) (s : State) :
    KeepsTargets s (State.readRun remaining take first count records w r s) := by
  induction remaining generalizing take count records with
  | zero => exact KeepsTargets.respond (.of_activation (s.setWindowTo_activation _)) _ _ _
  | succ n ih =>
    unfold State.readRun
    split
    · exact .of_records rfl
    · exact ih _ _ _

theorem judgedRead_keepsTargets (s : State) (r : PendingRequest) (take : Option Nat) (x : Except Reason TableWindow) :
    KeepsTargets s (s.judgedRead r take x) := by
  unfold State.judgedRead
  split
  · exact respond_keepsTargets s _ _ _
  · exact readRun_keepsTargets _ _ _ _ _ _ _ s

theorem resumeRead_keepsTargets (s : State) (take : Option Nat) (x : InExecution) :
    KeepsTargets s (s.resumeRead take x) := by
  unfold State.resumeRead
  split
  · exact readRun_keepsTargets _ _ _ _ _ _ _ s
  · exact .refl s

theorem setWindow_keepsTargets (s : State) (r : PendingRequest) : KeepsTargets s (s.setWindow r) :=
  answer_keepsTargets (fun t done => by
    split at done
    · cases done
    · cases done
      exact .of_records rfl) r

theorem setReturnLimit_keepsTargets (s : State) (r : PendingRequest) : KeepsTargets s (s.setReturnLimit r) :=
  answer_keepsTargets (fun t done => by
    split at done
    · cases done
      exact .of_records rfl
    · cases done) r

theorem writeProduct_keepsTargets (s : State) (r : PendingRequest) : KeepsTargets s (s.writeProduct r) := by
  unfold State.writeProduct
  split
  · exact respond_keepsTargets s _ _ _
  · split
    · exact respond_keepsTargets s _ _ _
    · next written => exact KeepsTargets.respond (.of_activation (writeBank_activation written)) _ _ _

theorem createOffer_keepsTargets (s : State) (r : PendingRequest) : KeepsTargets s (s.createOffer r) := by
  unfold State.createOffer
  split
  · split
    · exact respond_keepsTargets s _ _ _
    · exact KeepsTargets.respond (.of_activation (s.addOffer_activation _)) _ _ _
  · exact respond_keepsTargets s _ _ _

theorem updateOffer_keepsTargets (s : State) (r : PendingRequest) : KeepsTargets s (s.updateOffer r) :=
  answer_keepsTargets (fun t done => by
    split at done
    · cases done
    · split at done
      · cases done
      · split at done
        · cases done
        · cases done
          exact .of_records rfl) r

theorem submitOffer_keepsTargets (s : State) (r : PendingRequest) : KeepsTargets s (s.submitOffer r) := by
  unfold State.submitOffer
  split
  · exact respond_keepsTargets s _ _ _
  · split
    · exact respond_keepsTargets s _ _ _
    · split
      · exact respond_keepsTargets s _ _ _
      · exact KeepsTargets.respond (.of_activation (queueOffer_activation s _ _)) _ _ _

theorem withdrawRequest_keepsTargets (s : State) (r : PendingRequest) : KeepsTargets s (s.withdrawRequest r) :=
  answer_keepsTargets (fun t done => by
    split at done
    · cases done
    · exact .of_activation (withdrawOffer_activation done)) r

theorem retireOffers_keepsTargets (s : State) (r : PendingRequest) : KeepsTargets s (s.retireOffers r) := by
  unfold State.retireOffers
  split
  · exact respond_keepsTargets s _ _ _
  · exact KeepsTargets.respond (.of_activation (s.retire_activation _)) _ _ _

theorem readReserved_keepsTargets (s : State) (r : PendingRequest) : KeepsTargets s (s.readReserved r) := by
  unfold State.readReserved
  split <;> exact KeepsTargets.respond (.of_activation (s.reserve_activation _)) _ _ _

theorem updateConditional_keepsTargets (s : State) (r : PendingRequest) : KeepsTargets s (s.updateConditional r) := by
  unfold State.updateConditional
  split
  · exact KeepsTargets.respond (.of_activation (s.reserve_activation _)) _ _ _
  · split
    · extract_lets y t
      have updated : KeepsTargets s t := .of_records rfl
      unfold State.submitUpdated
      split
      · split
        · exact updated.respond _ _ _
        · exact (updated.then_activation (queueOffer_activation t _ _)).respond _ _ _
      · exact updated.respond _ _ _
    · exact KeepsTargets.respond (.of_activation (s.reserve_activation _)) _ _ _

theorem requestCensus_keepsTargets (s : State) (r : PendingRequest) : KeepsTargets s (s.requestCensus r) := by
  unfold State.requestCensus
  split
  · exact respond_keepsTargets s _ _ _
  · exact KeepsTargets.respond (.of_activation (requestFull_activation s)) _ _ _
  · split
    · exact KeepsTargets.respond (.of_activation (requestSelect_activation s _)) _ _ _
    · exact respond_keepsTargets s _ _ _

theorem readStatus_keepsTargets (s : State) (r : PendingRequest) : KeepsTargets s (s.readStatus r) :=
  (KeepsTargets.respond (.of_activation s.clearWasDown_activation) r none s.statusBody).then_activation
    (clearLatches_activation _)

/-- R171: READ_LINK_ERRORS clears the rejected-sample count, no record. -/
theorem readLinkErrors_keepsTargets (s : State) (r : PendingRequest) : KeepsTargets s (s.readLinkErrors r) :=
  KeepsTargets.respond (t := s.clearLinkErrors) (.of_records rfl) _ _ _

theorem setParameters_keepsTargets (s : State) (r : PendingRequest) : KeepsTargets s (s.setParameters r) := by
  unfold State.setParameters
  split
  · exact respond_keepsTargets s _ _ _
  · exact (applyParams_keepsTargets s _).respond _ _ _

end Sys2Proof.Machine

namespace Sys2Proof.Machine

/-! ### Every command -/

theorem execFrameReceived_keepsTargets {s t : State} {port : Port} {o : Octets}
    (h : execFrameReceived port o s = .next t) : KeepsTargets s t := by
  unfold execFrameReceived at h
  split at h
  · exact .of_next h (.of_activation (s.reportClass_activation _ _ _))
  · exact .of_next h (.of_activation (by rw [validFrame_activation, State.setEngine_activation]))

/-- The frame at the head of a port's buffer dropped, and its payload reported. -/
theorem dropped_keepsTargets (s : State) (port : Port) (c : ErrClass) (b : Bool) :
    KeepsTargets s ((s.dropHead port).reportClass port c b) := .of_activation (by simp)

/-- What the owner of a frame keeps, the frame dropped. -/
theorem KeepsTargets.afterDrop {s t : State} {port : Port} (h : KeepsTargets (s.dropHead port) t) : KeepsTargets s t :=
  KeepsTargets.trans (.of_activation (s.dropHead_activation port)) h

theorem execSiteReport_keepsTargets {s t : State} (h : execSiteReport s = .next t) : KeepsTargets s t := by
  unfold execSiteReport at h
  split at h
  · exact .of_next h (.refl s)
  · split at h
    · exact .of_next h (dropped_keepsTargets s _ _ _)
    · exact .of_next h (.afterDrop (.of_activation (handleReport_activation _ _)))

theorem execClockMark_keepsTargets {s t : State} (h : execClockMark s = .next t) : KeepsTargets s t := by
  unfold execClockMark at h
  split at h
  · exact .of_next h (.refl s)
  · dsimp only at h
    split at h
    · exact .of_next h (dropped_keepsTargets s _ _ _)
    · exact .of_next h (.afterDrop (takeMark_keepsTargets _ _))

theorem execOfferResult_keepsTargets {s t : State} (h : execOfferResult s = .next t) : KeepsTargets s t := by
  unfold execOfferResult at h
  split at h
  · exact .of_next h (.refl s)
  · dsimp only at h
    split at h
    · exact .of_next h (dropped_keepsTargets s _ _ _)
    · split at h
      · exact .of_next h (dropped_keepsTargets s _ _ _)
      · exact .of_next h (.afterDrop (.of_activation (takeResult_activation _ _ _ _ _)))

theorem execActivationOrder_keepsTargets {s t : State} (h : execActivationOrder s = .next t) : KeepsTargets s t := by
  unfold execActivationOrder at h
  split at h
  · exact .of_next h (.refl s)
  · dsimp only at h
    split at h
    · exact .of_next h (dropped_keepsTargets s _ _ _)
    · exact .of_next h (.afterDrop (takeOrder_keepsTargets _ _ _ _ _))

theorem execActivationEnd_keepsTargets {s t : State} (h : execActivationEnd s = .next t) : KeepsTargets s t := by
  unfold execActivationEnd at h
  split at h
  · exact .of_next h (.refl s)
  · dsimp only at h
    split at h
    · exact .of_next h (dropped_keepsTargets s _ _ _)
    · exact .of_next h (.afterDrop (takeEnd_keepsTargets _ _ _))

theorem execFreqSample_keepsTargets {s t : State} (h : execFreqSample s = .next t) : KeepsTargets s t := by
  unfold execFreqSample at h
  split at h
  · exact .of_next h (.refl s)
  · dsimp only at h
    split at h
    · exact .of_next h (dropped_keepsTargets s _ _ _)
    · split at h
      · exact .of_next h (.afterDrop (takeSample_keepsTargets _ _ _))
      · exact .of_next h (.afterDrop (.of_records rfl))

theorem execRequestEnqueue_keepsTargets {s t : State} (h : execRequestEnqueue s = .next t) : KeepsTargets s t := by
  unfold execRequestEnqueue at h
  split at h
  · exact .of_next h (.refl s)
  · dsimp only at h
    split at h
    · exact .of_next h (.afterDrop (.of_records rfl))
    · exact .of_next h (dropped_keepsTargets s _ _ _)

theorem execRequestOutOfFormat_keepsTargets {s t : State} (h : execRequestOutOfFormat s = .next t) :
    KeepsTargets s t := by
  refine .of_next h ?_
  split
  · exact .refl s
  · split
    · exact .afterTake (outOfFormat_keepsTargets _ _)
    · exact KeepsTargets.unless (.afterTake (outOfFormat_keepsTargets _ _))

theorem execWriteRecords_keepsTargets {s t : State} {take : Option Nat} (h : execWriteRecords take s = .next t) :
    KeepsTargets s t := by
  refine .of_next h ?_
  split
  · exact resumeWrite_keepsTargets s _ _
  · split
    · exact .refl s
    · split
      · exact .afterTake (judgedWrite_keepsTargets _ _ _ _ _)
      · exact .afterTake (outOfFormat_keepsTargets _ _)

theorem execWriteContinue_keepsTargets {s t : State} {take : Option Nat} (h : execWriteContinue take s = .next t) :
    KeepsTargets s t := by
  refine .of_next h ?_
  split
  · exact resumeWrite_keepsTargets s _ _
  · split
    · exact .refl s
    · exact .afterTake (judgedWrite_keepsTargets _ _ _ _ _)

theorem execReadRecords_keepsTargets {s t : State} {take : Option Nat} (h : execReadRecords take s = .next t) :
    KeepsTargets s t := by
  refine .of_next h ?_
  split
  · exact resumeRead_keepsTargets s _ _
  · exact request_keepsTargets (fun _ _ => judgedRead_keepsTargets _ _ _ _) s _ _

theorem execReadContinue_keepsTargets {s t : State} {take : Option Nat} (h : execReadContinue take s = .next t) :
    KeepsTargets s t := by
  refine .of_next h ?_
  split
  · exact resumeRead_keepsTargets s _ _
  · exact request_keepsTargets (fun _ _ => judgedRead_keepsTargets _ _ _ _) s _ _

theorem execConfirmationTimeout_keepsTargets {s t : State} {slot : Nat} (h : execConfirmationTimeout slot s = .next t) :
    KeepsTargets s t := by
  refine .of_next h ?_
  split
  · exact .of_activation (reportUnconfirmed_activation _ slot)
  · exact KeepsTargets.when (.of_activation (confirmationTimeout_activation s slot _))

/-- R104: every command keeps the targets within their obligations. -/
theorem exec_keepsTargets {i : Instr} {s t : State} (h : exec i s = .next t) : KeepsTargets s t := by
  cases i with
  | coldReset => exact .of_next h fun _ => resetMeetsTheInvariants.1
  | signalLoss port =>
    refine .of_next h (.of_activation ?_)
    split
    · rw [goDown_activation, State.setEngine_activation]
    · exact s.setEngine_activation port _
  | signalPresence port => exact .of_next h (.of_activation (s.setEngine_activation port _))
  | frameReceived port octets => exact execFrameReceived_keepsTargets h
  | linkTimeout port => exact .of_next h (KeepsTargets.when (.of_activation (goDown_activation s port .timeout)))
  | siteReport => exact execSiteReport_keepsTargets h
  | siteAgeing slot =>
    refine .of_next h (.of_activation ?_)
    split
    · rfl
    · split
      · rfl
      · exact State.signalExclusion_activation _ _ _
  | suspectExpiry slot =>
    refine .of_next h ?_
    split
    · exact .refl s
    · exact KeepsTargets.when (.of_records rfl)
  | clockMark => exact execClockMark_keepsTargets h
  | holdEnd =>
    refine .of_next h ?_
    split
    · exact .of_records rfl
    all_goals exact .refl s
  | windowBoundary window => exact .of_next h (deliver_keepsTargets s (.boundary window)).when
  | gateClosure product window => exact .of_next h (deliver_keepsTargets s (.gate product window)).when
  | effectiveTimeArrival product time => exact .of_next h (deliver_keepsTargets s (.arrival product time)).when
  | offerResult => exact execOfferResult_keepsTargets h
  | activationOrder => exact execActivationOrder_keepsTargets h
  | activationEnd => exact execActivationEnd_keepsTargets h
  | freqSample => exact execFreqSample_keepsTargets h
  | sampleTimeout => exact .of_next h ((holdRecords_keepsTargets s).handOn s _).when
  | sampleLoss => exact .of_next h ((loseRecords_keepsTargets s).handOn s _).when
  | censusIntervalExpiry => exact .of_next h (KeepsTargets.when (.of_activation (censusTimerExpires_activation s)))
  | censusSlotRead =>
    refine .of_next h ?_
    split
    · exact .refl s
    · exact KeepsTargets.when (.of_records rfl)
  | censusPublish =>
    refine .of_next h ?_
    split
    · exact .refl s
    · exact KeepsTargets.unless (.of_activation (publish_activation s _))
  | allocationPassEnd =>
    change execAllocationPassEnd s = _ at h
    unfold execAllocationPassEnd at h
    split at h
    · exact .of_next h (.refl s)
    · exact .of_next h (.of_activation (endPass_activation s _))
  | releaseBegin => exact .of_next h (KeepsTargets.when (.of_activation (beginRelease_activation s)))
  | fleetTransmitDone =>
    refine .of_next h (.of_activation ?_)
    split
    · rfl
    · exact feedFleet_activation _
  | confirmationTimeout slot => exact execConfirmationTimeout_keepsTargets h
  | performanceIntervalEnd => exact .of_next h (endInterval_keepsTargets s).when
  | heartbeat => exact .of_next h (KeepsTargets.when (.of_activation (s.evaluate_activation true)))
  | gridTransmitDone =>
    refine .of_next h (.of_activation ?_)
    split
    · rfl
    · exact State.choose_activation _
  | requestEnqueue => exact execRequestEnqueue_keepsTargets h
  | setWindow => exact .of_next h (request_keepsTargets setWindow_keepsTargets s _ _)
  | writeRecords take => exact execWriteRecords_keepsTargets h
  | writeContinue take => exact execWriteContinue_keepsTargets h
  | readRecords take => exact execReadRecords_keepsTargets h
  | readContinue take => exact execReadContinue_keepsTargets h
  | setReturnLimit => exact .of_next h (request_keepsTargets setReturnLimit_keepsTargets s _ _)
  | barSite =>
    refine .of_next h (request_keepsTargets (siteRequest_keepsTargets fun s t slot x done => ?_) s _ _)
    cases done
    exact barSite_activation s slot x
  | clearSite =>
    exact .of_next h (request_keepsTargets (siteRequest_keepsTargets fun _ _ _ _ => clearSite_activation) s _ _)
  | removeSite =>
    exact .of_next h (request_keepsTargets (siteRequest_keepsTargets fun _ _ _ _ => removeSite_activation) s _ _)
  | writeProduct => exact .of_next h (request_keepsTargets writeProduct_keepsTargets s _ _)
  | stageProduct =>
    exact .of_next h (request_keepsTargets
      (productRequest_keepsTargets fun _ _ _ done => .of_activation (stage_activation done)) s _ _)
  | cancelStage =>
    exact .of_next h (request_keepsTargets
      (productRequest_keepsTargets fun _ _ _ done => .of_activation (cancelStage_activation done)) s _ _)
  | applyNow =>
    exact .of_next h (request_keepsTargets (productRequest_keepsTargets fun _ _ _ => applyNow_keepsTargets) s _ _)
  | createOffer => exact .of_next h (request_keepsTargets createOffer_keepsTargets s _ _)
  | updateOffer => exact .of_next h (request_keepsTargets updateOffer_keepsTargets s _ _)
  | submitOffer => exact .of_next h (request_keepsTargets submitOffer_keepsTargets s _ _)
  | withdrawOffer => exact .of_next h (request_keepsTargets withdrawRequest_keepsTargets s _ _)
  | retireOffers => exact .of_next h (request_keepsTargets retireOffers_keepsTargets s _ _)
  | readOfferReserved => exact .of_next h (request_keepsTargets readReserved_keepsTargets s _ _)
  | updateOfferConditional => exact .of_next h (request_keepsTargets updateConditional_keepsTargets s _ _)
  | requestCensus => exact .of_next h (request_keepsTargets requestCensus_keepsTargets s _ _)
  | readStatus => exact .of_next h (request_keepsTargets readStatus_keepsTargets s _ _)
  | readLinkErrors => exact .of_next h (request_keepsTargets readLinkErrors_keepsTargets s _ _)
  | setParameters => exact .of_next h (request_keepsTargets setParameters_keepsTargets s _ _)
  | restart => exact .of_next h (request_keepsTargets (fun s r _ => warmRestart_targetsHeld _) s _ _)
  | requestOutOfFormat => exact execRequestOutOfFormat_keepsTargets h

/-- Settles O56: each step, the idle one and each of the commands, keeps the targets within their obligations. -/
theorem targetsStayWithinObligations : Obligations.TargetsStayWithinObligations := by
  unfold Obligations.TargetsStayWithinObligations
  intro s t held h
  suffices kept : KeepsTargets s t from kept held
  unfold step at h
  split at h
  · refine .of_next h (.of_activation ?_)
    unfold State.idle
    split
    · exact tick_activation s
    · rfl
  · next c rest _ =>
    exact KeepsTargets.trans (t := { s with pending := rest }) (.of_records rfl) (exec_keepsTargets h)

end Sys2Proof.Machine

namespace Sys2Proof.Machine

/-! ## What handing on makes of the Allocation Engine (R109, R126) -/

/-- R126: a trigger counts as made of whatever leaves the Allocation Engine and the latched inputs as they stand. -/
theorem State.TriggersOnce.onward {s t u : State} {c : Prop} (h : s.TriggersOnce t c)
    (allocation : u.allocation = t.allocation) (activation : u.activation = t.activation)
    (products : u.products = t.products) (census : u.census = t.census) (fleet : u.fleet = t.fleet) :
    s.TriggersOnce u c where
  kept n := allocation.trans (h.kept n)
  pended y running := allocation.trans (h.pended y running)
  started y idle := by
    obtain ⟨l, latched, started⟩ := h.started y idle
    exact ⟨l, latched.congr activation products (by rw [census]) fleet, allocation.trans started⟩

theorem targetsChanged_iff (s old : State) :
    s.targetsChanged old = true ↔ ∃ p, (s.act p).target ≠ (old.act p).target := by
  simp [State.targetsChanged, mem_allProducts]

/-- R109: handing on reaches the Allocation Engine by its trigger alone. -/
theorem handOn_allocation (s old : State) (c : Cause) :
    (s.handOn old c).allocation = (if s.targetsChanged old then s.trigger else s).allocation := by
  unfold State.handOn
  dsimp only
  rw [foldl_keeps (fun t => t.allocation), foldl_keeps (fun t => t.allocation)]
  · intro t p
    split <;> simp
  · intro t p
    split <;> simp

theorem handOn_act (s old : State) (c : Cause) (p : Product) : (s.handOn old c).act p = s.act p :=
  act_of_records (congrArg Activation.records (s.handOn_activation old c)) p

/-- R109, step 1: handing on makes one trigger exactly when some target changed. -/
theorem handOn_triggersOnce {s old : State} (c : Cause) (allocation : s.allocation = old.allocation) :
    old.TriggersOnce (s.handOn old c) (∃ p, ((s.handOn old c).act p).target ≠ (old.act p).target) := by
  have triggered (b : Bool) : (if b = true then s.trigger else s).activation = s.activation ∧
      (if b = true then s.trigger else s).products = s.products ∧
      (if b = true then s.trigger else s).census = s.census ∧ (if b = true then s.trigger else s).fleet = s.fleet := by
    cases b <;> simp
  obtain ⟨activation, products, census, fleet⟩ := triggered (s.targetsChanged old)
  have once := (triggersOnce_when s (s.targetsChanged old)).onward (handOn_allocation s old c)
    (by rw [State.handOn_activation, activation]) (by rw [State.handOn_products, products])
    (by rw [State.handOn_census, census]) (by rw [State.handOn_fleet, fleet])
  refine once.congr allocation.symm ?_
  rw [targetsChanged_iff]
  simp only [handOn_act]

/-- R109: a frame placed changes no target and makes no trigger. -/
theorem EgressOnly.triggersOnce {s t : State} (h : EgressOnly s t) :
    s.TriggersOnce t (∃ p, (t.act p).target ≠ (s.act p).target) := by
  have same : ¬ ∃ p, (t.act p).target ≠ (s.act p).target := fun ⟨p, changed⟩ =>
    changed (by rw [State.act, h.activation]; rfl)
  exact ⟨fun _ => h.allocation, fun y => absurd y same, fun y => absurd y same⟩

/-! ## The ACK source while the arbiter makes no choice (R110, R178) -/

/-- While the arbiter makes no choice, `t` makes none either and its ACK source is as `s` holds it. -/
def AcksHeld (s t : State) : Prop := s.gridHolds = true → t.gridHolds = true ∧ t.arbiter.ack = s.arbiter.ack

theorem AcksHeld.refl (s : State) : AcksHeld s s := fun h => ⟨h, rfl⟩

theorem AcksHeld.trans {s t u : State} (h : AcksHeld s t) (k : AcksHeld t u) : AcksHeld s u := fun holds => by
  obtain ⟨holds', acks⟩ := h holds
  obtain ⟨holds'', acks'⟩ := k holds'
  exact ⟨holds'', acks'.trans acks⟩

theorem AcksHeld.foldl {α : Type} {f : State → α → State} (h : ∀ s a, AcksHeld s (f s a)) (l : List α) (s : State) :
    AcksHeld s (l.foldl f s) := by
  induction l generalizing s with
  | nil => exact .refl s
  | cons a l ih => exact (h s a).trans (ih _)

theorem AcksHeld.of_eq {s t : State} (links : t.links = s.links) (acks : t.arbiter.ack = s.arbiter.ack) : AcksHeld s t :=
  fun holds => ⟨by rw [State.gridHolds, links]; exact holds, acks⟩

theorem afterPlacing_acksHeld (s : State) (b : Bool) : AcksHeld s (s.afterPlacing b) := fun holds => by
  rw [afterPlacing_of_gridHolds holds]
  exact ⟨holds, rfl⟩

theorem post_acksHeld (s : State) (n : Notice) : AcksHeld s (s.post n) := fun holds => by
  obtain ⟨m, posted, -⟩ := post_of_gridHolds holds n
  rw [posted]
  exact ⟨holds, rfl⟩

theorem queueAvailability_acksHeld (s : State) : AcksHeld s s.queueAvailability := by
  unfold State.queueAvailability State.placeAvailability
  refine AcksHeld.trans ?_ (afterPlacing_acksHeld _ _)
  exact .of_eq rfl rfl

theorem evaluate_acksHeld (s : State) (b : Bool) : AcksHeld s (s.evaluate b) :=
  evaluate_rel .refl .trans post_acksHeld (fun _ _ => .of_eq rfl rfl) queueAvailability_acksHeld s b

theorem signalLost_acksHeld (s : State) (p : Product) (b : Bool) : AcksHeld s (s.signalLost p b) :=
  AcksHeld.trans (t := s.setMon p { s.mon p with freqLost := b }) (.of_eq rfl rfl) (evaluate_acksHeld _ _)

theorem handOn_acksHeld (s old : State) (c : Cause) : AcksHeld s (s.handOn old c) := by
  have triggered (b : Bool) : AcksHeld s (if b then s.trigger else s) := by
    cases b with
    | false => exact .refl s
    | true => exact .of_eq s.trigger_links (congrArg Arbiter.ack s.trigger_arbiter)
  unfold State.handOn
  refine (triggered _).trans (.trans (.foldl (fun t p => ?_) _ _) (.foldl (fun t p => ?_) _ _))
  · split
    · exact signalLost_acksHeld t p _
    · exact .refl t
  · split
    · exact post_acksHeld t _
    · exact .refl t

theorem mem_placeIn {κ α : Type} [DecidableEq κ] (l : List (κ × α)) (k : κ) (a : α) : (k, a) ∈ placeIn l k a := by
  induction l with
  | nil => exact .head _
  | cons e l ih =>
    unfold placeIn
    split
    · exact .head _
    · exact .tail _ ih

/-- R110: an acknowledgement placed waits in its place. -/
theorem placeAck_waits {s : State} (holds : s.gridHolds = true) (place : Option Product) (a : Ack) :
    (s.placeAck place a).gridHolds = true ∧ (place, a) ∈ (s.placeAck place a).arbiter.ack := by
  obtain ⟨holds', acks⟩ := afterPlacing_acksHeld { s with arbiter := { s.arbiter with
    ack := placeIn s.arbiter.ack place a } } s.arbiter.ack.isEmpty holds
  refine ⟨holds', ?_⟩
  rw [State.placeAck, acks]
  exact mem_placeIn _ _ _

/-- R110: the acknowledgement of an event at product `p`'s record `r`. -/
def State.ackOf (s : State) (p : Product) (r : ActRecord) (id : Nat) (o : AckOutcome) (time : Option Nat) : Ack :=
  { code := (s.bank p).code, id := id, outcome := o, target := some r.target, obligation := some r.obligation,
    time := time }

theorem ackFor_waits {s : State} (holds : s.gridHolds = true) (p : Product) (id : Nat) (o : AckOutcome)
    (time : Option Nat) : (s.ackFor p id o time).gridHolds = true ∧
      (some p, s.ackOf p (s.act p) id o time) ∈ (s.ackFor p id o time).arbiter.ack := placeAck_waits holds _ _

/-! ## What an order, an end or an arrival leaves (R109, R110)

Each is refused with an acknowledgement alone, or sets one record, acknowledges and hands on. -/

/-- The blocks beside the Activation Unit stand, and one trigger is made exactly when some target changed. -/
structure ActivationFrame (s t : State) : Prop where
  fleet : t.fleet = s.fleet
  products : t.products = s.products
  census : t.census = s.census
  clock : t.time.clock = s.time.clock
  params : t.params = s.params
  sample : t.activation.sample = s.activation.sample
  once : s.TriggersOnce t (∃ p, (t.act p).target ≠ (s.act p).target)

/-- R110: a frame refused is acknowledged alone. -/
theorem EgressOnly.activationFrame {s t : State} (h : EgressOnly s t) : ActivationFrame s t :=
  ⟨h.fleet, h.products, h.census, congrArg TimeBase.clock h.time, h.params, congrArg Activation.sample h.activation,
    h.triggersOnce⟩

/-- From `s` product `p`'s record became `r`, its effective time `registered`, the frame of `id` was acknowledged, and the
change handed on, which left `t`. -/
structure Acknowledged (s : State) (p : Product) (r : ActRecord) (registered : Option Nat) (id : Nat) (o : AckOutcome)
    (time : Option Nat) (t : State) : Prop extends ActivationFrame s t where
  own : t.act p = r
  others : ∀ q, q ≠ p → t.act q = s.act q
  registers : t.time = { s.time with effective := s.time.effective.set p registered }
  waits : s.gridHolds = true → (some p, s.ackOf p r id o time) ∈ t.arbiter.ack

/-- R109, R110: the record set, the frame acknowledged and the change handed on. -/
theorem acknowledged_handedOn (s : State) (p : Product) (r : ActRecord) (registered : Option Nat) (id : Nat)
    (o : AckOutcome) (time : Option Nat) (c : Cause) : Acknowledged s p r registered id o time
      ((((s.setAct p r).registerTime p registered).ackFor p id o time).handOn s c) := by
  have act (q : Product) : ((((s.setAct p r).registerTime p registered).ackFor p id o time).handOn s c).act q =
      if q = p then r else s.act q := by
    rw [handOn_act, State.act, State.ackFor_activation]
    exact State.act_setAct s p q r
  have registers : ((((s.setAct p r).registerTime p registered).ackFor p id o time).handOn s c).time =
      { s.time with effective := s.time.effective.set p registered } := by
    rw [State.handOn_time, State.ackFor_time]
    rfl
  refine ⟨⟨?_, ?_, ?_, by rw [registers], ?_, ?_, ?_⟩, by rw [act, if_pos rfl],
    fun q hq => by rw [act, if_neg hq], registers, fun holds => ?_⟩
  · rw [State.handOn_fleet, State.ackFor_fleet]; rfl
  · rw [State.handOn_products, State.ackFor_products]; rfl
  · rw [State.handOn_census, State.ackFor_census]; rfl
  · rw [State.handOn_params, State.ackFor_params]; rfl
  · rw [State.handOn_activation, State.ackFor_activation]; rfl
  · exact handOn_triggersOnce c (State.ackFor_allocation _ _ _ _ _)
  · obtain ⟨holds', placed⟩ := ackFor_waits (s := (s.setAct p r).registerTime p registered) holds p id o time
    obtain ⟨-, acks⟩ := handOn_acksHeld _ s c holds'
    have own : ((s.setAct p r).registerTime p registered).act p = r := (s.act_setAct p p r).trans (if_pos rfl)
    rw [own] at placed
    rw [acks]
    exact placed

/-- Registering the effective time that stands changes nothing. -/
theorem registerTime_self (s : State) (p : Product) : s.registerTime p (s.time.effective.get p) = s := by
  have same : s.time.effective.set p (s.time.effective.get p) = s.time.effective := PerProduct.ext_get fun q => by
    rw [PerProduct.get_set]
    split
    · next own => rw [own]
    · rfl
  rw [State.registerTime, same]

/-! ## Orders (R111 to R113) -/

/-- R112: the record with an order applied, in the words of the rule. -/
theorem applyOrder_eq (r : ActRecord) (id quantity : Nat) : r.applyOrder id quantity =
    { r with
      target := min quantity r.obligation
      currentId := if min quantity r.obligation = 0 then none else some id
      state := if min quantity r.obligation ≠ 0 then .active else if r.order.isSome then .pending else .idle } := by
  unfold ActRecord.applyOrder
  split
  · next zero => simp [zero, ActRecord.restState]
  · simp

theorem orderDue_iff (s : State) (time : Nat) :
    s.orderDue time = true ↔ time = 0 ∨ ∃ d, s.deviceTime = some d ∧ time ≤ d := by
  unfold State.orderDue
  cases s.deviceTime <;> simp

end Sys2Proof.Machine

namespace Sys2Proof.Machine

/-! ## EFFECTIVE_TIME_ARRIVAL (R113) -/

/-- R47: the calendar executes the arrival that is due. -/
theorem effectiveTimeArrival_next {s : State} {p : Product} {time : Nat} (due : s.dueEvent = some (.arrival p time)) :
    exec (.effectiveTimeArrival p time) s = .next (s.deliver (.arrival p time)) := by
  change Host.Outcome.next (if s.dueEvent = some (.arrival p time) then s.deliver (.arrival p time) else s) = _
  rw [if_pos due]

/-- R113: the record an arrival leaves: the order applied, or dropped without an obligation. -/
def ActRecord.arrived (r : ActRecord) (o : PendingOrder) : ActRecord :=
  if r.obligation = 0 then { r with order := none, state := if r.state = .pending then .idle else r.state }
  else { r with order := none }.applyOrder o.id o.quantity

theorem arrived_of_obligation {r : ActRecord} (obliged : 0 < r.obligation) (o : PendingOrder) : r.arrived o = { r with
    order := none
    target := min o.quantity r.obligation
    currentId := if min o.quantity r.obligation = 0 then none else some o.id
    state := if min o.quantity r.obligation = 0 then .idle else .active } := by
  rw [ActRecord.arrived, if_neg (Nat.ne_of_gt obliged), applyOrder_eq]
  by_cases zero : min o.quantity r.obligation = 0 <;> simp [zero]

/-- R113: the outcome an arriving order is acknowledged with. -/
def arrivalOutcome (o : PendingOrder) (obligation : Nat) : AckOutcome :=
  if obligation = 0 then .refusedNoObligation else orderOutcome o.quantity obligation

/-- R113: the arrival of the pending order's time sets the record, acknowledges the order and hands on. -/
theorem arrival_acknowledged {s : State} {p : Product} {o : PendingOrder} (order : (s.act p).order = some o) :
    Acknowledged s p ((s.act p).arrived o) none o.id (arrivalOutcome o (s.act p).obligation) (some o.time)
      (s.arrival p o.time) := by
  have dropped (r : ActRecord) : (if r.state = .pending then { r with order := none, state := .idle }
      else { r with order := none }) =
      { r with order := none, state := if r.state = .pending then .idle else r.state } := by
    split <;> rfl
  have arrival : s.arrival p o.time = (((s.setAct p ((s.act p).arrived o)).registerTime p none).ackFor p o.id
      (arrivalOutcome o (s.act p).obligation) (some o.time)).handOn s .effectiveTime := by
    unfold State.arrival ActRecord.arrived arrivalOutcome
    rw [order]
    dsimp only
    rw [if_neg (fun differ => differ rfl), dropped]
    split <;> rfl
  rw [arrival]
  exact acknowledged_handedOn s p _ none _ _ _ _

/-- Settles O17: the arrival sets the record, acknowledges the order and hands on. -/
theorem arrivalAppliesOrDropsTheOrder : Obligations.ArrivalAppliesOrDropsTheOrder := by
  unfold Obligations.ArrivalAppliesOrDropsTheOrder
  rintro p time s o due order rfl r target
  obtain ⟨-, withdrawn, registered⟩ := deliver_arrival_time s p o.time
  have done : Acknowledged (s.registerTime p none) p (r.arrived o) none o.id (arrivalOutcome o r.obligation)
      (some o.time) (s.deliver (.arrival p o.time)) := arrival_acknowledged order
  refine ⟨_, effectiveTimeArrival_next due, withdrawn, fun obliged => ?_, fun none => ?_,
    fun q hq => ⟨done.others q hq, registered q hq⟩, ?_, done.sample, done.clock, done.fleet, done.products, done.census,
    done.params⟩
  · rw [done.own, arrived_of_obligation obliged]
  · rw [done.own, ActRecord.arrived, if_pos none]
  · refine done.once.congr rfl ⟨fun changed => ⟨p, changed⟩, fun ⟨q, changed⟩ => ?_⟩
    by_cases own : q = p
    · subst own
      exact changed
    · exact absurd (congrArg ActRecord.target (done.others q own)) changed

/-! ## ACTIVATION_ORDER (R110 to R113) -/

/-- R111: an order in format is taken by the Activation Unit. -/
theorem activationOrder_next {s : State} {f : Frame} (head : s.gridHead .activationOrder = some f)
    (format : f.payload.length = 16) : exec .activationOrder s = .next ((s.dropHead .grid).takeOrder
      (fieldAt f.payload 0 2) (fieldAt f.payload 2 4) (fieldAt f.payload 6 4) (fieldAt f.payload 10 6)) := by
  change execActivationOrder s = _
  unfold execActivationOrder
  rw [head]
  dsimp only
  rw [if_neg (not_not_intro format)]

/-- R110: while the arbiter makes no choice, an acknowledgement of `id` waits in `place`; one in a product's place shows
its record as `t` holds it. -/
def State.AckWaits (s t : State) (place : Option Product) (id : Nat) (o : AckOutcome) (time : Option Nat) : Prop :=
  s.gridHolds = true → ∃ a : Ack, (place, a) ∈ t.arbiter.ack ∧ a.id = id ∧ a.outcome = o ∧ a.time = time ∧
    ∀ p, place = some p → a.target = some (t.act p).target ∧ a.obligation = some (t.act p).obligation ∧
      a.code = (s.bank p).code

theorem ackFor_ackWaits (s : State) (p : Product) (id : Nat) (o : AckOutcome) (time : Option Nat) :
    s.AckWaits (s.ackFor p id o time) (some p) id o time := fun holds => by
  refine ⟨_, (ackFor_waits holds p id o time).2, rfl, rfl, rfl, ?_⟩
  rintro q ⟨⟩
  rw [act_of_records (congrArg Activation.records (s.ackFor_activation p id o time))]
  exact ⟨rfl, rfl, rfl⟩

theorem ackUnknown_ackWaits (s : State) (code id : Nat) (time : Option Nat) :
    s.AckWaits (s.ackUnknown code id time) none id .refusedUnknownProduct time := fun holds => by
  refine ⟨_, (placeAck_waits holds none _).2, rfl, rfl, rfl, ?_⟩
  rintro q ⟨⟩

theorem Acknowledged.ackWaits {s t : State} {p : Product} {r : ActRecord} {registered : Option Nat} {id : Nat}
    {o : AckOutcome} {time : Option Nat} (h : Acknowledged s p r registered id o time t) :
    s.AckWaits t (some p) id o time := fun holds => by
  refine ⟨_, h.waits holds, rfl, rfl, rfl, ?_⟩
  rintro q ⟨⟩
  rw [h.own]
  exact ⟨rfl, rfl, rfl⟩

section Orders
variable {s : State} {code : Nat} {p : Product} (id quantity time : Nat)

theorem takeOrder_unknown (unknown : s.productWithCode code = none) :
    s.takeOrder code id quantity time = s.ackUnknown code id (some time) := by
  simp only [State.takeOrder, unknown]

theorem takeOrder_frequency (named : s.productWithCode code = some p) (mode : (s.bank p).mode = .frequency) :
    s.takeOrder code id quantity time = s.ackFor p id .refusedMode (some time) := by
  simp only [State.takeOrder, named, if_pos mode]

theorem takeOrder_noObligation (named : s.productWithCode code = some p) (mode : (s.bank p).mode = .signalled)
    (none : (s.act p).obligation = 0) :
    s.takeOrder code id quantity time = s.ackFor p id .refusedNoObligation (some time) := by
  simp [State.takeOrder, named, mode, none]

/-- R112: an order that is due is applied; the registered effective time stands. -/
theorem takeOrder_due (named : s.productWithCode code = some p) (mode : (s.bank p).mode = .signalled)
    (obliged : 0 < (s.act p).obligation) (due : s.orderDue time = true) :
    Acknowledged s p ((s.act p).applyOrder id quantity) (s.time.effective.get p) id
      (orderOutcome quantity (s.act p).obligation) (some time) (s.takeOrder code id quantity time) := by
  have stands := registerTime_self (s.setAct p ((s.act p).applyOrder id quantity)) p
  have taken : s.takeOrder code id quantity time = ((s.setAct p ((s.act p).applyOrder id quantity)).ackFor p id
      (orderOutcome quantity (s.act p).obligation) (some time)).handOn s .order := by
    simp [State.takeOrder, named, mode, due, Nat.ne_of_gt obliged]
  rw [taken, ← stands]
  exact acknowledged_handedOn s p _ _ _ _ _ _

/-- R113: an order for a later time waits in the record. -/
theorem takeOrder_later (named : s.productWithCode code = some p) (mode : (s.bank p).mode = .signalled)
    (obliged : 0 < (s.act p).obligation) (later : s.orderDue time = false) :
    Acknowledged s p ((s.act p).withOrder { id := id, quantity := quantity, time := time }) (some time) id
      (orderOutcome quantity (s.act p).obligation) (some time) (s.takeOrder code id quantity time) := by
  have taken : s.takeOrder code id quantity time =
      (((s.setAct p ((s.act p).withOrder { id := id, quantity := quantity, time := time })).registerTime p
        (some time)).ackFor p id (orderOutcome quantity (s.act p).obligation) (some time)).handOn s .order := by
    simp [State.takeOrder, named, mode, later, Nat.ne_of_gt obliged]
  rw [taken]
  exact acknowledged_handedOn s p _ _ _ _ _ _

/-- R111: an order of an enabled product is refused with an acknowledgement alone, or taken at that product's record. -/
theorem takeOrder_cases (named : s.productWithCode code = some p) :
    EgressOnly s (s.takeOrder code id quantity time) ∨
    ∃ r registered o, Acknowledged s p r registered id o (some time) (s.takeOrder code id quantity time) := by
  cases mode : (s.bank p).mode with
  | frequency =>
    rw [takeOrder_frequency id quantity time named mode]
    exact .inl (ackFor_egress s p _ _ _)
  | signalled =>
    rcases Nat.eq_zero_or_pos (s.act p).obligation with none | obliged
    · rw [takeOrder_noObligation id quantity time named mode none]
      exact .inl (ackFor_egress s p _ _ _)
    · cases due : s.orderDue time with
      | true => exact .inr ⟨_, _, _, takeOrder_due id quantity time named mode obliged due⟩
      | false => exact .inr ⟨_, _, _, takeOrder_later id quantity time named mode obliged due⟩

theorem takeOrder_frame (code : Nat) : ActivationFrame s (s.takeOrder code id quantity time) := by
  cases named : s.productWithCode code with
  | none =>
    rw [takeOrder_unknown id quantity time named]
    exact (ackUnknown_egress s _ _ _).activationFrame
  | some p =>
    rcases takeOrder_cases id quantity time named with refused | ⟨r, registered, o, taken⟩
    · exact refused.activationFrame
    · exact taken.toActivationFrame

theorem takeOrder_others (named : s.productWithCode code = some p) {q : Product} (hq : q ≠ p) :
    (s.takeOrder code id quantity time).act q = s.act q := by
  rcases takeOrder_cases id quantity time named with refused | ⟨r, registered, o, taken⟩
  · exact act_of_records (congrArg Activation.records refused.activation) q
  · exact taken.others q hq

end Orders

/-- Settles O25: the order's checks one by one; a refusal places a frame, an order taken sets one record. -/
theorem orderIsRefusedAppliedOrMadePending : Obligations.OrderIsRefusedAppliedOrMadePending := by
  unfold Obligations.OrderIsRefusedAppliedOrMadePending
  intro s f head format code id quantity time acked
  let u := s.dropHead .grid
  have frame : ActivationFrame u (u.takeOrder code id quantity time) := takeOrder_frame id quantity time code
  refine ⟨_, activationOrder_next head format, frame.fleet, frame.products, frame.census, frame.clock, frame.params,
    frame.sample, frame.once.congr rfl Iff.rfl, fun unknown => ?_, fun p named => ?_⟩
  · rw [takeOrder_unknown (s := u) id quantity time unknown]
    have egress := ackUnknown_egress u code id (some time)
    exact ⟨egress.activation, egress.time, ackUnknown_ackWaits u code id (some time)⟩
  · intro r target outcome due
    have dueIff : u.orderDue time = true ↔ due := orderDue_iff u time
    have refused (o : AckOutcome) := ackFor_egress u p id o (some time)
    refine ⟨fun q hq => takeOrder_others (s := u) id quantity time named hq, fun mode => ?_, fun mode none => ?_,
      fun mode obliged now => ?_, fun mode obliged later => ?_⟩
    · rw [takeOrder_frequency (s := u) id quantity time named mode]
      exact ⟨(refused _).activation, (refused _).time, ackFor_ackWaits u p id _ _⟩
    · rw [takeOrder_noObligation (s := u) id quantity time named mode none]
      exact ⟨(refused _).activation, (refused _).time, ackFor_ackWaits u p id _ _⟩
    · have applied := takeOrder_due (s := u) id quantity time named mode obliged (dueIff.2 now)
      refine ⟨?_, applied.ackWaits, ?_⟩
      · rw [applied.registers]
        exact congrArg State.time (registerTime_self u p)
      · rw [applied.own, applyOrder_eq]
        rfl
    · have waiting := takeOrder_later (s := u) id quantity time named mode obliged
        (Bool.eq_false_iff.2 (mt dueIff.1 later))
      refine ⟨?_, waiting.ackWaits, waiting.own⟩
      rw [waiting.registers, PerProduct.get_set, if_pos rfl]

end Sys2Proof.Machine

namespace Sys2Proof.Machine

/-! ## ACTIVATION_END (R114) -/

/-- R114: an end in format is taken by the Activation Unit. -/
theorem activationEnd_next {s : State} {f : Frame} (head : s.gridHead .activationEnd = some f)
    (format : f.payload.length = 6) : exec .activationEnd s = .next ((s.dropHead .grid).takeEnd
      (fieldAt f.payload 0 2) (fieldAt f.payload 2 4)) := by
  change execActivationEnd s = _
  unfold execActivationEnd
  rw [head]
  dsimp only
  rw [if_neg (not_not_intro format)]

theorem names_iff (r : ActRecord) (id : Nat) :
    r.names id = true ↔ r.currentId = some id ∨ ∃ o, r.order = some o ∧ o.id = id := by
  unfold ActRecord.names
  cases r.order <;> simp

section Ends
variable {s : State} {code : Nat} {p : Product} (id : Nat)

/-- R114: an end that names no enabled product is refused. -/
theorem takeEnd_unknown (unknown : s.productWithCode code = none) : EgressOnly s (s.takeEnd code id) := by
  have answered : s.takeEnd code id = s.ackUnknown code id none := by simp only [State.takeEnd, unknown]
  rw [answered]
  exact ackUnknown_egress s _ _ _

/-- R114: an end of a FREQUENCY product, or one that names neither activation, is refused. -/
theorem takeEnd_refused (named : s.productWithCode code = some p)
    (refused : (s.bank p).mode = .frequency ∨ ¬ (s.act p).names id = true) : EgressOnly s (s.takeEnd code id) := by
  simp only [State.takeEnd, named]
  split_ifs with mode names
  · exact ackFor_egress s p _ _ _
  · exact absurd names (refused.resolve_left mode)
  · exact ackFor_egress s p _ _ _

/-- R114: an end that names the current or the pending activation ends both. -/
theorem takeEnd_named (named : s.productWithCode code = some p) (mode : (s.bank p).mode = .signalled)
    (names : (s.act p).names id = true) :
    Acknowledged s p (s.act p).ended none id .ended none (s.takeEnd code id) := by
  have taken : s.takeEnd code id =
      (((s.setAct p (s.act p).ended).registerTime p none).ackFor p id .ended none).handOn s .finish := by
    simp [State.takeEnd, named, mode, names]
  rw [taken]
  exact acknowledged_handedOn s p _ none _ _ _ _

theorem takeEnd_cases (named : s.productWithCode code = some p) : EgressOnly s (s.takeEnd code id) ∨
    Acknowledged s p (s.act p).ended none id .ended none (s.takeEnd code id) := by
  by_cases names : (s.act p).names id = true
  · cases mode : (s.bank p).mode with
    | frequency => exact .inl (takeEnd_refused id named (.inl mode))
    | signalled => exact .inr (takeEnd_named id named mode names)
  · exact .inl (takeEnd_refused id named (.inr names))

theorem takeEnd_frame (code : Nat) : ActivationFrame s (s.takeEnd code id) := by
  cases named : s.productWithCode code with
  | none => exact (takeEnd_unknown id named).activationFrame
  | some p =>
    rcases takeEnd_cases id named with refused | ended
    · exact refused.activationFrame
    · exact ended.toActivationFrame

theorem takeEnd_others (named : s.productWithCode code = some p) {q : Product} (hq : q ≠ p) :
    (s.takeEnd code id).act q = s.act q := by
  rcases takeEnd_cases id named with refused | ended
  · exact act_of_records (congrArg Activation.records refused.activation) q
  · exact ended.others q hq

end Ends

/-- Settles O26: an end is refused with an acknowledgement alone, or ends the record's activations. -/
theorem endStopsTheActivationItNames : Obligations.EndStopsTheActivationItNames := by
  unfold Obligations.EndStopsTheActivationItNames
  intro s f head format code id
  let u := s.dropHead .grid
  have frame : ActivationFrame u (u.takeEnd code id) := takeEnd_frame id code
  refine ⟨_, activationEnd_next head format, frame.fleet, frame.products, frame.census, frame.clock, frame.params,
    frame.sample, frame.once.congr rfl Iff.rfl, fun unknown => ?_, fun p named => ?_⟩
  · have egress := takeEnd_unknown (s := u) id unknown
    exact ⟨egress.activation, egress.time⟩
  · intro r names
    have namesIff : (u.act p).names id = true ↔ names := names_iff (u.act p) id
    refine ⟨fun q hq => takeEnd_others (s := u) id named hq, fun refused => ?_, fun mode ends => ?_⟩
    · have egress := takeEnd_refused (s := u) id named (refused.imp_right (mt namesIff.1))
      exact ⟨egress.activation, egress.time⟩
    · have ended := takeEnd_named (s := u) id named mode (namesIff.2 ends)
      refine ⟨?_, ended.own, fun holds => ⟨_, ended.waits holds, rfl, rfl, rfl, rfl⟩⟩
      rw [ended.registers, PerProduct.get_set, if_pos rfl]

/-! ## Records that follow frequency (R109, R116 to R118) -/

theorem follows_iff (s : State) (p : Product) : s.follows p = true ↔
    (s.bank p).enabled = true ∧ (s.bank p).mode = .frequency ∧ 0 < (s.act p).obligation := by
  simp [State.follows, State.followsFrequency, and_assoc]

theorem follows_and_iff (s : State) (p : Product) (x : ActState) :
    (s.follows p && decide ((s.act p).state = x)) = true ↔ (s.bank p).enabled = true ∧ (s.bank p).mode = .frequency ∧
      0 < (s.act p).obligation ∧ (s.act p).state = x := by
  rw [Bool.and_eq_true, follows_iff, decide_eq_true_iff, and_assoc, and_assoc]

/-- R109: records changed all at once and handed on. -/
theorem mapActs_handedOn (s : State) (f : Product → ActRecord) (c : Cause) :
    ActivationFrame s ((s.mapActs f).handOn s c) ∧ ((s.mapActs f).handOn s c).time = s.time ∧
      ∀ p, ((s.mapActs f).handOn s c).act p = f p := by
  refine ⟨⟨State.handOn_fleet _ _ _, State.handOn_products _ _ _, State.handOn_census _ _ _, ?_, State.handOn_params _ _ _,
    ?_, handOn_triggersOnce c rfl⟩, State.handOn_time _ _ _, fun p => by rw [handOn_act, State.act_mapActs]⟩
  · rw [State.handOn_time]; rfl
  · rw [State.handOn_activation]; rfl

/-! ### SAMPLE_TIMEOUT and SAMPLE_LOSS (R118) -/

theorem sampleTimeout_next {s : State} (silent : silenceReaches s.silence s.params.sampleTimeout = true) :
    exec .sampleTimeout s = .next (s.holdRecords.handOn s .sampleTimeout) := congrArg Host.Outcome.next (if_pos silent)

theorem sampleLoss_next {s : State}
    (silent : silenceReaches s.silence (s.params.sampleTimeout + s.params.holdTime) = true) :
    exec .sampleLoss s = .next (s.loseRecords.handOn s .sampleLoss) := congrArg Host.Outcome.next (if_pos silent)

/-- R109, R118: a record that leaves HOLDING for LOST is signalled. -/
theorem loseRecords_signals {s : State} {p : Product} (loses : (s.follows p && decide ((s.act p).state = .holding)) = true) :
    ((s.loseRecords.handOn s .sampleLoss).mon p).freqLost = true := by
  have lost : (s.loseRecords.act p).state = .lost := by
    rw [State.loseRecords, State.act_mapActs, if_pos loses]
  have held : (s.act p).state = .holding := ((follows_and_iff s p _).1 loses).2.2.2
  have changed : s.loseRecords.lossChanged s p = true := by simp [State.lossChanged, lost, held]
  rw [handOn_freqLost, if_pos changed, lost]
  rfl

/-- Settles O28: each bound of the silence sets the records that follow and hands on. -/
theorem silenceHoldsAndThenLosesTheRecords : Obligations.SilenceHoldsAndThenLosesTheRecords := by
  unfold Obligations.SilenceHoldsAndThenLosesTheRecords
  intro s bound silent
  have reached := (silenceReaches_iff s bound).2 silent
  constructor
  · rintro rfl
    obtain ⟨frame, time, records⟩ := mapActs_handedOn s (fun p =>
      if s.follows p && decide ((s.act p).state = .active) then { s.act p with state := .holding } else s.act p)
      .sampleTimeout
    have targets : ¬ ∃ p, ((s.holdRecords.handOn s .sampleTimeout).act p).target ≠ (s.act p).target :=
      fun ⟨p, changed⟩ => changed (by
        refine (congrArg ActRecord.target (records p)).trans ?_
        split <;> rfl)
    refine ⟨_, sampleTimeout_next reached, fun p => ?_, frame.once.kept targets, frame.sample, time, frame.fleet,
      frame.products, frame.census, frame.params⟩
    exact (records p).trans (if_congr (follows_and_iff s p .active) rfl rfl)
  · rintro rfl
    obtain ⟨frame, time, records⟩ := mapActs_handedOn s (fun p =>
      if s.follows p && decide ((s.act p).state = .holding) then { s.act p with state := .lost, target := 0 }
      else s.act p) .sampleLoss
    refine ⟨_, sampleLoss_next reached, fun p => ?_, frame.once, frame.sample, time, frame.fleet, frame.products,
      frame.census, frame.params⟩
    have losesIff := follows_and_iff s p .holding
    exact ⟨fun loses => ⟨(records p).trans (if_pos (losesIff.2 loses)), loseRecords_signals (losesIff.2 loses)⟩,
      fun stays => (records p).trans (if_neg (mt losesIff.1 stays))⟩

/-! ### FREQ_SAMPLE (R116, R117) -/

theorem sampleValid_iff (s : State) (number frequency : Nat) : s.sampleValid number frequency = true ↔
    s.params.nominal ≤ frequency + 5000 ∧ frequency ≤ s.params.nominal + 5000 ∧
      ∀ x, s.activation.sample = some x → x.number < number := by
  unfold State.sampleValid
  cases s.activation.sample <;> simp [and_assoc]

/-- R117: the raw target in integers, where the share of the obligation is one of positive numbers. -/
theorem rawTarget_cast (b : Bank) (obligation : Nat) (x : Int) : (rawTarget b obligation x : Int) =
    if x ≤ b.deadband then 0
    else if (b.fullDeviation : Int) ≤ x then (obligation : Int)
    else (obligation * (x - b.deadband)) / (b.fullDeviation - b.deadband) := by
  unfold rawTarget
  split
  · rfl
  · split
    · rfl
    · next above below =>
      have beyond : ((x.toNat - b.deadband : Nat) : Int) = x - b.deadband := by omega
      have span : ((b.fullDeviation - b.deadband : Nat) : Int) = b.fullDeviation - b.deadband := by omega
      rw [Int.natCast_ediv, Int.natCast_mul, beyond, span]

theorem replacesTarget_iff (raw target obligation threshold : Nat) : replacesTarget raw target obligation threshold = true ↔
    (threshold : Int) ≤ |(raw : Int) - target| ∨ (raw : Int) = 0 ∨ (raw : Int) = obligation := by
  simp only [replacesTarget, Bool.or_eq_true, decide_eq_true_iff, or_assoc]
  rw [← Int.natCast_natAbs]
  omega

/-- R117: the target a sample gives, in integers. -/
theorem sampled_target (r : ActRecord) (b : Bank) (nominal frequency : Nat) (raw : Int)
    (h : (rawTarget b r.obligation (deviation nominal frequency b.direction) : Int) = raw) :
    ((r.sampled b nominal frequency).target : Int) =
      if (b.stepThreshold : Int) ≤ |raw - r.target| ∨ raw = 0 ∨ raw = r.obligation then raw else r.target := by
  subst h
  rw [← if_congr (replacesTarget_iff _ r.target r.obligation b.stepThreshold) rfl rfl]
  exact apply_ite Nat.cast _ _ _

/-- R116: the sample fields set, the records changed and handed on. -/
theorem takeSample_effect (s : State) (number frequency : Nat) :
    let t := s.takeSample number frequency
    t.activation.sample = some { number := number, time := s.localTime } ∧
    t.activation.rejected = s.activation.rejected ∧
    (∀ p, t.act p = if s.follows p then (s.act p).sampled (s.bank p) s.params.nominal frequency else s.act p) ∧
    s.TriggersOnce t (∃ p, (t.act p).target ≠ (s.act p).target) ∧
    t.time = s.time ∧ t.fleet = s.fleet ∧ t.products = s.products ∧ t.census = s.census ∧ t.params = s.params := by
  unfold State.takeSample
  extract_lets _ noted t
  refine ⟨?_, ?_, fun p => ?_, handOn_triggersOnce _ rfl, State.handOn_time _ _ _, State.handOn_fleet _ _ _,
    State.handOn_products _ _ _, State.handOn_census _ _ _, State.handOn_params _ _ _⟩
  · rw [State.handOn_activation]; rfl
  · rw [State.handOn_activation]; rfl
  · rw [handOn_act, State.act_mapActs]; rfl

theorem freqSample_length {s : State} {f : Frame} {rest : List Frame} (head : s.links.meter.buffer = f :: rest)
    (length : f.payload.length ≠ 8) :
    exec .freqSample s = .next ((s.dropHead .meter).reportClass .meter .payload f.flagged) := by
  change execFreqSample s = _
  unfold execFreqSample
  rw [head]
  exact if_pos length

theorem freqSample_next {s : State} {f : Frame} {rest : List Frame} (head : s.links.meter.buffer = f :: rest)
    (length : f.payload.length = 8) : exec .freqSample s = .next (
      if (s.dropHead .meter).sampleValid (fieldAt f.payload 0 4) (fieldAt f.payload 4 4)
      then (s.dropHead .meter).takeSample (fieldAt f.payload 0 4) (fieldAt f.payload 4 4)
      else (s.dropHead .meter).rejectSample) := by
  change execFreqSample s = _
  unfold execFreqSample
  rw [head]
  dsimp only
  rw [if_neg (not_not_intro length)]
  split <;> rfl

/-- Settles O27: the sample's checks in turn; a valid one sets the records that follow and hands on. -/
theorem frequencySampleSetsTargets : Obligations.FrequencySampleSetsTargets := by
  unfold Obligations.FrequencySampleSetsTargets
  intro s f rest head u number frequency valid
  have validIff : u.sampleValid number frequency = true ↔ valid := sampleValid_iff u number frequency
  refine ⟨freqSample_length head, fun length invalid => ?_, fun length taken => ?_⟩
  · rw [freqSample_next head length, if_neg (mt validIff.1 invalid)]
    rfl
  · obtain ⟨sample, rejected, records, once, time, fleet, products, census, params⟩ := takeSample_effect u number frequency
    refine ⟨_, (freqSample_next head length).trans (congrArg _ (if_pos (validIff.2 taken))), sample, rejected,
      fun p => ?_, once.congr rfl Iff.rfl, time, fleet, products, census, params⟩
    intro b o x raw old
    have followsIff : u.follows p = true ↔ b.enabled = true ∧ b.mode = .frequency ∧ 0 < o := follows_iff u p
    refine ⟨fun enabled mode obliged => ?_, fun unfollowed => (records p).trans (if_neg fun follows => ?_)⟩
    · have record := (records p).trans (if_pos (followsIff.2 ⟨enabled, mode, obliged⟩))
      have deviates : deviation s.params.nominal frequency b.direction = x := rfl
      have given : (rawTarget b o (deviation s.params.nominal frequency b.direction) : Int) = raw := by
        rw [deviates, rawTarget_cast]
      rw [record]
      exact ⟨rfl, sampled_target (u.act p) b _ frequency raw given, rfl, rfl, rfl⟩
    · obtain ⟨enabled, mode, obliged⟩ := followsIff.1 follows
      rcases unfollowed with disabled | signalled | none
      · rw [disabled] at enabled
        cases enabled
      · rw [signalled] at mode
        cases mode
      · exact absurd none (Nat.ne_of_gt obliged)

end Sys2Proof.Machine

/-! # Allocation and dispatch: the division, the pass and the release; then the frame that renews a link

First the division of the granted power and the pass over the products in turn, then the end of a pass, the release and
its frames, and last a valid frame (R126 to R136, R164 to R173). -/

namespace Sys2Proof.Machine

/-! ## Ordering by a descending rank (R129, step 4) -/

section Ranked
variable {α : Type} (rank key : α → Nat)

/-- `a` is of higher rank than `b`, or of the same rank and of a lower key. -/
def ranksBefore (a b : α) : Prop := rank b < rank a ∨ (rank b = rank a ∧ key a < key b)

/-- An entry of higher key goes after those of its own rank. -/
theorem insertOrdered_ranked (a : α) {l : List α} (sorted : l.Pairwise (ranksBefore rank key))
    (lower : ∀ x ∈ l, key x < key a) :
    (insertOrdered (fun x y => decide (rank y < rank x)) a l).Pairwise (ranksBefore rank key) := by
  induction l with
  | nil => simp [insertOrdered]
  | cons b l ih =>
    obtain ⟨first, rest⟩ := List.pairwise_cons.1 sorted
    unfold insertOrdered
    split
    · next above =>
      have above : rank b < rank a := of_decide_eq_true above
      refine List.pairwise_cons.2 ⟨fun x hx => .inl ?_, sorted⟩
      rcases List.mem_cons.1 hx with rfl | hx
      · exact above
      · rcases first x hx with less | ⟨same, -⟩ <;> omega
    · next notAbove =>
      refine List.pairwise_cons.2 ⟨fun x hx => ?_, ih rest fun x hx => lower x (.tail _ hx)⟩
      rcases List.mem_cons.1 ((insertOrdered_perm _ a l).mem_iff.1 hx) with rfl | hx
      · have atMost : rank x ≤ rank b := by simpa using notAbove
        exact (Nat.lt_or_eq_of_le atMost).imp_right fun same => ⟨same, lower b (.head _)⟩
      · exact first x hx

/-- Entries taken in rising order of their keys come out by descending rank, the lower key first between equal ranks. -/
theorem ordered_ranked {l : List α} (rising : l.Pairwise (fun a b => key a < key b)) :
    (ordered (fun x y => decide (rank y < rank x)) l).Pairwise (ranksBefore rank key) := by
  have step (l m : List α) (sorted : m.Pairwise (ranksBefore rank key))
      (rising : l.Pairwise (fun a b => key a < key b)) (lower : ∀ x ∈ m, ∀ y ∈ l, key x < key y) :
      (l.foldl (fun acc a => insertOrdered (fun x y => decide (rank y < rank x)) a acc) m).Pairwise
        (ranksBefore rank key) := by
    induction l generalizing m with
    | nil => exact sorted
    | cons a l ih =>
      obtain ⟨first, rest⟩ := List.pairwise_cons.1 rising
      refine ih _ (insertOrdered_ranked rank key a sorted fun x hx => lower x hx a (.head _)) rest fun x hx y hy => ?_
      rcases List.mem_cons.1 ((insertOrdered_perm _ a m).mem_iff.1 hx) with rfl | hx
      · exact first y hy
      · exact lower x hx y (.tail _ hy)
  exact step l [] .nil rising (by simp)

/-- Of a sorted list, what a cut keeps stands before what it leaves. -/
theorem ranksBefore_of_cut {l : List α} (sorted : l.Pairwise (ranksBefore rank key)) {n : Nat} {a b : α}
    (ha : a ∈ l.take n) (hb : b ∈ l) (left : b ∉ l.take n) : ranksBefore rank key a b := by
  rw [← List.take_append_drop n l, List.pairwise_append] at sorted
  rw [← List.take_append_drop n l, List.mem_append] at hb
  obtain ⟨-, -, cross⟩ := sorted
  exact cross a ha b (hb.resolve_left left)

end Ranked

/-! ## The division (R129) -/

theorem Table.keys_nodup {α : Type} {t : Table α} (w : Table.wf t = true) : (t.map (fun e => e.1)).Nodup :=
  (List.pairwise_map.2 (Table.sorted_of_rising w)).imp Nat.ne_of_lt

/-- R129, step 4: the remainder of a site's part. -/
def remainder (total granted : Nat) (e : Nat × Nat) : Nat := granted * e.2 % total

/-- R129, steps 3 and 4: the watts the floors leave. -/
def leftover (total granted : Nat) (sites : Table Nat) : Nat := granted - sumOf sites (fun e => granted * e.2 / total)

/-- R129, step 4: the entries that get one watt more. -/
def favoured (total granted : Nat) (sites : Table Nat) : Table Nat :=
  (ordered (fun a b => decide (remainder total granted b < remainder total granted a)) sites).take
    (leftover total granted sites)

theorem favoured_sublist_perm (total granted : Nat) (sites : Table Nat) :
    ∃ l, (favoured total granted sites).Sublist l ∧ l.Perm sites :=
  ⟨_, List.take_sublist _ _, ordered_perm _ sites⟩

theorem mem_of_mem_favoured {total granted : Nat} {sites : Table Nat} {e : Nat × Nat}
    (h : e ∈ favoured total granted sites) : e ∈ sites := by
  obtain ⟨l, sub, perm⟩ := favoured_sublist_perm total granted sites
  exact perm.mem_iff.1 (sub.subset h)

section Division
variable {sites : Table Nat} (w : Table.wf sites = true) {granted : Nat}
include w

theorem favoured_nodup (total : Nat) : (favoured total granted sites).Nodup := by
  obtain ⟨l, sub, perm⟩ := favoured_sublist_perm total granted sites
  exact (perm.nodup_iff.2 (Table.keys_nodup w).of_map).sublist sub

/-- R129: what the division gives, entry by entry. -/
theorem divide_eq_map (total : Nat) : divide total granted sites =
    sites.map (fun e => (e.1, granted * e.2 / total + if e ∈ favoured total granted sites then 1 else 0)) := by
  refine List.map_congr_left fun e he => ?_
  have listed : ((favoured total granted sites).map (fun a => a.1)).contains e.1 = true ↔
      e ∈ favoured total granted sites := by
    rw [List.contains_iff_mem, List.mem_map]
    constructor
    · rintro ⟨a, ha, same⟩
      rwa [← List.inj_on_of_nodup_map (Table.keys_nodup w) (mem_of_mem_favoured ha) he same]
    · exact fun h => ⟨e, h, rfl⟩
  have taken : (leftoverOrder total granted sites).take (leftover total granted sites) =
      (favoured total granted sites).map (fun a => a.1) := List.map_take.symm
  change (e.1, granted * e.2 / total +
    if ((leftoverOrder total granted sites).take (leftover total granted sites)).contains e.1 = true then 1 else 0) = _
  simp only [taken, listed]

theorem divide_wf (total : Nat) : Table.wf (divide total granted sites) = true := by
  rw [divide_eq_map w]
  exact Table.risingFrom_of_sorted 0 (fun _ _ => Nat.zero_le _) (List.pairwise_map.2 (Table.sorted_of_rising w))

theorem readOr_divide (total : Nat) {e : Nat × Nat} (he : e ∈ sites) :
    Table.readOr (divide total granted sites) 0 e.1 =
      granted * e.2 / total + if e ∈ favoured total granted sites then 1 else 0 := by
  rw [Table.readOr, (Table.find_eq_some_iff (divide_wf w total) _ _).2
    (by rw [divide_eq_map w]; exact List.mem_map_of_mem he)]
  rfl

theorem one_more_iff (total : Nat) {e : Nat × Nat} (he : e ∈ sites) :
    Table.readOr (divide total granted sites) 0 e.1 = granted * e.2 / total + 1 ↔ e ∈ favoured total granted sites := by
  rw [readOr_divide w total he]
  split <;> simp [*]

/-- R129, step 4: a site with a watt more has the larger remainder, or an equal one and the lower slot. -/
theorem favoured_first (total : Nat) {a b : Nat × Nat} (ha : a ∈ favoured total granted sites) (hb : b ∈ sites)
    (left : b ∉ favoured total granted sites) : ranksBefore (remainder total granted) (fun e => e.1) a b :=
  ranksBefore_of_cut _ _ (ordered_ranked (remainder total granted) (fun e : Nat × Nat => e.1)
    (Table.sorted_of_rising w)) ha ((ordered_perm _ sites).mem_iff.2 hb) left

end Division

/-! ### The watts the floors leave (R129) -/

section Leftover
variable (sites : Table Nat) {total granted : Nat} (sum : sumOf sites (fun e => e.2) = total) (within : granted ≤ total)
include sum

theorem floors_add_remainders : total * sumOf sites (fun e => granted * e.2 / total) +
    sumOf sites (remainder total granted) = total * granted := by
  have parts : sumOf sites (fun e => granted * e.2) = granted * total := by
    rw [← sum, sumOf_eq_sum_map, sumOf_eq_sum_map, List.sum_map_mul_left]
  rw [mul_comm total granted, ← parts, sumOf_eq_sum_map, sumOf_eq_sum_map, sumOf_eq_sum_map, ← List.sum_map_mul_left,
    ← List.sum_map_add]
  exact congrArg List.sum (List.map_congr_left fun e _ => Nat.div_add_mod (granted * e.2) total)

theorem floors_le : sumOf sites (fun e => granted * e.2 / total) ≤ granted := by
  rcases Nat.eq_zero_or_pos total with zero | positive
  · simp [zero, sumOf_eq_sum_map]
  · have whole := floors_add_remainders (granted := granted) sites sum
    exact Nat.le_of_mul_le_mul_left (by omega) positive

include within

/-- R129, step 4: the leftover watts are no more than the sites with a remainder. -/
theorem leftover_le :
    leftover total granted sites ≤ (sites.filter (fun e => decide (0 < remainder total granted e))).length := by
  rcases Nat.eq_zero_or_pos total with zero | positive
  · have none : granted = 0 := by omega
    simp [leftover, none]
  · have whole := floors_add_remainders (granted := granted) sites sum
    have floors := floors_le (granted := granted) sites sum
    have counted : sumOf sites (remainder total granted) ≤
        total * (sites.filter (fun e => decide (0 < remainder total granted e))).length := by
      rw [← sumOf_filter_of_zero (fun e => decide (0 < remainder total granted e)) sites
        (fun e _ none => by simpa using none), sumOf_eq_sum_map, mul_comm]
      refine (List.sum_le_card_nsmul _ total fun r hr => ?_).trans (by simp)
      obtain ⟨e, -, rfl⟩ := List.mem_map.1 hr
      exact (Nat.mod_lt _ positive).le
    refine Nat.le_of_mul_le_mul_left (?_ : total * leftover total granted sites ≤ _) positive
    rw [leftover, Nat.mul_sub]
    omega

theorem favoured_length : (favoured total granted sites).length = leftover total granted sites := by
  have enough := (leftover_le sites sum within).trans (List.length_filter_le _ _)
  rw [favoured, List.length_take, (ordered_perm _ sites).length_eq]
  exact Nat.min_eq_left enough

variable {sites} (w : Table.wf sites = true)
include w

/-- R129, step 4: a site with a watt more has a remainder: otherwise a site with one would have gone first. -/
theorem remainder_pos_of_favoured {a : Nat × Nat} (ha : a ∈ favoured total granted sites) :
    0 < remainder total granted a := by
  by_contra none
  obtain ⟨b, hb, left⟩ : ∃ b ∈ sites.filter (fun e => decide (0 < remainder total granted e)),
      b ∉ favoured total granted sites := by
    by_contra all
    push Not at all
    have distinct : (a :: sites.filter (fun e => decide (0 < remainder total granted e))).Nodup := by
      exact List.nodup_cons.2 ⟨fun h => none (by simpa using (List.mem_filter.1 h).2),
        (Table.keys_nodup w).of_map.filter _⟩
    have fits := (List.subperm_of_subset distinct (List.cons_subset.2 ⟨ha, all⟩)).length_le
    have few := leftover_le sites sum within
    rw [favoured_length sites sum within, List.length_cons] at fits
    omega
  obtain ⟨listed, positive⟩ := List.mem_filter.1 hb
  have positive : 0 < remainder total granted b := of_decide_eq_true positive
  rcases favoured_first w total ha listed left with less | ⟨same, -⟩ <;> omega

/-- R129: no site gets more than its share. -/
theorem part_le_share (e : Nat × Nat) :
    granted * e.2 / total + (if e ∈ favoured total granted sites then 1 else 0) ≤ e.2 := by
  have bound : granted * e.2 ≤ e.2 * total := by
    rw [mul_comm e.2]
    exact Nat.mul_le_mul_right _ within
  split
  · next more =>
    have some : 0 < granted * e.2 % total := remainder_pos_of_favoured sum within w more
    have whole := Nat.div_add_mod' (granted * e.2) total
    exact Nat.lt_of_mul_lt_mul_right (a := total) (by omega)
  · exact Nat.div_le_of_le_mul (by rwa [mul_comm total])

/-- R129, step 4: the leftover watts all go out. -/
theorem sumOf_divide : sumOf (divide total granted sites) (fun e => e.2) = granted := by
  have extra : sumOf sites (fun e => if e ∈ favoured total granted sites then 1 else 0) =
      leftover total granted sites := by
    have perm : (sites.filter (fun e => decide (e ∈ favoured total granted sites))).Perm
        (favoured total granted sites) := by
      refine (List.perm_ext_iff_of_nodup ((Table.keys_nodup w).of_map.filter _) (favoured_nodup w total)).2 fun e => ?_
      simpa using mem_of_mem_favoured
    have count := length_filter_eq_sumOf sites (fun e => decide (e ∈ favoured total granted sites))
    simp only [decide_eq_true_eq] at count
    rw [← count, perm.length_eq, favoured_length sites sum within]
  have floors := floors_le (granted := granted) sites sum
  rw [divide_eq_map w, sumOf_map]
  simp only [sumOf_eq_sum_map] at extra floors ⊢
  rw [List.sum_map_add, extra, leftover, sumOf_eq_sum_map]
  omega

end Leftover

/-- Settles O35: floors and leftover watts, which go out by remainder, at most one to a site. -/
theorem divisionGivesOutTheGrantWithinShares : Obligations.DivisionGivesOutTheGrantWithinShares := by
  unfold Obligations.DivisionGivesOutTheGrantWithinShares
  intro sites granted w within total given more
  have moreIff {a : Nat × Nat} (ha : a ∈ sites) : more a ↔ a ∈ favoured total granted sites := one_more_iff w total ha
  refine ⟨sumOf_divide rfl within w, ?_, fun a ha notMore => ?_, fun a ha b hb moreA notMore => ?_⟩
  · have shape : given = _ := divide_eq_map w total
    rw [shape, List.forall₂_map_left_iff, List.forall₂_same]
    exact fun e _ => ⟨rfl, part_le_share rfl within w e⟩
  · rw [moreIff ha] at notMore
    exact (readOr_divide w total ha).trans (by rw [if_neg notMore]; rfl)
  · rw [moreIff ha] at moreA
    rw [moreIff hb] at notMore
    exact favoured_first w total moreA hb notMore

end Sys2Proof.Machine

namespace Sys2Proof.Machine

/-! ## Tables whose entries are written from what they read as -/

/-- Writes that read their own key first: a key reads as the updates of its own entries, in turn. -/
theorem readOr_foldl_update {α β : Type} [DecidableEq α] {d : α} (key : β → Nat) (update : α → β → α) {t : Table α}
    (w : Table.wfOr t d = true) (l : List β) (k : Nat) :
    Table.readOr (l.foldl (fun t e => Table.writeOr t d (key e) (update (Table.readOr t d (key e)) e)) t) d k =
      (l.filter (fun e => decide (key e = k))).foldl update (Table.readOr t d k) := by
  induction l generalizing t with
  | nil => rfl
  | cons e l ih =>
    rw [List.foldl_cons, ih (Table.wfOr_writeOr w _ _)]
    by_cases own : key e = k
    · subst own
      rw [Table.readOr_writeOr_same (Table.wf_of_wfOr w), List.filter_cons_of_pos (by simp), List.foldl_cons]
    · rw [Table.readOr_writeOr_other (Table.wf_of_wfOr w) (Ne.symm own), List.filter_cons_of_neg (by simpa using own)]

/-- A key that no entry names keeps its reading. -/
theorem foldl_update_absent {α β : Type} {key : β → Nat} (update : α → β → α) {l : List β} {k : Nat}
    (absent : ∀ e ∈ l, key e ≠ k) (a : α) : (l.filter (fun e => decide (key e = k))).foldl update a = a := by
  rw [List.filter_eq_nil_iff.2 fun e he => by simpa using absent e he]
  rfl

/-- The entries of a table of rising keys name each key at most once. -/
theorem foldl_update_table {α β : Type} (update : α → Nat × β → α) {t : Table β} (w : Table.wf t = true) (k : Nat)
    (a : α) : (t.filter (fun e => decide (e.1 = k))).foldl update a =
      match Table.find t k with
      | none => a
      | some b => update a (k, b) := by
  rw [Table.filter_key w]
  cases Table.find t k <;> rfl

/-! ## One product of a pass (R128, R129) -/

/-- R129: the division of one product is added to the allocations so far. -/
def PassResult.give (g : PassResult) (p : Product) (t : Table Nat) : PassResult :=
  t.foldl (fun g e => Table.writeOr g (PerProduct.all 0) e.1 ((givenAt g e.1).set p e.2)) g

/-- R128: what an entry of the table of allocatable slots stands for. -/
theorem mem_allocatable {l : PassLatch} {g : PassResult} {p : Product} {slot n : Nat} :
    (slot, n) ∈ allocatable l g p ↔ ∃ e, (slot, e) ∈ (l.roster.map (fun r => r.entries)).getD [] ∧
      allocatableEntry l g p slot e = true ∧ n = e.shares.get p := by
  unfold allocatable
  cases l.roster with
  | none => simp
  | some r =>
    simp only [List.mem_map, List.mem_filter, Option.map_some, Option.getD_some, Prod.mk.injEq]
    constructor
    · rintro ⟨⟨k, e⟩, ⟨listed, holds⟩, rfl, rfl⟩
      exact ⟨e, listed, holds, rfl⟩
    · rintro ⟨e, listed, holds, rfl⟩
      exact ⟨(slot, e), ⟨listed, holds⟩, rfl, rfl⟩

theorem allocatable_wf {l : PassLatch} (w : Table.wf ((l.roster.map (fun r => r.entries)).getD []) = true)
    (g : PassResult) (p : Product) : Table.wf (allocatable l g p) = true := by
  unfold allocatable
  cases roster : l.roster with
  | none => rfl
  | some r =>
    rw [roster] at w
    exact (Table.risingFrom_map _ (fun e : RosterEntry => e.shares.get p) 0).trans (Table.risingFrom_filter _ w)

theorem allocatableEntry_iff (l : PassLatch) (g : PassResult) (p : Product) (slot : Nat) (e : RosterEntry) :
    allocatableEntry l g p slot e = true ↔ 0 < e.shares.get p ∧
      (∃ x, Table.find l.slots slot = some x ∧ x.eligible = true ∧ x.siteNumber = e.siteNumber) ∧
      lockedAgainst l g slot (l.banks.get p).direction = false := by
  unfold allocatableEntry
  cases Table.find l.slots slot <;> simp [and_assoc]

theorem lockedAgainst_iff (l : PassLatch) (g : PassResult) (slot : Nat) (d : Direction) :
    lockedAgainst l g slot d = true ↔ ∃ q, (l.banks.get q).direction ≠ d ∧ (givenAt g slot).get q ≠ 0 := by
  simp [lockedAgainst, mem_allProducts]

/-- R129: the keys of a division are those of the table divided. -/
theorem mem_divide_key {total granted : Nat} {sites : Table Nat} {e : Nat × Nat} (h : e ∈ divide total granted sites) :
    ∃ n, (e.1, n) ∈ sites := by
  obtain ⟨a, ha, rfl⟩ := List.mem_map.1 h
  exact ⟨a.2, ha⟩

section Give
variable {g : PassResult} (w : Table.wfOr g (PerProduct.all 0) = true)
include w

theorem give_wfOr (p : Product) (t : Table Nat) : Table.wfOr (g.give p t) (PerProduct.all 0) = true :=
  Table.wfOr_foldl_writeOr (fun e : Nat × Nat => e.1) (fun g e => (givenAt g e.1).set p e.2) t w

theorem givenAt_give (p : Product) (t : Table Nat) (slot : Nat) : givenAt (g.give p t) slot =
    (t.filter (fun e => decide (e.1 = slot))).foldl (fun a e => a.set p e.2) (givenAt g slot) :=
  readOr_foldl_update (fun e : Nat × Nat => e.1) (fun (a : PerProduct Nat) (e : Nat × Nat) => a.set p e.2) w t slot

theorem givenAt_give_other {p q : Product} (h : q ≠ p) (t : Table Nat) (slot : Nat) :
    (givenAt (g.give p t) slot).get q = (givenAt g slot).get q := by
  have set (l : Table Nat) (a : PerProduct Nat) : (l.foldl (fun a e => a.set p e.2) a).get q = a.get q := by
    induction l generalizing a with
    | nil => rfl
    | cons e l ih => exact (ih _).trans (by simp [h])
  rw [givenAt_give w, set]

theorem givenAt_give_absent (p : Product) {t : Table Nat} {slot : Nat} (absent : ∀ e ∈ t, e.1 ≠ slot) :
    givenAt (g.give p t) slot = givenAt g slot := by
  rw [givenAt_give w, foldl_update_absent _ absent]

theorem givenAt_give_same {p : Product} {t : Table Nat} (rising : Table.wf t = true) {slot : Nat}
    (none : (givenAt g slot).get p = 0) : (givenAt (g.give p t) slot).get p = Table.readOr t 0 slot := by
  rw [givenAt_give w, foldl_update_table _ rising, Table.readOr]
  cases Table.find t slot <;> simp [none]

end Give

/-- R129: what a product adds to the allocations so far: nothing while it is disabled, its division otherwise. -/
theorem passProduct_cases (l : PassLatch) (g : PassResult) (p : Product) :
    let sites := allocatable l g p
    let total := sumOf sites (fun e => e.2)
    let granted := min (l.targets.get p) total
    ((l.banks.get p).enabled = false ∧ passProduct l g p =
      ({ target := 0, allocatable := 0, granted := 0, shortfall := false, census := l.census }, g)) ∨
    ((l.banks.get p).enabled = true ∧ passProduct l g p =
      ({ target := l.targets.get p, allocatable := total, granted := granted,
         shortfall := decide (granted < l.targets.get p), census := l.census },
       g.give p (divide total granted sites))) := by
  intro sites total granted
  cases enabled : (l.banks.get p).enabled with
  | false => exact .inl ⟨rfl, by simp [passProduct, enabled]⟩
  | true => exact .inr ⟨rfl, by simp only [passProduct, enabled, if_true]; rfl⟩

section PassProduct
variable {l : PassLatch} {g : PassResult} (w : Table.wfOr g (PerProduct.all 0) = true) (p : Product)
include w

theorem passProduct_wfOr : Table.wfOr (passProduct l g p).2 (PerProduct.all 0) = true := by
  rcases passProduct_cases l g p with ⟨-, shape⟩ | ⟨-, shape⟩ <;> rw [shape]
  · exact w
  · exact give_wfOr w p _

theorem passProduct_other {q : Product} (h : q ≠ p) (slot : Nat) :
    (givenAt (passProduct l g p).2 slot).get q = (givenAt g slot).get q := by
  rcases passProduct_cases l g p with ⟨-, shape⟩ | ⟨-, shape⟩ <;> rw [shape]
  exact givenAt_give_other w h _ slot

/-- R128: a slot locked against the product's direction is given nothing. -/
theorem passProduct_locked {slot : Nat} (locked : lockedAgainst l g slot (l.banks.get p).direction = true) :
    givenAt (passProduct l g p).2 slot = givenAt g slot := by
  rcases passProduct_cases l g p with ⟨-, shape⟩ | ⟨-, shape⟩ <;> rw [shape]
  refine givenAt_give_absent w p fun e he own => ?_
  obtain ⟨n, listed⟩ := mem_divide_key he
  obtain ⟨x, -, holds, -⟩ := mem_allocatable.1 listed
  obtain ⟨-, -, free⟩ := (allocatableEntry_iff ..).1 holds
  rw [own, locked] at free
  cases free

/-- R128: one product more keeps every slot to one direction. -/
theorem passProduct_oneDirection {slot : Nat} (h : oneDirection l.banks (givenAt g slot)) :
    oneDirection l.banks (givenAt (passProduct l g p).2 slot) := by
  cases locked : lockedAgainst l g slot (l.banks.get p).direction with
  | true => rwa [passProduct_locked w p locked]
  | false =>
    have opposite {q : Product} (other : (l.banks.get q).direction ≠ (l.banks.get p).direction) :
        (givenAt (passProduct l g p).2 slot).get q = 0 := by
      rw [passProduct_other w p fun same => other (by rw [same])]
      by_contra some
      rw [(lockedAgainst_iff ..).2 ⟨q, other, some⟩] at locked
      cases locked
    intro a b up down
    cases own : (l.banks.get p).direction with
    | up => exact .inr (opposite (by rw [down, own]; nofun))
    | down => exact .inl (opposite (by rw [up, own]; nofun))

end PassProduct

/-! ## The products in turn (R128 to R130) -/

/-- R128: the pass over a list of products. -/
def passOver (l : PassLatch) (ps : List Product) : PerProduct LastPass × PassResult :=
  ps.foldl (fun acc p => ((acc.1.set p (passProduct l acc.2 p).1), (passProduct l acc.2 p).2))
    (PerProduct.all LastPass.reset, [])

theorem runPass_eq (l : PassLatch) : runPass l = passOver l l.order := rfl

theorem passOver_concat (l : PassLatch) (ps : List Product) (p : Product) : passOver l (ps ++ [p]) =
    ((passOver l ps).1.set p (passProduct l (passOver l ps).2 p).1, (passProduct l (passOver l ps).2 p).2) := by
  simp [passOver]

theorem passOver_wfOr (l : PassLatch) (ps : List Product) :
    Table.wfOr (passOver l ps).2 (PerProduct.all 0) = true := by
  induction ps using List.reverseRecOn with
  | nil => rfl
  | append_singleton ps p ih => rw [passOver_concat]; exact passProduct_wfOr ih p

theorem passOver_oneDirection (l : PassLatch) (ps : List Product) (slot : Nat) :
    oneDirection l.banks (givenAt (passOver l ps).2 slot) := by
  induction ps using List.reverseRecOn with
  | nil => exact fun p _ _ _ => .inl (PerProduct.get_all 0 p)
  | append_singleton ps p ih => rw [passOver_concat]; exact passProduct_oneDirection (passOver_wfOr l ps) p ih

/-- R128, R130: the products that follow change neither the allocations nor the record of one they do not name. -/
theorem passOver_append (l : PassLatch) (ps qs : List Product) {q : Product} (absent : q ∉ qs) :
    (passOver l (ps ++ qs)).1.get q = (passOver l ps).1.get q ∧
    ∀ slot, (givenAt (passOver l (ps ++ qs)).2 slot).get q = (givenAt (passOver l ps).2 slot).get q := by
  induction qs using List.reverseRecOn with
  | nil => simp
  | append_singleton qs p ih =>
    simp only [List.mem_append, List.mem_singleton, not_or] at absent
    obtain ⟨absent, other⟩ := absent
    obtain ⟨record, given⟩ := ih absent
    rw [← List.append_assoc, passOver_concat]
    refine ⟨?_, fun slot => ?_⟩
    · rw [PerProduct.get_set, if_neg other, record]
    · rw [passProduct_other (passOver_wfOr l _) p other, given]

theorem passOver_absent (l : PassLatch) {ps : List Product} {q : Product} (absent : q ∉ ps) (slot : Nat) :
    (givenAt (passOver l ps).2 slot).get q = 0 :=
  ((passOver_append l [] ps absent).2 slot).trans (PerProduct.get_all 0 q)

/-- R58: the products that stand before `p` in capacity-priority order. -/
theorem mem_before_iff {priority : Product → Nat} {pre post : List Product} {p : Product}
    (split : priorityOrder priority = pre ++ p :: post) (q : Product) : q ∈ pre ↔ precedes priority q p := by
  have sorted := priorityOrder_sorted priority
  have all : q ∈ priorityOrder priority := (priorityOrder_perm priority).mem_iff.2 (mem_allProducts q)
  rw [split] at sorted all
  obtain ⟨-, tail, cross⟩ := List.pairwise_append.1 sorted
  refine ⟨fun h => (standsBefore_iff ..).1 (cross q h p (.head _)), fun first => ?_⟩
  have first : standsBefore priority q p = true := (standsBefore_iff ..).2 first
  rcases List.mem_append.1 all with h | h
  · exact h
  · rcases List.mem_cons.1 h with rfl | later
    · exact absurd first (standsBefore_asymm first)
    · exact absurd first (standsBefore_asymm ((List.pairwise_cons.1 tail).1 q later))

theorem PassLatch.mem_order (l : PassLatch) (p : Product) : p ∈ l.order :=
  (priorityOrder_perm _).mem_iff.2 (mem_allProducts p)

/-- R128, R130: a product's record and allocations are those of its own turn, made on what the products before it were
given; these keep their allocations, and the later ones have none yet. -/
theorem runPass_turn (l : PassLatch) (p : Product) : ∃ g : PassResult,
    Table.wfOr g (PerProduct.all 0) = true ∧
    (runPass l).1.get p = (passProduct l g p).1 ∧
    (∀ slot, (givenAt (runPass l).2 slot).get p = (givenAt (passProduct l g p).2 slot).get p) ∧
    (∀ slot, (givenAt g slot).get p = 0) ∧
    (∀ slot q, (givenAt g slot).get q ≠ 0 ↔
      precedes (fun x => (l.banks.get x).priority) q p ∧ (givenAt (runPass l).2 slot).get q ≠ 0) := by
  obtain ⟨pre, post, split⟩ := List.append_of_mem (l.mem_order p)
  have nodup : l.order.Nodup := (priorityOrder_perm _).nodup_iff.2 (by decide)
  have before := mem_before_iff (priority := fun x => (l.banks.get x).priority) split
  rw [split] at nodup
  obtain ⟨notBefore, notAfter⟩ : p ∉ pre ∧ p ∉ post := by
    have := List.nodup_middle.1 nodup
    simpa using (List.nodup_cons.1 this).1
  have whole : runPass l = passOver l ((pre ++ [p]) ++ post) := by rw [runPass_eq, split]; simp
  obtain ⟨record, given⟩ := passOver_append l (pre ++ [p]) post notAfter
  refine ⟨(passOver l pre).2, passOver_wfOr l pre, ?_, fun slot => ?_, passOver_absent l notBefore, fun slot q => ?_⟩
  · rw [whole, record, passOver_concat]
    simp
  · rw [whole, given, passOver_concat]
  · rw [← before]
    by_cases h : q ∈ pre
    · have later : q ∉ p :: post := fun also => (List.nodup_append.1 nodup).2.2 q h q also rfl
      have kept := (passOver_append l pre (p :: post) later).2 slot
      rw [runPass_eq, split, kept]
      simp [h]
    · simp [h, passOver_absent l h slot]

/-- Settles O36: each slot keeps to one direction; each product's part is that of its turn in the order. -/
theorem passLocksEachSlotToOneDirection : Obligations.PassLocksEachSlotToOneDirection := by
  unfold Obligations.PassLocksEachSlotToOneDirection
  refine ⟨fun l slot => passOver_oneDirection l l.order slot, fun l entries w listed => ?_⟩
  intro given record p locked allocates
  obtain ⟨g, tables, ownRecord, own, none, earlier⟩ := runPass_turn l p
  have lockedIff (slot : Nat) : lockedAgainst l g slot (l.banks.get p).direction = true ↔ locked slot := by
    rw [lockedAgainst_iff]
    simp only [earlier, locked]
    exact exists_congr fun q => and_left_comm
  have allocatesIff (slot : Nat) (e : RosterEntry) : allocatableEntry l g p slot e = true ↔ allocates slot e := by
    rw [allocatableEntry_iff, ← Bool.not_eq_true, lockedIff]
  have rising : Table.wf (allocatable l g p) = true := allocatable_wf (by rw [listed]; exact w) g p
  refine ⟨fun disabled => ?_, fun enabled => ⟨allocatable l g p, rising, fun slot n => ?_, ?_⟩⟩
  · rcases passProduct_cases l g p with ⟨-, shape⟩ | ⟨enabled, -⟩
    · exact ⟨ownRecord.trans (by rw [shape]), fun slot => (own slot).trans (by rw [shape]; exact none slot)⟩
    · rw [disabled] at enabled
      cases enabled
  · simp only [Table.find_eq_some_iff rising, Table.find_eq_some_iff w, mem_allocatable, listed, allocatesIff]
  · intro total granted
    rcases passProduct_cases l g p with ⟨disabled, -⟩ | ⟨-, shape⟩
    · rw [enabled] at disabled
      cases disabled
    · refine ⟨ownRecord.trans (by rw [shape]), fun slot => (own slot).trans ?_⟩
      rw [shape]
      exact givenAt_give_same tables (divide_wf rising total) (none slot)

end Sys2Proof.Machine

namespace Sys2Proof.Machine

/-! ## The end of a pass (R131, R133, R135) -/

theorem runPass_wfOr (l : PassLatch) : Table.wfOr (runPass l).2 (PerProduct.all 0) = true := passOver_wfOr l l.order

theorem offsetOf_zero (l : PassLatch) : offsetOf l (PerProduct.all 0) = 0 := by
  have none (ps : List Product) : sumOf ps (PerProduct.all 0).get = 0 := by
    rw [sumOf_congr fun p _ => PerProduct.get_all 0 p, sumOf_eq_sum_map]
    simp
  simp [offsetOf, none]

/-- R131: a dispatch record with the allocations a pass gave its slot. -/
def DispatchRecord.givenBy (l : PassLatch) (d : DispatchRecord) (a : PerProduct Nat) : DispatchRecord :=
  { d with allocation := a, staged := offsetOf l a }

/-- R131: a dispatch record with nothing given to its slot. -/
def DispatchRecord.ungiven (d : DispatchRecord) : DispatchRecord :=
  { d with allocation := PerProduct.all 0, staged := 0 }

/-- R131: a pass replaces every slot's allocations and staged offset, those of a slot it gave nothing too. -/
theorem replaceByPass_dispatch {s : State} (held : s.tablesHeld) (l : PassLatch) (slot : Nat) :
    (s.replaceByPass l).dispatch slot = (s.dispatch slot).givenBy l (givenAt (runPass l).2 slot) := by
  have cleared := readOr_mapRecords (Table.wf_of_wfOr held.1) (f := DispatchRecord.ungiven) rfl slot
  have written := readOr_foldl_update (fun e : Nat × PerProduct Nat => e.1)
    (fun (d : DispatchRecord) e => d.givenBy l e.2) (mapRecords_wfOr held.1 DispatchRecord.ungiven) (runPass l).2 slot
  refine written.trans ?_
  rw [foldl_update_table _ (Table.wf_of_wfOr (runPass_wfOr l)), cleared]
  unfold givenAt Table.readOr
  cases Table.find (runPass l).2 slot with
  | none => simp [DispatchRecord.givenBy, offsetOf_zero, State.dispatch, Table.readOr, DispatchRecord.ungiven]
  | some a => rfl

/-- R133: a slot that owes a release is occupied. -/
theorem someSlotOwes_iff (s : State) : s.someSlotOwes = true ↔ ∃ slot, s.owes slot = true := by
  simp only [State.someSlotOwes, List.any_eq_true]
  refine ⟨fun ⟨e, _, owes⟩ => ⟨e.1, owes⟩, fun ⟨slot, owes⟩ => ?_⟩
  cases occupied : s.siteAt slot with
  | none => simp [State.owes, State.dispatchValue, occupied] at owes
  | some x => exact ⟨(slot, x), Table.mem_of_find occupied, owes⟩

/-- R131, hand-on 2: a pass gave power to a slot that is not eligible. -/
theorem newlyIneligible_iff (s : State) (l : PassLatch) : s.newlyIneligible (runPass l).2 = true ↔
    ∃ slot, (∃ p : Product, (givenAt (runPass l).2 slot).get p ≠ 0) ∧ s.eligible slot = false := by
  have some (a : PerProduct Nat) : a.toList.any (fun n => decide (n ≠ 0)) = true ↔ ∃ p : Product, a.get p ≠ 0 := by
    have all : a.toList = allProducts.map a.get := rfl
    simp [all, mem_allProducts]
  have listed := Table.find_eq_some_iff (Table.wf_of_wfOr (runPass_wfOr l))
  simp only [State.newlyIneligible, List.any_eq_true, Bool.and_eq_true, Bool.not_eq_true', some]
  constructor
  · rintro ⟨⟨slot, a⟩, he, given, excluded⟩
    refine ⟨slot, ?_, excluded⟩
    rwa [givenAt, Table.readOr, (listed slot a).2 he]
  · rintro ⟨slot, ⟨p, given⟩, excluded⟩
    cases found : Table.find (runPass l).2 slot with
    | none => simp [givenAt, Table.readOr, found] at given
    | some a =>
      refine ⟨(slot, a), (listed slot a).1 found, ⟨p, ?_⟩, excluded⟩
      simpa [givenAt, Table.readOr, found] using given

theorem restaged_iff (s t : State) : s.restaged t = true ↔ s.allocation.emission.isSome = true ∧
    ∃ e ∈ t.fleet.sites, (t.dispatch e.1).staged ≠ (s.dispatch e.1).staged := by
  simp [State.restaged]

/-- R131: the pass ends with the request flag as given, and the next one starts, latched now, when `again` holds. -/
def State.endedWith (v : State) (requested again : Bool) : State :=
  { v with allocation := { v.allocation with
      requested := requested, passPending := false, pass := if again then some v.passLatch else none } }

/-- R131: at the end of a pass its results are in force and evaluated; the next pass starts when a trigger pends or the
results make one. -/
theorem endPass_eq {s v : State} {l : PassLatch} (running : s.allocation.pass = some l)
    (hv : v = (s.replaceByPass l).evaluate false) :
    s.endPass l = v.endedWith (v.allocation.requested || (v.someSlotOwes || s.restaged v))
      (v.allocation.passPending || v.newlyIneligible (runPass l).2) := by
  have pass : v.allocation.pass = some l := by
    rw [hv, State.evaluate_allocation]
    exact running
  have triggered (b : Bool) : (if b then v.trigger else v) =
      { v with allocation := { v.allocation with passPending := v.allocation.passPending || b } } := by
    cases b with
    | false => simp
    | true => simp [trigger_of_running pass]
  have requested (t : State) (b : Bool) : (if b then
      { t with allocation := { t.allocation with requested := true } } else t) =
      { t with allocation := { t.allocation with requested := t.allocation.requested || b } } := by
    cases b <;> simp
  have ended (t : State) : (if t.allocation.passPending then t.startPass
      else { t with allocation := { t.allocation with pass := none } }) =
      t.endedWith t.allocation.requested t.allocation.passPending := by
    unfold State.endedWith
    split
    · rfl
    · next idle => simp only [Bool.eq_false_of_not_eq_true idle]
  unfold State.endPass
  dsimp only
  rw [← hv, triggered, requested, ended]
  rfl

theorem replaceByPass_allocation (s : State) (l : PassLatch) : (s.replaceByPass l).allocation =
    { s.allocation with lastPass := (runPass l).1, records := (s.replaceByPass l).allocation.records } := rfl

theorem eligible_congr {s t : State} (fleet : t.fleet = s.fleet) (slot : Nat) : t.eligible slot = s.eligible slot := by
  unfold State.eligible State.siteAt State.siteEligible State.feeder
  rw [fleet]

/-- Settles O37: a trigger's two cases; the results of a pass in force, evaluated, and what they hand on. -/
theorem passEndReplacesAllocationsAndStages : Obligations.PassEndReplacesAllocationsAndStages := by
  unfold Obligations.PassEndReplacesAllocationsAndStages
  refine ⟨fun s => ⟨fun running => if_pos running, fun idle =>
    ⟨s.passLatch, passLatch_latchedBy s, trigger_of_idle idle⟩⟩, fun s l running held => ?_⟩
  intro given along
  have dispatched := replaceByPass_dispatch held l
  have frame := (evaluate_evaluation (s.replaceByPass l) false).egress
  obtain ⟨v, evaluated⟩ : ∃ v, v = (s.replaceByPass l).evaluate false := ⟨_, rfl⟩
  rw [← evaluated] at frame
  have given_eq (slot : Nat) : v.dispatch slot = (s.dispatch slot).givenBy l (given slot) := by
    rw [← dispatched, State.dispatch, frame.allocation]
    rfl
  have fleet : v.fleet = s.fleet := frame.fleet.trans (State.replaceByPass_fleet s l)
  obtain ⟨records, allocation⟩ : ∃ r, v.allocation = { s.allocation with lastPass := (runPass l).1, records := r } :=
    ⟨_, frame.allocation.trans (replaceByPass_allocation s l)⟩
  have emission : v.allocation.emission = s.allocation.emission := by rw [allocation]
  have counter : v.allocation.releaseCounter = s.allocation.releaseCounter := by rw [allocation]
  have requested : v.allocation.requested = s.allocation.requested := by rw [allocation]
  have pending : v.allocation.passPending = s.allocation.passPending := by rw [allocation]
  refine ⟨s.endPass l, by change execAllocationPassEnd s = _; rw [execAllocationPassEnd, running], ?_⟩
  rw [endPass_eq running evaluated]
  refine ⟨given_eq, fun p => ?_, ?_, ?_, fun n starts => ?_, rfl, emission, counter, fleet,
    frame.time.trans (State.replaceByPass_time s l), frame.products.trans (State.replaceByPass_products s l),
    frame.census.trans (State.replaceByPass_census s l), frame.activation.trans (State.replaceByPass_activation s l),
    frame.params.trans (State.replaceByPass_params s l)⟩
  · exact congrArg (fun a : Allocation => a.lastPass.get p) allocation
  · change (v.allocation.requested || (v.someSlotOwes || s.restaged v)) = true ↔ _
    rw [Bool.or_eq_true, Bool.or_eq_true, requested, someSlotOwes_iff, restaged_iff, fleet]
    rfl
  · change (if (v.allocation.passPending || v.newlyIneligible (runPass l).2) = true then some v.passLatch
      else none).isSome = true ↔ _
    rw [Option.isSome_ite, Bool.or_eq_true, newlyIneligible_iff, pending]
    simp only [eligible_congr fleet, given]
  · obtain ⟨-, latched⟩ := Option.ite_none_right_eq_some.1 starts
    cases latched
    exact (passLatch_latchedBy v).of_allocation _

end Sys2Proof.Machine

namespace Sys2Proof.Machine

/-! ## Which slots owe a release (R133) -/

theorem dispatchValue_eq (s : State) (slot : Nat) : s.dispatchValue slot =
    (s.siteAt slot).map (fun x => if x.state = .listed then 0 else (s.dispatch slot).staged) := by
  unfold State.dispatchValue
  cases s.siteAt slot with
  | none => rfl
  | some x => exact (apply_ite some _ _ _).symm

theorem owes_iff (s : State) (slot : Nat) : s.owes slot = true ↔ ∃ x, s.siteAt slot = some x ∧
    ((if x.state = .listed then 0 else (s.dispatch slot).staged) ≠ (s.dispatch slot).sent ∨
      (s.dispatch slot).carry = true ∨ (s.allocation.catchUp = true ∧ (s.dispatch slot).confirmed = false)) := by
  unfold State.owes
  rw [dispatchValue_eq]
  cases s.siteAt slot <;> simp [or_assoc]

/-- R133: the entry a release holds for an occupied slot that owes one. -/
def State.releaseEntry (s : State) (e : Nat × Site) : ReleaseEntry :=
  { slot := e.1, siteNumber := e.2.static.siteNumber,
    offset := if e.2.state = .listed then 0 else (s.dispatch e.1).staged }

theorem owedEntries_eq {s : State} (w : Table.wf s.fleet.sites = true) :
    s.owedEntries = (s.fleet.sites.filter (fun e => s.owes e.1)).map s.releaseEntry := by
  rw [State.owedEntries, ← List.filterMap_eq_map, ← List.filterMap_eq_filter, List.filterMap_filterMap]
  refine List.filterMap_congr fun e he => ?_
  have occupied : s.siteAt e.1 = some e.2 := (Table.find_eq_some_iff w e.1 e.2).2 he
  rw [dispatchValue_eq, occupied]
  cases owes : s.owes e.1 <;> simp [State.releaseEntry, Option.guard, owes]

theorem owedEntries_slots_nodup {s : State} (w : Table.wf s.fleet.sites = true) :
    (s.owedEntries.map (fun x => x.slot)).Nodup := by
  rw [owedEntries_eq w, List.map_map]
  exact (Table.keys_nodup w).sublist (List.filter_sublist.map _)

/-! ## Frames of 120 entries (R133) -/

/-- Runs of `n` cut from a list put it together again; none is empty, and all but the last are full. -/
theorem chunks_spec {α : Type} {n : Nat} (positive : 0 < n) (fuel : Nat) (l : List α) (enough : l.length ≤ fuel) :
    (chunks fuel n l).flatten = l ∧ (∀ f ∈ chunks fuel n l, f ≠ [] ∧ f.length ≤ n) ∧
    (∀ f ∈ (chunks fuel n l).dropLast, f.length = n) := by
  induction fuel generalizing l with
  | zero =>
    have none : l = [] := List.length_eq_zero_iff.1 (Nat.le_zero.1 enough)
    simp [chunks, none]
  | succ fuel ih =>
    unfold chunks
    split
    · next none => simp [List.isEmpty_iff.1 none]
    · next some =>
      have some : l ≠ [] := fun none => some (List.isEmpty_iff.2 none)
      have length : 0 < l.length := List.length_pos_iff.2 some
      obtain ⟨whole, within, full⟩ := ih (l.drop n) (by rw [List.length_drop]; omega)
      refine ⟨?_, fun f hf => ?_, fun f hf => ?_⟩
      · rw [List.flatten_cons, whole, List.take_append_drop]
      · rcases List.mem_cons.1 hf with rfl | hf
        · refine ⟨List.ne_nil_of_length_pos ?_, List.length_take_le n l⟩
          rw [List.length_take]
          omega
        · exact within f hf
      · cases rest : chunks fuel n (l.drop n) with
        | nil => simp [rest] at hf
        | cons g gs =>
          rw [rest] at hf full within
          rw [List.dropLast_cons_cons] at hf
          rcases List.mem_cons.1 hf with rfl | hf
          · have more : l.drop n ≠ [] := fun none => by
              rw [none] at rest
              cases fuel <;> simp [chunks] at rest
            have := List.length_pos_iff.2 more
            rw [List.length_drop] at this
            rw [List.length_take]
            omega
          · exact full f hf

/-! ## The hand-over of a frame (R134, R167, R180) -/

/-- R134: what a hand-over of `offset` at `now` sets in a slot's dispatch record. -/
theorem handedOver_eq (d : DispatchRecord) (release : Nat) (offset : Int) (now timeout : Nat) :
    d.handedOver release offset now timeout = { d with
      sent := offset
      releaseSent := if offset ≠ d.sent ∨ d.releaseSent = none then some release else d.releaseSent
      lastRelease := some release
      sentTime := some now
      confirmed := false
      expiry := some (now + timeout)
      carry := false } := by
  unfold DispatchRecord.handedOver
  by_cases fresh : offset ≠ d.sent ∨ d.releaseSent = none
  · simp only [if_pos fresh]
  · have same : offset = d.sent := by
      by_contra other
      exact fresh (.inl other)
    subst same
    simp only [if_neg fresh]

/-- R134: the dispatch records after the entries of a frame are handed over. -/
def State.recordsAfter (s : State) (release : Nat) (f : List ReleaseEntry) : Table DispatchRecord :=
  f.foldl (fun t x => Table.writeOr t DispatchRecord.reset x.slot
    ((Table.readOr t DispatchRecord.reset x.slot).handedOver release x.offset s.localTime s.params.confirmTimeout))
    s.allocation.records

theorem foldl_handOverEntry (release : Nat) (f : List ReleaseEntry) (s : State) :
    f.foldl (State.handOverEntry release) s =
      { s with allocation := { s.allocation with records := s.recordsAfter release f } } := by
  induction f generalizing s with
  | nil => rfl
  | cons x f ih => exact ih _

section HandOver
variable {s : State} (held : s.tablesHeld) (release : Nat) {f : List ReleaseEntry}
include held

theorem recordsAfter_absent {slot : Nat} (absent : slot ∉ f.map (fun x => x.slot)) :
    Table.readOr (s.recordsAfter release f) DispatchRecord.reset slot = s.dispatch slot := by
  refine (readOr_foldl_update (fun x : ReleaseEntry => x.slot) (fun (d : DispatchRecord) x =>
    d.handedOver release x.offset s.localTime s.params.confirmTimeout) held.1 f slot).trans ?_
  exact foldl_update_absent _ (fun x hx own => absent (List.mem_map.2 ⟨x, hx, own⟩)) _

theorem recordsAfter_listed (distinct : (f.map (fun x => x.slot)).Nodup) {x : ReleaseEntry} (hx : x ∈ f) :
    Table.readOr (s.recordsAfter release f) DispatchRecord.reset x.slot =
      (s.dispatch x.slot).handedOver release x.offset s.localTime s.params.confirmTimeout := by
  have only : f.filter (fun y => decide (y.slot = x.slot)) = [x] := by
    have perm : (f.filter (fun y => decide (y.slot = x.slot))).Perm [x] := by
      refine (List.perm_ext_iff_of_nodup (distinct.of_map.filter _) (List.nodup_singleton x)).2 fun y => ?_
      rw [List.mem_filter, List.mem_singleton, decide_eq_true_eq]
      exact ⟨fun ⟨hy, same⟩ => List.inj_on_of_nodup_map distinct hy hx same,
        fun same => by rw [same]; exact ⟨hx, rfl⟩⟩
    exact List.perm_singleton.1 perm
  refine (readOr_foldl_update (fun x : ReleaseEntry => x.slot) (fun (d : DispatchRecord) x =>
    d.handedOver release x.offset s.localTime s.params.confirmTimeout) held.1 f x.slot).trans ?_
  rw [only]
  rfl

end HandOver

/-- R167, R180: the state once frame `f` of a release is handed over, frames `rest` still to come. -/
def State.frameHandedOver (s : State) (e : Emission) (f : List ReleaseEntry) (rest : List (List ReleaseEntry)) : State :=
  { s with
    links := { s.links with
      fleetTx := some (envelope .dispatchOrder 0 s.links.fleetOut (dispatchPayload e.release e.nextIndex rest.isEmpty f))
      fleetOut := (s.links.fleetOut + 1) % 256 }
    allocation := { s.allocation with
      records := s.recordsAfter e.release f
      emission := if rest.isEmpty then none else some { e with nextIndex := e.nextIndex + 1, frames := rest } } }

/-- R180: the Fleet Port is fed while it is UP and its transmitter idle. -/
theorem feedFleet_holds {s : State} (holds : s.links.fleet.up = false ∨ s.links.fleetTx.isSome = true) :
    s.feedFleet = s := by
  unfold State.feedFleet
  rw [if_neg]
  rcases holds with down | busy
  · simp [down]
  · obtain ⟨o, busy⟩ := Option.isSome_iff_exists.1 busy
    simp [busy]

theorem feedFleet_idle {s : State} (idle : s.allocation.emission = none) : s.feedFleet = s := by
  unfold State.feedFleet
  rw [idle]
  exact ite_self s

theorem feedFleet_next {s : State} {e : Emission} {f : List ReleaseEntry} {rest : List (List ReleaseEntry)}
    (up : s.links.fleet.up = true) (free : s.links.fleetTx = none) (emits : s.allocation.emission = some e)
    (frames : e.frames = f :: rest) : s.feedFleet = s.frameHandedOver e f rest := by
  unfold State.feedFleet
  rw [if_pos (by rw [up, free]; rfl), emits]
  simp only [frames, foldl_handOverEntry]
  rfl

/-- R134: the dispatch records once a frame is handed over. -/
theorem frameHandedOver_dispatch {s : State} (held : s.tablesHeld) (e : Emission) {f : List ReleaseEntry}
    (rest : List (List ReleaseEntry)) (distinct : (f.map (fun x => x.slot)).Nodup) :
    (∀ x ∈ f, (s.frameHandedOver e f rest).dispatch x.slot = { s.dispatch x.slot with
      sent := x.offset
      releaseSent := if x.offset ≠ (s.dispatch x.slot).sent ∨ (s.dispatch x.slot).releaseSent = none
        then some e.release else (s.dispatch x.slot).releaseSent
      lastRelease := some e.release
      sentTime := some s.localTime
      confirmed := false
      expiry := some (s.localTime + s.params.confirmTimeout)
      carry := false }) ∧
    (∀ slot, slot ∉ f.map (fun x => x.slot) → (s.frameHandedOver e f rest).dispatch slot = s.dispatch slot) :=
  ⟨fun _ hx => (recordsAfter_listed held e.release distinct hx).trans (handedOver_eq ..),
    fun _ absent => recordsAfter_absent held e.release absent⟩

/-- R180: the Fleet transmitter has finished its frame. -/
def State.fleetFreed (s : State) : State := { s with links := { s.links with fleetTx := none } }

theorem fleetTransmitDone_next {s : State} (busy : s.links.fleetTx.isSome = true) :
    exec .fleetTransmitDone s = .next s.fleetFreed.feedFleet := by
  obtain ⟨o, busy⟩ := Option.isSome_iff_exists.1 busy
  change execFleetTransmitDone s = _
  rw [execFleetTransmitDone, busy]
  rfl

/-- Settles O39: the freed transmitter takes the next frame while the port is UP and a release emits. -/
theorem nextFrameOfTheReleaseIsHandedOver : Obligations.NextFrameOfTheReleaseIsHandedOver := by
  unfold Obligations.NextFrameOfTheReleaseIsHandedOver
  intro s busy
  have done := fleetTransmitDone_next busy
  refine ⟨fun stays => done.trans (congrArg _ ?_), fun e f rest up emits frames distinct held => ?_⟩
  · rcases stays with down | idle
    · exact feedFleet_holds (.inl down)
    · exact feedFleet_idle idle
  · obtain ⟨listed, others⟩ := frameHandedOver_dispatch (s := s.fleetFreed) held e rest distinct
    exact ⟨s.fleetFreed.frameHandedOver e f rest, done.trans (congrArg _ (feedFleet_next up rfl emits frames)), rfl, rfl,
      rfl, listed, others, rfl, rfl, rfl, rfl, rfl⟩

/-! ## The beginning of a release (R132, R133) -/

theorem releaseReady_of {s : State} (requested : s.allocation.requested = true) (up : s.links.fleet.up = true)
    (idle : s.allocation.emission = none)
    (spaced : ∀ last, s.allocation.lastStart = some last → last + s.params.releaseSpacing ≤ s.localTime) :
    s.releaseReady = true := by
  unfold State.releaseReady
  rw [requested, up, idle]
  cases start : s.allocation.lastStart with
  | none => rfl
  | some last => simpa using spaced last start

/-- R133: the state once a release of the slots that owe one is formed, nothing handed over yet. -/
def State.releaseFormed (s : State) (frames : List (List ReleaseEntry)) : State :=
  { s with allocation := { s.allocation with
      requested := false
      releaseCounter := nextRelease s.allocation.releaseCounter
      lastStart := some s.localTime
      catchUp := false
      emission := some { release := nextRelease s.allocation.releaseCounter, nextIndex := 0, frames := frames } } }

theorem beginRelease_none {s : State} (none : s.owedEntries = []) :
    s.beginRelease = { s with allocation := { s.allocation with requested := false } } := by
  rw [State.beginRelease, none]
  rfl

theorem beginRelease_some {s : State} (some : s.owedEntries ≠ []) : s.beginRelease =
    (s.releaseFormed (chunks s.owedEntries.length Config.entriesPerFrame s.owedEntries)).feedFleet := by
  unfold State.beginRelease
  dsimp only
  rw [if_neg (by simpa using some)]
  rfl

/-- Settles O38: who owes a release; the release formed, and its first frame handed over when the transmitter is free. -/
theorem releaseBeginsWithTheNextNumber : Obligations.ReleaseBeginsWithTheNextNumber := by
  unfold Obligations.ReleaseBeginsWithTheNextNumber
  refine ⟨owes_iff, fun s requested up idle spaced w => ?_⟩
  intro number entries
  have owed : s.owedEntries = entries := owedEntries_eq w
  have begins : exec .releaseBegin s = .next s.beginRelease := by
    change execReleaseBegin s = _
    rw [execReleaseBegin, if_pos (releaseReady_of requested up idle spaced)]
  refine ⟨fun none => begins.trans (congrArg _ (beginRelease_none ?_)), fun ⟨e, he, owes⟩ => ?_⟩
  · rw [owed, List.map_eq_nil_iff, List.filter_eq_nil_iff]
    exact fun e he => by simp [none e he]
  · have some : s.owedEntries ≠ [] := by
      rw [owed]
      exact List.ne_nil_of_mem (List.mem_map_of_mem (List.mem_filter.2 ⟨he, owes⟩))
    have formed := begins.trans (congrArg _ (beginRelease_some some))
    obtain ⟨whole, within, full⟩ := chunks_spec (n := Config.entriesPerFrame) (by decide) _ s.owedEntries le_rfl
    cases cut : chunks s.owedEntries.length Config.entriesPerFrame s.owedEntries with
    | nil =>
      rw [cut] at whole
      exact absurd whole.symm some
    | cons first rest =>
      rw [cut] at formed whole within full
      have distinct : (first.map (fun x => x.slot)).Nodup := by
        have all := owedEntries_slots_nodup w
        rw [← whole, List.flatten_cons, List.map_append] at all
        exact (List.nodup_append.1 all).1
      refine ⟨first, rest, whole.trans owed, within, full, fun busy => ?_, fun free held => ?_⟩
      · exact formed.trans (congrArg _ (feedFleet_holds (.inr busy)))
      · obtain ⟨listed, others⟩ := frameHandedOver_dispatch (s := s.releaseFormed (first :: rest)) held
          { release := nextRelease s.allocation.releaseCounter, nextIndex := 0, frames := first :: rest } rest distinct
        exact ⟨_, formed.trans (congrArg _ (feedFleet_next up free rfl rfl)), rfl, listed, others⟩

end Sys2Proof.Machine

namespace Sys2Proof.Machine

/-! ## A valid frame in the buffer (R164, R166, R168, R171) -/

theorem record_counted (e : Engine) (c : ErrClass) : e.record c false = { e with
    summary := e.summary ||| (1#9 <<< c.bit)
    count := if e.count < 4095 then e.count + 1 else e.count
    overflow := if 4095 ≤ e.count then true else e.overflow } := by
  change (if e.count < 4095 then { e.addClass c with count := e.count + 1 }
    else { e.addClass c with overflow := true }) = _
  split
  · next below => rw [if_neg (by omega)]; rfl
  · next above => rw [if_pos (by omega)]; rfl

theorem take_full {e : Engine} {size : Nat} (full : size ≤ e.buffer.length) (f : Frame) :
    e.take size f = e.record .overrun false := if_neg (by omega)

theorem take_room {e : Engine} {size : Nat} (room : e.buffer.length < size) (f : Frame) : e.take size f = { e with
    buffer := e.buffer ++ [{ f with flagged := e.gapAt f }]
    summary := if e.gapAt f then e.summary ||| 0b000100000#9 else e.summary
    count := if e.gapAt f = true ∧ e.count < 4095 then e.count + 1 else e.count
    overflow := if e.gapAt f && decide (4095 ≤ e.count) then true else e.overflow
    expected0 := if f.channel = 2 then e.expected0 else some ((f.sequence + 1) % 256)
    expected2 := if f.channel = 2 then some ((f.sequence + 1) % 256) else e.expected2 } := by
  have expecting (x : Engine) (n : Nat) : x.setExpected f.channel n = { x with
      expected0 := if f.channel = 2 then x.expected0 else some n
      expected2 := if f.channel = 2 then some n else x.expected2 } := by
    unfold Engine.setExpected
    split <;> rfl
  unfold Engine.take
  rw [if_pos room]
  dsimp only
  cases gap : e.gapAt f with
  | false => rw [expecting]; simp [nextSequence]
  | true => rw [expecting, if_pos rfl, record_counted]; simp [nextSequence, ErrClass.bit]

/-- R171: the classes and the overflow a frame shows as the buffer takes or discards it. -/
theorem take_errors (e : Engine) (size : Nat) (f : Frame) :
    (e.take size f).summary = (if decide (size ≤ e.buffer.length) then e.summary ||| 0b010000000#9
      else if e.gapAt f then e.summary ||| 0b000100000#9 else e.summary) ∧
    (e.take size f).overflow =
      (if (decide (size ≤ e.buffer.length) || e.gapAt f) && decide (4095 ≤ e.count) then true else e.overflow) := by
  rcases Nat.lt_or_ge e.buffer.length size with room | full
  · rw [take_room room, decide_eq_false (Nat.not_le_of_lt room), Bool.false_or]
    exact ⟨rfl, rfl⟩
  · rw [take_full full, record_counted, decide_eq_true full, Bool.true_or, Bool.true_and]
    simp [ErrClass.bit]

/-- What taking a frame leaves of the link's state. -/
theorem take_link (e : Engine) (size : Nat) (f : Frame) : (e.take size f).up = e.up ∧ (e.take size f).signal = e.signal ∧
    (e.take size f).expiry = e.expiry := by
  rcases Nat.lt_or_ge e.buffer.length size with room | full
  · rw [take_room room]
    exact ⟨rfl, rfl, rfl⟩
  · rw [take_full full, record_counted]
    exact ⟨rfl, rfl, rfl⟩

/-! ## A port that goes UP (R136, R173) -/

/-- What a port that goes UP changes outside its Frame Engine, the evaluation and the egress aside: at the Fleet Port the
catch-up flag requests a release when some slot owes one, and the Monitor is told. -/
def State.cameUp (s : State) (port : Port) (rises : Bool) : State :=
  { s with
    allocation := { s.allocation with
      requested := s.allocation.requested ||
        (decide (port = .fleet) && rises && s.allocation.catchUp && s.fleet.sites.any (fun x => s.owes x.1)) }
    monitor := { s.monitor with
      fleetUp := s.monitor.fleetUp || (decide (port = .fleet) && rises)
      meterUp := s.monitor.meterUp || (decide (port = .meter) && rises) } }

theorem cameUp_stays (s : State) (port : Port) : s.cameUp port false = s := by
  simp [State.cameUp]

theorem fleetCameUp_eq (s : State) : s.fleetCameUp = { s with allocation := { s.allocation with
    requested := s.allocation.requested || (s.allocation.catchUp && s.someSlotOwes) } } := by
  have kept : ∀ b, s.allocation.requested = b →
      s = { s with allocation := { s.allocation with requested := b } } := by
    rintro _ rfl
    rfl
  unfold State.fleetCameUp
  cases requested : s.allocation.requested with
  | true => exact kept true requested
  | false =>
    cases owes : (s.allocation.catchUp && s.someSlotOwes) with
    | true => exact if_pos owes
    | false => exact (if_neg (by rw [Bool.not_false, Bool.true_and, owes]; nofun)).trans (kept false requested)

/-- R173: a port that goes UP is handed on, evaluated and told in a notice. -/
theorem handOnLink_up (s : State) (port : Port) (c : LinkCause) :
    EvaluationOnly (s.cameUp port true) (s.handOnLink port true c) := by
  unfold State.handOnLink
  refine EvaluationOnly.trans ?_ (post_egress _ _).evaluation
  cases port with
  | fleet =>
    have told : s.cameUp .fleet true =
        { s.fleetCameUp with monitor := { s.fleetCameUp.monitor with fleetUp := true } } := by
      rw [fleetCameUp_eq]
      simp [State.cameUp, State.someSlotOwes]
    rw [told]
    exact evaluate_evaluation _ false
  | meter =>
    have told : s.cameUp .meter true = { s with monitor := { s.monitor with meterUp := true } } := by
      simp [State.cameUp]
    rw [told]
    exact evaluate_evaluation _ false
  | grid =>
    have told : s.cameUp .grid true = s := by simp [State.cameUp]
    rw [told]
    exact (choose_egress s).evaluation

/-! ### The Grid summary while no response waits (R171, R186) -/

/-- While no response waits, none comes to wait and the Grid summary stands. -/
def SummaryHeld (s t : State) : Prop := s.arbiter.response = none →
  t.arbiter.response = none ∧ t.links.grid.summary = s.links.grid.summary

theorem SummaryHeld.of_eq {s t : State} (response : t.arbiter.response = s.arbiter.response)
    (summary : t.links.grid.summary = s.links.grid.summary) : SummaryHeld s t := fun none =>
  ⟨response.trans none, summary⟩

theorem SummaryHeld.trans {s t u : State} (h : SummaryHeld s t) (k : SummaryHeld t u) : SummaryHeld s u := fun none => by
  obtain ⟨none', summary⟩ := h none
  obtain ⟨none'', summary'⟩ := k none'
  exact ⟨none'', summary'.trans summary⟩

/-- R186: a response alone takes the Grid summary with it. -/
theorem handOver_summaryHeld (s : State) (x : Source) : SummaryHeld s (s.handOver x) := by
  intro none
  cases x with
  | response =>
    unfold State.handOver
    rw [none]
    exact ⟨none, rfl⟩
  | offer =>
    unfold State.handOver
    dsimp only
    split
    · exact ⟨none, rfl⟩
    · unfold State.handOverOffer
      split <;> exact ⟨none, rfl⟩
    · unfold State.handOverWithdraw
      split <;> exact ⟨none, rfl⟩
  | ack | availability | report | notice =>
    unfold State.handOver
    dsimp only
    split <;> exact ⟨none, rfl⟩

theorem choose_summaryHeld (s : State) : SummaryHeld s s.choose := by
  unfold State.choose
  split
  · split
    · exact .of_eq rfl rfl
    · exact handOver_summaryHeld s _
  · exact .of_eq rfl rfl

theorem afterPlacing_summaryHeld (s : State) (b : Bool) : SummaryHeld s (s.afterPlacing b) := by
  unfold State.afterPlacing
  split
  · exact choose_summaryHeld s
  · exact .of_eq rfl rfl

theorem post_summaryHeld (s : State) (n : Notice) : SummaryHeld s (s.post n) := by
  unfold State.post
  split
  · split
    · refine SummaryHeld.trans ?_ (afterPlacing_summaryHeld _ _)
      exact .of_eq rfl rfl
    · exact .of_eq rfl rfl
  · exact .of_eq rfl rfl

theorem handOnLink_grid_summaryHeld (s : State) (c : LinkCause) : SummaryHeld s (s.handOnLink .grid true c) :=
  (choose_summaryHeld s).trans (post_summaryHeld _ _)

/-! ## The renewal of a link (R173) -/

/-- R173: a Frame Engine whose link a valid frame renews or raises. -/
def Engine.renewed (e : Engine) (expiry now : Nat) : Engine :=
  { e with
    up := e.up || e.signal
    expiry := if e.up || e.signal then some expiry else e.expiry
    lastValid := if e.up || e.signal then some now else e.lastValid }

theorem renewed_silent {e : Engine} (down : e.up = false) (silent : e.signal = false) (expiry now : Nat) :
    e.renewed expiry now = e := by
  obtain ⟨⟩ := e
  simp_all [Engine.renewed]

theorem setEngine_self (s : State) (port : Port) : s.setEngine port (s.engine port) = s := by
  cases port <;> rfl

theorem setEngine_setEngine (s : State) (port : Port) (x y : Engine) :
    (s.setEngine port x).setEngine port y = s.setEngine port y := by
  cases port <;> rfl

/-- R173: a valid frame renews the Frame Engine, and a DOWN port that goes UP is handed on. -/
theorem validFrame_eq (s : State) (port : Port) (e : Engine) :
    let u := s.setEngine port (e.renewed s.linkExpiry s.localTime)
    (s.setEngine port e).validFrame port = if (!e.up && e.signal) = true then u.handOnLink port true .frame else u := by
  intro u
  have expiry : (s.setEngine port e).linkExpiry = s.linkExpiry := by cases port <;> rfl
  have now : (s.setEngine port e).localTime = s.localTime := by cases port <;> rfl
  unfold State.validFrame
  simp only [setEngine_engine_same, setEngine_setEngine, expiry, now]
  cases up : e.up with
  | true => simp [u, Engine.renewed, up]
  | false =>
    cases signal : e.signal with
    | true => simp [u, Engine.renewed, up, signal]
    | false => simp [u, renewed_silent up signal]

theorem EvaluationOnly.engine {s t : State} (h : EvaluationOnly s t) (port : Port) : EngineKept port s t := by
  have kept := h.egress.steady.engine port
  cases port <;> exact kept

theorem cameUp_setEngine (s : State) (port : Port) (rises : Bool) (e : Engine) :
    (s.setEngine port e).cameUp port rises = (s.cameUp port rises).setEngine port e := by
  cases port <;> rfl

/-- R173: all that a valid frame does once its engine has taken it. -/
theorem validFrame_effect (s : State) (port : Port) (e : Engine) :
    let renewed := e.renewed s.linkExpiry s.localTime
    let rises : Bool := !e.up && e.signal
    let t := (s.setEngine port e).validFrame port
    t.engine port = { renewed with summary := (t.engine port).summary } ∧
    (port ≠ .grid ∨ rises = false ∨ s.arbiter.response = none → (t.engine port).summary = e.summary) ∧
    EvaluationOnly ((s.cameUp port rises).setEngine port renewed) t ∧
    (rises = false → t = s.setEngine port (t.engine port)) := by
  intro renewed rises t
  obtain ⟨u, hu⟩ : ∃ u, u = s.setEngine port renewed := ⟨_, rfl⟩
  have own : u.engine port = renewed := by rw [hu, setEngine_engine_same]
  have shape : t = if rises = true then u.handOnLink port true .frame else u := by
    rw [hu]
    exact validFrame_eq s port e
  rw [← cameUp_setEngine, ← hu]
  cases up : rises with
  | false =>
    have shape : t = u := shape.trans (if_neg (by rw [up]; nofun))
    rw [shape, cameUp_stays, own]
    exact ⟨rfl, fun _ => rfl, .refl u, fun _ => hu⟩
  | true =>
    have shape : t = u.handOnLink port true .frame := shape.trans (if_pos up)
    have evaluated := handOnLink_up u port .frame
    have raised : (u.cameUp port true).engine port = renewed := own ▸ by cases port <;> rfl
    have kept := evaluated.engine port
    rw [EngineKept, raised] at kept
    rw [shape]
    refine ⟨kept, fun quiet => ?_, evaluated, nofun⟩
    have summary : (u.engine port).summary = e.summary := by rw [own]; rfl
    rw [← summary]
    cases port with
    | fleet => exact congrArg Engine.summary evaluated.egress.fleetEngine
    | meter => exact congrArg Engine.summary evaluated.egress.meterEngine
    | grid =>
      have none : u.arbiter.response = none := by
        rw [hu]
        simpa using quiet
      exact (handOnLink_grid_summaryHeld u .frame none).2

/-- Settles O10: the frame joins the buffer or is discarded, then renews or raises the link. -/
theorem validFrameIsTakenAndRenewsTheLink : Obligations.ValidFrameIsTakenAndRenewsTheLink := by
  unfold Obligations.ValidFrameIsTakenAndRenewsTheLink
  intro port o f s judged e expected gap full rises
  obtain ⟨taken, took⟩ : ∃ x, x = e.take (bufferSize port) f := ⟨_, rfl⟩
  obtain ⟨up, signal, expiry⟩ := take_link e (bufferSize port) f
  rw [← took] at up signal expiry
  have ran : exec (.frameReceived port o) s = .next ((s.setEngine port taken).validFrame port) := by
    change execFrameReceived port o s = _
    rw [execFrameReceived, judged, took]
  obtain ⟨engine, summary, evaluated, still⟩ := validFrame_effect s port taken
  rw [up, signal] at summary evaluated still
  refine ⟨_, ran, ?_⟩
  generalize (s.setEngine port taken).validFrame port = t at engine summary evaluated still
  have renewedUp : (t.engine port).up = (e.up || e.signal) := by rw [engine, ← up, ← signal]; rfl
  have renewedExpiry : (t.engine port).expiry = if (e.up || e.signal) = true then some s.linkExpiry else e.expiry := by
    rw [engine, ← up, ← signal, ← expiry]
    rfl
  obtain ⟨classes, counted⟩ := take_errors e (bufferSize port) f
  rw [← took] at classes counted
  have kept {β : Type} (field : Engine → β)
      (unrenewed : ∀ x n y, field { x.renewed s.linkExpiry n with summary := y } = field x) :
      field (t.engine port) = field taken := by
    rw [engine]
    exact unrenewed _ _ _
  have overflow := kept Engine.overflow fun _ _ _ => rfl
  have buffer := kept Engine.buffer fun _ _ _ => rfl
  have count := kept Engine.count fun _ _ _ => rfl
  have expected0 := kept Engine.expected0 fun _ _ _ => rfl
  have expected2 := kept Engine.expected2 fun _ _ _ => rfl
  have frame := evaluated.egress
  obtain ⟨fleetUp, meterUp⟩ := evaluated.portStates
  refine ⟨fun quiet => (summary quiet).trans classes, overflow.trans counted, fun room => ?_, fun none => ?_,
    fun raises => ?_, fun down silent => ?_, frame.allocation.trans (State.setEngine_allocation _ _ _),
    fleetUp.trans (congrArg Monitor.fleetUp (State.setEngine_monitor _ _ _)),
    meterUp.trans (congrArg Monitor.meterUp (State.setEngine_monitor _ _ _)), still,
    frame.fleet.trans (State.setEngine_fleet _ _ _), frame.time.trans (State.setEngine_time _ _ _),
    frame.products.trans (State.setEngine_products _ _ _), frame.census.trans (State.setEngine_census _ _ _),
    frame.activation.trans (State.setEngine_activation _ _ _), frame.params.trans (State.setEngine_params _ _ _),
    frame.unknownSites.trans (State.setEngine_unknownSites _ _ _)⟩
  · rw [buffer, count, expected0, expected2, took, take_room room]
    refine ⟨rfl, ?_, rfl⟩
    split <;> rfl
  · rw [buffer, count, expected0, expected2, took, take_full none, record_counted]
    exact ⟨rfl, rfl, rfl, rfl⟩
  · have live : (e.up || e.signal) = true := Bool.or_eq_true_iff.2 raises
    exact ⟨renewedUp.trans live, renewedExpiry.trans (if_pos live)⟩
  · have dead : (e.up || e.signal) = false := Bool.or_eq_false_iff.2 ⟨down, silent⟩
    exact ⟨renewedUp.trans dead, renewedExpiry.trans (if_neg (by rw [dead]; nofun))⟩

end Sys2Proof.Machine

namespace Sys2Proof.Machine

/-! ## The arbiter's sources while it makes no choice (R156, R178) -/

/-- While the arbiter makes no choice, `t` makes none either, and all its sources in the arbiter but AVAILABILITY are as
`s` holds them. -/
def SourcesHeld (s t : State) : Prop :=
  s.gridHolds = true → t.gridHolds = true ∧ t.arbiter = { s.arbiter with availability := t.arbiter.availability }

theorem SourcesHeld.refl (s : State) : SourcesHeld s s := fun holds => ⟨holds, rfl⟩

theorem SourcesHeld.trans {s t u : State} (h : SourcesHeld s t) (k : SourcesHeld t u) : SourcesHeld s u := fun holds => by
  obtain ⟨holds', sources⟩ := h holds
  obtain ⟨holds'', sources'⟩ := k holds'
  exact ⟨holds'', by rw [sources', sources]⟩

theorem SourcesHeld.foldl {α : Type} {f : State → α → State} (h : ∀ s a, SourcesHeld s (f s a)) (l : List α) (s : State) :
    SourcesHeld s (l.foldl f s) := by
  induction l generalizing s with
  | nil => exact .refl s
  | cons a l ih => exact (h s a).trans (ih _)

theorem SourcesHeld.of_eq {s t : State} (links : t.links = s.links)
    (sources : t.arbiter = { s.arbiter with availability := t.arbiter.availability }) : SourcesHeld s t :=
  fun holds => ⟨by rw [State.gridHolds, links]; exact holds, sources⟩

theorem post_sourcesHeld (s : State) (n : Notice) : SourcesHeld s (s.post n) := fun holds => by
  obtain ⟨m, posted, -⟩ := post_of_gridHolds holds n
  rw [posted]
  exact ⟨holds, rfl⟩

/-- R159: an AVAILABILITY frame placed waits in its source. -/
theorem placeAvailability_waits {s : State} (holds : s.gridHolds = true) (l : List AvailEntry) :
    (s.placeAvailability l).gridHolds = true ∧
      (s.placeAvailability l).arbiter = { s.arbiter with availability := some l } := by
  have waits : ({ s with arbiter := { s.arbiter with availability := some l } } : State).gridHolds = true := holds
  rw [State.placeAvailability, afterPlacing_of_gridHolds waits]
  exact ⟨waits, rfl⟩

/-- R159: the frame queued tells of every declared product, and waits in its source. -/
theorem queueAvailability_waits {s : State} (holds : s.gridHolds = true) : s.queueAvailability.gridHolds = true ∧
    s.queueAvailability.arbiter = { s.arbiter with availability := some s.availabilityEntries } :=
  placeAvailability_waits (s := { s with monitor := { s.monitor with
    heartbeatExpiry := s.localTime + s.params.heartbeatInterval * 1000, heartbeatBase := s.localTime } }) holds _

theorem queueAvailability_sourcesHeld (s : State) : SourcesHeld s s.queueAvailability := fun holds => by
  obtain ⟨holds', sources⟩ := queueAvailability_waits holds
  exact ⟨holds', by rw [sources]⟩

theorem evaluate_sourcesHeld (s : State) (b : Bool) : SourcesHeld s (s.evaluate b) :=
  evaluate_rel .refl .trans post_sourcesHeld (fun _ _ => .of_eq rfl rfl) queueAvailability_sourcesHeld s b

/-! ## What an evaluation finds and declares (R156, R158) -/

/-- R156: an evaluation up to the queueing of a frame: conditions recomputed, notices posted, declarations recomputed. -/
def State.declared (s : State) : State :=
  (allProducts.foldl (fun t p => t.postConditionChange p (s.mon p).conditions (s.conditionsOf p))
    s.recomputed).redeclared

/-- R159: an evaluation for the heartbeat queues a frame whatever the declarations are. -/
theorem evaluate_true (s : State) : s.evaluate true = s.declared.queueAvailability := rfl

/-- R157: the notices of an evaluation, after the conditions are recomputed. -/
theorem changesNoted_egress (s : State) : EgressOnly s.recomputed (allProducts.foldl
    (fun t p => t.postConditionChange p (s.mon p).conditions (s.conditionsOf p)) s.recomputed) :=
  EgressOnly.foldl _ (fun t p => postConditionChange_egress t p _ _) _ _

theorem declared_sourcesHeld (s : State) : SourcesHeld s s.declared := by
  have noted (t : State) (p : Product) :=
    postConditionChange_rel .refl .trans post_sourcesHeld t p (s.mon p).conditions (s.conditionsOf p)
  exact (SourcesHeld.of_eq (t := s.recomputed) rfl rfl).trans ((SourcesHeld.foldl noted _ _).trans (.of_eq rfl rfl))

theorem declared_products (s : State) : s.declared.products = s.products := by
  rw [State.declared, State.redeclared_products, (changesNoted_egress s).products, State.recomputed_products]

/-- R156, R158: every product's conditions and declaration by their definitions, and nothing else of the Monitor's. -/
theorem declared_mon (s : State) (p : Product) : s.declared.mon p =
    { s.mon p with conditions := s.conditionsOf p, declaration := s.declarationOf p (s.conditionsOf p) } := by
  have monitor := (changesNoted_egress s).monitor
  have products := (changesNoted_egress s).products
  rw [State.recomputed_products] at products
  unfold State.declared
  generalize allProducts.foldl _ s.recomputed = u at monitor products
  have recomputed : u.mon p = { s.mon p with conditions := s.conditionsOf p } := by
    simp only [State.mon, monitor, State.recomputed, PerProduct.get_ofFn]
  have redeclared : u.redeclared.mon p = { u.mon p with declaration := u.declarationOf p (u.mon p).conditions } := by
    simp only [State.redeclared, State.mon, PerProduct.get_ofFn]
  have bank : u.declarationOf p = s.declarationOf p := by
    funext c
    unfold State.declarationOf State.bank
    rw [products]
  rw [redeclared, recomputed, bank]

theorem queueAvailability_mon (s : State) (p : Product) : s.queueAvailability.mon p = s.mon p := by
  rw [State.queueAvailability, State.mon, (placeAvailability_egress _ _).monitor]
  rfl

theorem availabilityEntries_eq (s : State) : s.availabilityEntries = allProducts.filterMap (fun p =>
    (s.mon p).declaration.map (fun d =>
      { code := (s.bank p).code, declaration := d, conditions := (s.mon p).conditions })) := by
  unfold State.availabilityEntries
  congr 1
  funext p
  cases (s.mon p).declaration <;> rfl

/-! ## The conditions by their definitions (R155) -/

section Conditions
variable (s : State) (p : Product)

theorem availableCapacity_eq_some {a : Nat} : s.availableCapacity p = some a ↔
    ∃ x, s.census.published = some x ∧ (x.snapshot.products.get p).available = a := by
  simp [State.availableCapacity, Option.map_eq_some_iff]

/-- R155: SHORTFALL is the last pass's, or the Snapshot's capacity against the current window's commitment. -/
theorem conditionsOf_shortfall : (s.conditionsOf p).shortfall = true ↔
    (s.allocation.lastPass.get p).shortfall = true ∨ ∃ x w, s.census.published = some x ∧
      s.currentWindow = some w ∧ (x.snapshot.products.get p).available < s.commitment p w := by
  unfold State.conditionsOf State.availableCapacity State.windowObligation
  cases s.census.published with
  | none => simp
  | some x => cases s.currentWindow <;> simp [or_comm]

/-- R155: FUTURE_SHORTFALL looks at the 47 windows after the current one. -/
theorem conditionsOf_futureShortfall : (s.conditionsOf p).futureShortfall = true ↔
    ∃ x w v, s.census.published = some x ∧ s.currentWindow = some w ∧ w + 1 ≤ v ∧ v ≤ w + 47 ∧
      (x.snapshot.products.get p).available < s.commitment p v := by
  have windows (w v : Nat) : v ∈ (List.range Config.ringAfter).map (fun k => w + 1 + k) ↔ w + 1 ≤ v ∧ v ≤ w + 47 := by
    simp only [List.mem_map, List.mem_range, Config.ringAfter]
    exact ⟨fun ⟨k, hk, e⟩ => by omega, fun h => ⟨v - (w + 1), by omega, by omega⟩⟩
  have short (w a : Nat) (hw : s.currentWindow = some w) (ha : s.availableCapacity p = some a) :
      (s.futureShort p).isSome = true ↔ ∃ v, (w + 1 ≤ v ∧ v ≤ w + 47) ∧ a < s.commitment p v := by
    have found := List.find?_isSome (xs := (List.range Config.ringAfter).map (fun k => w + 1 + k))
      (p := fun v => decide (a < s.commitment p v))
    simp only [windows, decide_eq_true_eq] at found
    rw [← found]
    simp only [State.futureShort, hw, ha]
    split
    · next none => rw [none]; rfl
    · next first => rw [first]; rfl
  change (s.futureShort p).isSome = true ↔ _
  cases hw : s.currentWindow with
  | none => simp [State.futureShort, hw]
  | some w =>
    cases hx : s.census.published with
    | none => simp [State.futureShort, hw, State.availableCapacity, hx]
    | some x =>
      rw [short w _ hw ((availableCapacity_eq_some s p).2 ⟨x, hx, rfl⟩)]
      simp [and_assoc]

theorem conditionsOf_meterLinkDown : (s.conditionsOf p).meterLinkDown = true ↔
    s.monitor.meterUp = false ∧ (s.bank p).mode = .frequency := by
  simp [State.conditionsOf]

theorem conditionsOf_timeNotSet : (s.conditionsOf p).timeNotSet = true ↔ s.deviceTime = none := by
  rw [← notSet_iff]
  exact decide_eq_true_iff

theorem conditionsOf_noCensus : (s.conditionsOf p).noCensus = true ↔ s.census.published = none :=
  Option.isNone_iff_eq_none

end Conditions

/-- R159: a heartbeat that is due is taken. -/
theorem execHeartbeat_due {s : State} (due : s.monitor.heartbeatExpiry ≤ s.localTime) :
    exec .heartbeat s = .next (s.evaluate true) :=
  congrArg _ (if_pos (decide_eq_true due))

/-- Settles O42: the heartbeat's evaluation declares every product, and queues the frame of what it declared. -/
theorem heartbeatEvaluatesAndQueuesAvailability : Obligations.HeartbeatEvaluatesAndQueuesAvailability := by
  unfold Obligations.HeartbeatEvaluatesAndQueuesAvailability
  intro s due
  have mon (p : Product) : (s.evaluate true).mon p =
      { s.mon p with conditions := s.conditionsOf p, declaration := s.declarationOf p (s.conditionsOf p) } := by
    rw [evaluate_true, queueAvailability_mon, declared_mon]
  have frame := (evaluate_evaluation s true).egress
  refine ⟨_, execHeartbeat_due due, (evaluate_heartbeat s).2, fun p => ?_, fun holds => ?_, frame.fleet, frame.time,
    frame.products, frame.census, frame.activation, frame.allocation, frame.params⟩
  · rw [mon p]
    exact ⟨conditionsOf_shortfall s p, conditionsOf_futureShortfall s p, rfl, rfl, conditionsOf_meterLinkDown s p,
      conditionsOf_timeNotSet s p, conditionsOf_noCensus s p, rfl, rfl⟩
  · obtain ⟨quiet, -⟩ := declared_sourcesHeld s holds
    rw [evaluate_true, (queueAvailability_waits quiet).2, availabilityEntries_eq]
    simp only [queueAvailability_mon, State.bank, declared_products]

end Sys2Proof.Machine

namespace Sys2Proof.Machine

/-! ## Status and error reads (R154, R171, R174, R190) -/

/-- R184: while the arbiter makes no choice, a response waits in its source. -/
theorem respond_waits {s : State} (holds : s.gridHolds = true) (r : PendingRequest) (e : Option Reason) (b : Octets) :
    (s.respond r e b).gridHolds = true ∧ (s.respond r e b).arbiter.response =
      some { sequence := r.sequence, code := (requestCode r.payload).getD 0, refusal := e, body := b } := by
  let answer : Response := { sequence := r.sequence, code := (requestCode r.payload).getD 0, refusal := e, body := b }
  let placed : State := { (s.setManagement { s.management with inExecution := none }) with
    arbiter := { s.arbiter with response := some answer } }
  have waits : placed.gridHolds = true := holds
  have quiet : s.respond r e b = placed := afterPlacing_of_gridHolds waits _
  rw [quiet]
  exact ⟨waits, rfl⟩

theorem requestCode_of_nextOf {s : State} {r : PendingRequest} {code : Nat} (next : s.nextOf code = some r) :
    requestCode r.payload = some code := by
  simp only [State.nextOf, Option.filter_eq_some_iff, decide_eq_true_eq] at next
  exact next.2

/-- R154: every alarm latch cleared, before the evaluation that may follow. -/
def State.latchesCleared (s : State) : State :=
  { s with monitor := { s.monitor with products := PerProduct.ofFn (fun p => { s.mon p with latch := false }) } }

theorem latchesCleared_mon (s : State) (p : Product) : s.latchesCleared.mon p = { s.mon p with latch := false } :=
  PerProduct.get_ofFn _ p

/-- R154, R156: the clearing of a latch that was set is evaluated. -/
theorem clearLatches_of_latched {s : State} (h : ∃ p, (s.mon p).latch = true) :
    s.clearLatches = s.latchesCleared.evaluate false := by
  obtain ⟨p, latched⟩ := h
  exact if_pos (List.any_eq_true.2 ⟨p, mem_allProducts p, latched⟩)

/-- R154: without a latch that is set there is nothing to clear. -/
theorem clearLatches_of_unlatched {s : State} (h : ∀ p, (s.mon p).latch = false) : s.clearLatches = s := by
  have products : s.latchesCleared.monitor.products = s.monitor.products := PerProduct.ext_get fun p => by
    have clear := h p
    rw [← State.mon, latchesCleared_mon, ← clear, ← State.mon]
  have idle : s.clearLatches = s.latchesCleared := if_neg fun some => by
    obtain ⟨p, -, latched⟩ := List.any_eq_true.1 some
    rw [h p] at latched
    cases latched
  rw [idle, State.latchesCleared]
  exact congrArg (fun m => { s with monitor := { s.monitor with products := m } }) products

theorem clearLatches_evaluation (s : State) : EvaluationOnly s.latchesCleared s.clearLatches := by
  unfold State.clearLatches
  dsimp only
  split
  · exact evaluate_evaluation _ _
  · exact .refl _

theorem clearLatches_sourcesHeld (s : State) : SourcesHeld s s.clearLatches := by
  have cleared : SourcesHeld s s.latchesCleared := .of_eq rfl rfl
  unfold State.clearLatches
  dsimp only
  split
  · exact cleared.trans (evaluate_sourcesHeld _ _)
  · exact cleared

section
variable {s : State} {r : PendingRequest}

theorem execReadStatus_run (next : s.nextOf 22 = some r) (length : r.payload.length = 1) :
    exec .readStatus s = .next (s.takeRequest.readStatus r) :=
  congrArg _ (request_run next length)

theorem execReadLinkErrors_run (next : s.nextOf 23 = some r) (length : r.payload.length = 1) :
    exec .readLinkErrors s = .next (s.takeRequest.readLinkErrors r) :=
  congrArg _ (request_run next length)

end

/-- R174: WAS_DOWN stays at a port that is DOWN alone. -/
theorem clearWasDown_engine (s : State) (port : Port) : s.clearWasDown.engine port = (s.engine port).statusRead := by
  cases port <;> rfl

/-- Settles O53: what is reported is placed first, then cleared; a latch that was set is evaluated besides. -/
theorem statusReadsClearWhatTheyReport : Obligations.StatusReadsClearWhatTheyReport := by
  unfold Obligations.StatusReadsClearWhatTheyReport
  refine ⟨fun s r next length => ?_, fun s r next length => execReadLinkErrors_run next length⟩
  obtain ⟨u, hu⟩ : ∃ u, u = s.takeRequest.clearWasDown.respond r none s.takeRequest.statusBody := ⟨_, rfl⟩
  have answered : EgressOnly _ u := hu ▸ respond_egress s.takeRequest.clearWasDown r none s.takeRequest.statusBody
  have run : exec .readStatus s = .next u.clearLatches := hu ▸ execReadStatus_run next length
  have cleared := clearLatches_evaluation u
  have monitor : u.monitor = s.monitor := answered.monitor
  have mon (p : Product) : u.mon p = s.mon p := by rw [State.mon, monitor, State.mon]
  refine ⟨_, run, fun holds => ?_, fun port => ?_, fun p => ?_, fun latched p => ?_, fun unlatched => ?_,
    cleared.egress.fleet.trans answered.fleet, cleared.egress.time.trans answered.time,
    cleared.egress.products.trans answered.products, cleared.egress.census.trans answered.census,
    cleared.egress.activation.trans answered.activation, cleared.egress.allocation.trans answered.allocation,
    cleared.egress.params.trans answered.params⟩
  · obtain ⟨quiet, response⟩ := respond_waits (s := s.takeRequest.clearWasDown) holds r none s.takeRequest.statusBody
    rw [← hu] at quiet response
    rw [requestCode_of_nextOf next] at response
    rw [(clearLatches_sourcesHeld u quiet).2]
    exact response
  · have read := (answered.evaluation.engine port).trans (cleared.engine port)
    rw [EngineKept] at read
    rw [read]
    exact congrArg Engine.wasDown (clearWasDown_engine s.takeRequest port)
  · rw [cleared.measured p, latchesCleared_mon, mon p]
    exact ⟨rfl, rfl, rfl⟩
  · rw [clearLatches_of_latched (by simpa only [mon] using latched), evaluate_conditions]
    exact congrArg MonitorProduct.latch (latchesCleared_mon u p)
  · rw [clearLatches_of_unlatched (by simpa only [mon] using unlatched), monitor]

end Sys2Proof.Machine

namespace Sys2Proof.Machine

/-! ## One product measured (R148 to R151, R153) -/

/-- R153: the alarm and its latch, set when the deficient count has reached the threshold. -/
def MonitorProduct.alarmed (m : MonitorProduct) (threshold : Nat) : MonitorProduct :=
  if threshold ≤ m.current.deficient then { m with current := { m.current with alarm := true }, latch := true } else m

/-- R149, R150, R153: what a measured product holds after an interval of `duration` ms under bank `b`. -/
def MonitorProduct.afterInterval (m : MonitorProduct) (requested delivered duration : Nat) (b : Bank) : MonitorProduct :=
  let deficient := deficientInterval requested delivered b.tolerance
  let n := m.measured requested delivered duration deficient
  if deficient then n.alarmed b.deficientThreshold else n

theorem deficientInterval_eq (requested delivered tolerance : Nat) : deficientInterval requested delivered tolerance =
    decide (0 < requested ∧ delivered < requested * (1000 - tolerance) / 1000) :=
  (Bool.decide_and _ _).symm

/-- R149, R150, R153: every field of a measured product, by the rules. -/
theorem MonitorProduct.afterInterval_eq (m : MonitorProduct) (requested delivered duration : Nat) (b : Bank) :
    let deficient := 0 < requested ∧ delivered < requested * (1000 - b.tolerance) / 1000
    let count := if deficient then raise16 m.current.deficient else m.current.deficient
    let alarmed := deficient ∧ b.deficientThreshold ≤ count
    m.afterInterval requested delivered duration b = { m with
      intervals := (m.intervals + 1) % 4294967296
      requested := m.requested + requested * duration
      delivered := m.delivered + delivered * duration
      current := { m.current with
        measured := raise16 m.current.measured
        deficient := count
        requested := m.current.requested + requested * duration
        delivered := m.current.delivered + delivered * duration
        alarm := if alarmed then true else m.current.alarm }
      latch := if alarmed then true else m.latch } := by
  intro deficient count alarmed
  simp only [deficient, count, alarmed, MonitorProduct.afterInterval, deficientInterval_eq]
  by_cases short : 0 < requested ∧ delivered < requested * (1000 - b.tolerance) / 1000
  · simp only [MonitorProduct.measured, MonitorProduct.alarmed, decide_eq_true short, if_pos short, if_true]
    by_cases reached : b.deficientThreshold ≤ raise16 m.current.deficient
    · rw [if_pos reached, if_pos ⟨short, reached⟩, if_pos ⟨short, reached⟩]
    · rw [if_neg reached, if_neg (fun h => reached h.2), if_neg (fun h => reached h.2)]
  · have unalarmed : ¬ ((0 < requested ∧ delivered < requested * (1000 - b.tolerance) / 1000) ∧
        b.deficientThreshold ≤ m.current.deficient) := fun h => short h.1
    simp only [MonitorProduct.measured, decide_eq_false short, if_neg short, if_neg unalarmed, Bool.false_eq_true,
      if_false]

/-- R155, R158: measuring neither reads nor writes conditions and declaration. -/
theorem MonitorProduct.afterInterval_conditions (m : MonitorProduct) (c : CondSet) (d : Option Declaration)
    (requested delivered duration : Nat) (b : Bank) :
    ({ m with conditions := c, declaration := d } : MonitorProduct).afterInterval requested delivered duration b =
      { m.afterInterval requested delivered duration b with conditions := c, declaration := d } := by
  simp only [MonitorProduct.afterInterval_eq]

theorem setMon_mon_same (s : State) (p : Product) (m : MonitorProduct) : (s.setMon p m).mon p = m := by
  simp [State.setMon, State.mon]

theorem setMon_mon_other (s : State) {p q : Product} (h : q ≠ p) (m : MonitorProduct) :
    (s.setMon p m).mon q = s.mon q := by
  simp [State.setMon, State.mon, h]

theorem setMon_setMon (s : State) (p : Product) (m n : MonitorProduct) :
    (s.setMon p m).setMon p n = s.setMon p n := by
  have products : (s.monitor.products.set p m).set p n = s.monitor.products.set p n := PerProduct.ext_get fun q => by
    simp only [PerProduct.get_set]
    split <;> rfl
  rw [State.setMon, State.setMon, State.setMon]
  exact congrArg (fun x => { s with monitor := { s.monitor with products := x } }) products

theorem setMon_sourcesHeld (s : State) (p : Product) (m : MonitorProduct) : SourcesHeld s (s.setMon p m) :=
  .of_eq rfl rfl

/-- R153, R156: the alarm rule sets alarm and latch, and evaluates when the latch was clear. -/
theorem alarmRule_setMon (s : State) (p : Product) (m : MonitorProduct) :
    EvaluationOnly (s.setMon p (m.alarmed (s.bank p).deficientThreshold)) ((s.setMon p m).alarmRule p) ∧
      SourcesHeld s ((s.setMon p m).alarmRule p) := by
  have bank : (s.setMon p m).bank p = s.bank p := rfl
  unfold State.alarmRule MonitorProduct.alarmed
  simp only [setMon_mon_same, setMon_setMon, bank]
  by_cases reached : (s.bank p).deficientThreshold ≤ m.current.deficient
  · rw [if_pos reached, if_pos reached]
    split
    · exact ⟨.refl _, setMon_sourcesHeld s p _⟩
    · exact ⟨(post_egress _ _).evaluation.trans (evaluate_evaluation _ _),
        (setMon_sourcesHeld s p _).trans ((post_sourcesHeld _ _).trans (evaluate_sourcesHeld _ _))⟩
  · rw [if_neg reached, if_neg reached]
    exact ⟨.refl _, setMon_sourcesHeld s p m⟩

/-- R148 to R150, R153: what the Monitor holds for `p` after an interval of `duration` ms in which `p` is measured. -/
def State.intervalRecord (s : State) (duration : Nat) (p : Product) : MonitorProduct :=
  (s.mon p).afterInterval (s.act p).target (s.delivered p) duration (s.bank p)

/-- R151: the report of that interval. -/
def State.intervalReport (s : State) (duration : Nat) (p : Product) : DeliveryReport :=
  (s.setMon p (s.intervalRecord duration p)).reportOf p (s.act p).target (s.delivered p)
    (deficientInterval (s.act p).target (s.delivered p) (s.bank p).tolerance)

theorem intervalReport_eq (s : State) (duration : Nat) (p : Product) : s.intervalReport duration p =
    { code := (s.bank p).code, id := (s.act p).currentId, requested := (s.act p).target, delivered := s.delivered p,
      interval := (s.intervalRecord duration p).intervals
      window := (s.intervalRecord duration p).current.window
      deficient := deficientInterval (s.act p).target (s.delivered p) (s.bank p).tolerance
      deficientCount := (s.intervalRecord duration p).current.deficient } := by
  unfold State.intervalReport State.reportOf
  rw [setMon_mon_same]
  rfl

/-- R151: the report depends on nothing an evaluation changes. -/
theorem EvaluationOnly.reportOf {s t : State} (h : EvaluationOnly s t) (p : Product) (requested delivered : Nat)
    (deficient : Bool) : t.reportOf p requested delivered deficient = s.reportOf p requested delivered deficient := by
  have products : t.products = s.products := h.egress.products
  have activation : t.activation = s.activation := h.egress.activation
  unfold State.reportOf State.bank State.act
  rw [h.measured p, products, activation]

/-- R148 to R153: measuring writes the product's record, may evaluate, and places the report. -/
theorem measure_eq (s : State) (duration : Nat) (p : Product) : ∃ u : State,
    EvaluationOnly (s.setMon p (s.intervalRecord duration p)) u ∧ SourcesHeld s u ∧
      s.measure duration p = u.placeReport p (s.intervalReport duration p) := by
  let deficient := deficientInterval (s.act p).target (s.delivered p) (s.bank p).tolerance
  let n := (s.mon p).measured (s.act p).target (s.delivered p) duration deficient
  let u := if deficient then (s.setMon p n).alarmRule p else s.setMon p n
  have evaluated : EvaluationOnly (s.setMon p (s.intervalRecord duration p)) u ∧ SourcesHeld s u := by
    simp only [u, State.intervalRecord, MonitorProduct.afterInterval]
    split
    · exact alarmRule_setMon s p n
    · exact ⟨.refl _, setMon_sourcesHeld s p n⟩
  refine ⟨u, evaluated.1, evaluated.2, ?_⟩
  rw [State.intervalReport, ← evaluated.1.reportOf p]
  rfl

/-! ## What the measuring of the other products leaves (R147) -/

/-- The blocks beside the Monitor stand, the Grid Port's egress excepted. -/
def BesidesMonitor (s t : State) : Prop := EgressOnly s { t with monitor := s.monitor }

theorem BesidesMonitor.trans {s t u : State} (h : BesidesMonitor s t) (k : BesidesMonitor t u) : BesidesMonitor s u :=
  EgressOnly.trans h { k with monitor := rfl }

/-- From `s` to `t` product `p` keeps what was measured for it, and its report while the arbiter makes no choice. -/
structure LeavesProduct (p : Product) (s t : State) : Prop where
  frame : BesidesMonitor s t
  mon : t.mon p = { s.mon p with conditions := (t.mon p).conditions, declaration := (t.mon p).declaration }
  reports : s.gridHolds = true → t.gridHolds = true ∧ ∀ r, (p, r) ∈ s.arbiter.reports → (p, r) ∈ t.arbiter.reports

theorem LeavesProduct.refl (p : Product) (s : State) : LeavesProduct p s s :=
  ⟨EgressOnly.refl s, rfl, fun holds => ⟨holds, fun _ => id⟩⟩

theorem LeavesProduct.trans {p : Product} {s t u : State} (h : LeavesProduct p s t) (k : LeavesProduct p t u) :
    LeavesProduct p s u where
  frame := h.frame.trans k.frame
  mon := by rw [k.mon, h.mon]
  reports holds := by
    obtain ⟨holds', waits⟩ := h.reports holds
    obtain ⟨holds'', waits'⟩ := k.reports holds'
    exact ⟨holds'', fun r => waits' r ∘ waits r⟩

theorem LeavesProduct.foldl {p : Product} {f : State → Product → State} {l : List Product}
    (h : ∀ q ∈ l, ∀ s, LeavesProduct p s (f s q)) (s : State) : LeavesProduct p s (l.foldl f s) := by
  induction l generalizing s with
  | nil => exact .refl p s
  | cons q l ih => exact (h q (.head _) s).trans (ih (fun r hr => h r (.tail _ hr)) _)

/-- R177: a place's content goes into no other place. -/
theorem mem_placeIn_other {κ α : Type} [DecidableEq κ] {l : List (κ × α)} {k j : κ} (h : j ≠ k) {a b : α}
    (listed : (j, b) ∈ l) : (j, b) ∈ placeIn l k a := by
  induction l with
  | nil => cases listed
  | cons e l ih =>
    obtain ⟨i, c⟩ := e
    rw [placeIn]
    split
    · next own =>
      rcases List.mem_cons.1 listed with first | later
      · exact absurd ((congrArg Prod.fst first).trans own) h
      · exact .tail _ later
    · rcases List.mem_cons.1 listed with first | later
      · exact first ▸ .head _
      · exact .tail _ (ih later)

/-- R151: a report placed waits in its product's place. -/
theorem placeReport_waits {s : State} (holds : s.gridHolds = true) (p : Product) (r : DeliveryReport) :
    (s.placeReport p r).gridHolds = true ∧ (s.placeReport p r).arbiter.reports = placeIn s.arbiter.reports p r := by
  let placed : State := { s with arbiter := { s.arbiter with reports := placeIn s.arbiter.reports p r } }
  have quiet : s.placeReport p r = placed := afterPlacing_of_gridHolds (s := placed) holds _
  rw [quiet]
  exact ⟨holds, rfl⟩

section
variable (s : State) (duration : Nat) (p : Product)

/-- R148 to R153: the record and, while the arbiter makes no choice, the report of the product measured. -/
theorem measure_effect : BesidesMonitor s (s.measure duration p) ∧
    (s.measure duration p).mon p = { s.intervalRecord duration p with
      conditions := ((s.measure duration p).mon p).conditions
      declaration := ((s.measure duration p).mon p).declaration } ∧
    (∀ q, q ≠ p → (s.measure duration p).mon q = { s.mon q with
      conditions := ((s.measure duration p).mon q).conditions
      declaration := ((s.measure duration p).mon q).declaration }) ∧
    (s.gridHolds = true → (s.measure duration p).gridHolds = true ∧
      (s.measure duration p).arbiter.reports = placeIn s.arbiter.reports p (s.intervalReport duration p)) := by
  obtain ⟨u, evaluated, sources, placed⟩ := measure_eq s duration p
  have measured := evaluated.trans (placeReport_egress u p (s.intervalReport duration p)).evaluation
  rw [← placed] at measured
  refine ⟨{ measured.egress with monitor := rfl }, ?_, fun q other => ?_, fun holds => ?_⟩
  · have own := measured.measured p
    rwa [setMon_mon_same] at own
  · have others := measured.measured q
    rwa [setMon_mon_other s other] at others
  · obtain ⟨quiet, held⟩ := sources holds
    rw [placed, ← show u.arbiter.reports = s.arbiter.reports by rw [held]]
    exact placeReport_waits quiet p _

variable {s duration p}

theorem measure_leaves {q : Product} (other : p ≠ q) : LeavesProduct p s (s.measure duration q) := by
  obtain ⟨frame, -, mon, reports⟩ := measure_effect s duration q
  refine ⟨frame, mon p other, fun holds => ?_⟩
  obtain ⟨quiet, placed⟩ := reports holds
  rw [placed]
  exact ⟨quiet, fun r => mem_placeIn_other other⟩

/-- R148: the power delivered depends on the sites and the dispatch records alone. -/
theorem BesidesMonitor.delivered {t : State} (h : BesidesMonitor s t) : t.delivered p = s.delivered p := by
  have fleet : t.fleet = s.fleet := h.fleet
  have allocation : t.allocation = s.allocation := h.allocation
  unfold State.delivered State.attributed State.siteAt
  rw [fleet, allocation]

theorem BesidesMonitor.bank {t : State} (h : BesidesMonitor s t) : t.bank p = s.bank p := by
  have products : t.products = s.products := h.products
  rw [State.bank, State.bank, products]

theorem BesidesMonitor.act {t : State} (h : BesidesMonitor s t) : t.act p = s.act p := by
  have activation : t.activation = s.activation := h.activation
  rw [State.act, State.act, activation]

theorem LeavesProduct.intervalRecord {t : State} (h : LeavesProduct p s t) : t.intervalRecord duration p =
    { s.intervalRecord duration p with
      conditions := (t.mon p).conditions, declaration := (t.mon p).declaration } := by
  rw [State.intervalRecord, h.frame.act, h.frame.delivered, h.frame.bank, h.mon,
    MonitorProduct.afterInterval_conditions]
  rfl

theorem LeavesProduct.intervalReport {t : State} (h : LeavesProduct p s t) :
    t.intervalReport duration p = s.intervalReport duration p := by
  rw [intervalReport_eq, intervalReport_eq, h.intervalRecord, h.frame.act, h.frame.delivered, h.frame.bank]

/-! ## The interval's end over all products (R147) -/

/-- R147: the next interval started, before the products are measured. -/
def State.intervalStarted (s : State) : State :=
  { s with monitor := { s.monitor with
    intervalStart := s.localTime
    intervalExpiry := s.localTime + s.params.performanceInterval * 1000 } }

/-- R147: the products of a list measured one after another. -/
def State.measureAll (s : State) (duration : Nat) (l : List Product) : State :=
  l.foldl (fun t p => t.measure duration p) s

theorem endInterval_eq : s.endInterval =
    s.intervalStarted.measureAll (s.localTime - s.monitor.intervalStart) (allProducts.filter s.measures) := rfl

theorem measureAll_leaves {l : List Product} (absent : p ∉ l) : LeavesProduct p s (s.measureAll duration l) :=
  .foldl (fun q listed _ => measure_leaves fun own : p = q => absent (own ▸ listed)) s

theorem measureAll_besidesMonitor (l : List Product) (s : State) : BesidesMonitor s (s.measureAll duration l) := by
  induction l generalizing s with
  | nil => exact EgressOnly.refl s
  | cons p l ih => exact (measure_effect s duration p).1.trans (ih _)

theorem intervalStarted_leaves : LeavesProduct p s s.intervalStarted :=
  ⟨EgressOnly.refl s, rfl, fun holds => ⟨holds, fun _ => id⟩⟩

/-- R147: a product without obligation and target is not measured. -/
theorem endInterval_unmeasured (h : s.measures p = false) : LeavesProduct p s s.endInterval := by
  rw [endInterval_eq]
  refine intervalStarted_leaves.trans (measureAll_leaves fun listed => ?_)
  rw [(List.mem_filter.1 listed).2] at h
  cases h

/-- R147: a product with an obligation or a target is measured once, from what the interval's end found. -/
theorem endInterval_measured (h : s.measures p = true) :
    s.endInterval.mon p = { s.intervalRecord (s.localTime - s.monitor.intervalStart) p with
      conditions := (s.endInterval.mon p).conditions, declaration := (s.endInterval.mon p).declaration } ∧
    (s.gridHolds = true →
      (p, s.intervalReport (s.localTime - s.monitor.intervalStart) p) ∈ s.endInterval.arbiter.reports) := by
  generalize hd : s.localTime - s.monitor.intervalStart = duration
  have once : (allProducts.filter s.measures).Nodup := .filter _ (by decide)
  obtain ⟨before, after, cut⟩ := List.append_of_mem (List.mem_filter.2 ⟨mem_allProducts p, h⟩)
  rw [cut, List.nodup_middle, List.nodup_cons, List.mem_append, not_or] at once
  obtain ⟨⟨earlier, later⟩, -⟩ := once
  obtain ⟨u, hu⟩ : ∃ u, u = s.intervalStarted.measureAll duration before := ⟨_, rfl⟩
  have whole : s.endInterval = (u.measure duration p).measureAll duration after := by
    rw [endInterval_eq, cut, hd, hu, State.measureAll, List.foldl_append, List.foldl_cons]
    rfl
  have first : LeavesProduct p s u := intervalStarted_leaves.trans (hu ▸ measureAll_leaves earlier)
  have last : LeavesProduct p (u.measure duration p) _ := measureAll_leaves (duration := duration) later
  rw [← whole] at last
  obtain ⟨-, own, -, placed⟩ := measure_effect u duration p
  refine ⟨?_, fun holds => ?_⟩
  · rw [last.mon, own, first.intervalRecord]
  · obtain ⟨quiet, waits⟩ := placed (first.reports holds).1
    refine (last.reports quiet).2 _ ?_
    rw [waits, first.intervalReport]
    exact mem_placeIn _ _ _

theorem endInterval_besidesMonitor : BesidesMonitor s s.endInterval :=
  BesidesMonitor.trans (t := s.intervalStarted) (EgressOnly.refl s) (measureAll_besidesMonitor _ _)

/-- R147: an interval's end that is due is taken. -/
theorem execPerformanceIntervalEnd_due (due : s.monitor.intervalExpiry ≤ s.localTime) :
    exec .performanceIntervalEnd s = .next s.endInterval :=
  congrArg _ (if_pos (decide_eq_true due))

/-- R148: the sum over the slots whose staged offset is not 0. -/
theorem delivered_eq (s : State) (p : Product) : s.delivered p =
    sumOf (s.allocation.records.filter (fun e => decide (e.2.staged ≠ 0))) (fun e => e.2.allocation.get p *
      deliveredPart (match s.siteAt e.1 with
        | none => 0
        | some x => match x.report with
          | none => 0
          | some r => r.appliedOffset) e.2.staged / e.2.staged.natAbs) := by
  have unstaged : ∀ e ∈ s.allocation.records, decide (e.2.staged ≠ 0) = false → s.attributed p e.1 e.2 = 0 :=
    fun e _ none => if_pos (by simpa using none)
  rw [State.delivered, ← sumOf_filter_of_zero _ _ unstaged]
  refine sumOf_congr fun e listed => if_neg ?_
  simpa using (List.mem_filter.1 listed).2

end

/-- Settles O41: each product measured by its record and report, the others left by every measuring. -/
theorem intervalEndMeasuresActiveProducts : Obligations.IntervalEndMeasuresActiveProducts := by
  unfold Obligations.IntervalEndMeasuresActiveProducts
  intro s due
  obtain ⟨-, steady⟩ := endInterval_started s
  have frame : BesidesMonitor s s.endInterval := endInterval_besidesMonitor
  refine ⟨_, execPerformanceIntervalEnd_due due, steady.intervalStart, steady.intervalExpiry, ?_, frame.fleet, frame.time,
    frame.products, frame.census, frame.activation, frame.allocation, frame.params⟩
  intro p m n duration requested applied part delivered deficient count alarmed
  have power : s.delivered p = delivered := delivered_eq s p
  have record : s.intervalRecord duration p = m.afterInterval requested delivered duration (s.bank p) := by
    rw [State.intervalRecord, power]
  rw [MonitorProduct.afterInterval_eq] at record
  have active : s.measures p = true ↔ 0 < (s.act p).obligation ∨ 0 < requested := by
    simp [State.measures, requested]
  cases measured : s.measures p with
  | true =>
    obtain ⟨mon, report⟩ := endInterval_measured measured
    have mon : n = _ := mon
    rw [record] at mon
    refine ⟨fun _ => ?_, fun noObligation noTarget => ?_, by rw [mon]⟩
    · refine ⟨by rw [mon], by rw [mon], by rw [mon], by rw [mon], by rw [mon], fun holds => ?_⟩
      have sent := report holds
      rw [intervalReport_eq, deficientInterval_eq, record, power] at sent
      rw [mon]
      exact sent
    · have := active.1 measured
      omega
  | false =>
    have mon : n = _ := (endInterval_unmeasured measured).mon
    refine ⟨fun some => ?_, fun _ _ => ?_, by rw [mon]⟩
    · rw [active.2 some] at measured
      cases measured
    · rw [mon]
      exact ⟨rfl, rfl, rfl, rfl, rfl⟩

end Sys2Proof.Machine

/-! # Links and frames: the checks of a frame, the frames its owner discards, the envelope, and a port that goes DOWN

First the discarded frames and their classes (R164 to R171, R183), then the envelope's round trip (R167, R196), and
last a port that goes DOWN (R136, R156, R172 to R174). -/

namespace Sys2Proof.Machine

/-! ## Discarded frames (R164, R169 to R171) -/

/-- R171: a class joins the summary, and the count rises unless the frame showed a class before. -/
theorem record_shown (e : Engine) (c : ErrClass) (shown : Bool) : e.record c shown = { e with
    summary := e.summary ||| (1#9 <<< c.bit)
    count := if shown = false ∧ e.count < 4095 then e.count + 1 else e.count
    overflow := if shown = false ∧ 4095 ≤ e.count then true else e.overflow } := by
  cases shown with
  | true => simp [Engine.record, Engine.addClass]
  | false => rw [record_counted]; simp

theorem gridHead_of_buffer {s : State} {f : Frame} {rest : List Frame} (buffer : s.links.grid.buffer = f :: rest) :
    s.gridHead f.kind = some f := by
  rw [State.gridHead, buffer]
  exact if_pos rfl

theorem dropHead_grid {s : State} {f : Frame} {rest : List Frame} (buffer : s.links.grid.buffer = f :: rest) :
    s.dropHead .grid = { s with links := { s.links with grid := { s.links.grid with buffer := rest } } } := by
  change s.setEngine .grid { s.links.grid with buffer := s.links.grid.buffer.drop 1 } = _
  rw [buffer]
  rfl

/-- R168, R171: the frame at the head of the Grid buffer leaves it, and its owner reports a class. -/
theorem dropHead_reportClass {s : State} {f : Frame} {rest : List Frame} (buffer : s.links.grid.buffer = f :: rest)
    (c : ErrClass) (shown : Bool) : (s.dropHead .grid).reportClass .grid c shown =
      { s with links := { s.links with grid := { s.links.grid with
          buffer := rest
          summary := s.links.grid.summary ||| (1#9 <<< c.bit)
          count := if shown = false ∧ s.links.grid.count < 4095 then s.links.grid.count + 1 else s.links.grid.count
          overflow := if shown = false ∧ 4095 ≤ s.links.grid.count then true else s.links.grid.overflow } } } := by
  rw [dropHead_grid buffer, State.reportClass, record_shown]
  rfl

/-! ## The envelope's checks (R164) -/

/-- R164: a frame that fails a check is reported with the class of that check. -/
theorem execFrameReceived_failed {port : Port} {o : Octets} {c : ErrClass} (failed : judgeFrame port o = .error c)
    (s : State) : exec (.frameReceived port o) s = .next (s.setEngine port ((s.engine port).record c false)) := by
  change execFrameReceived port o s = _
  rw [execFrameReceived, failed]
  rfl

/-- R164, check 3: the length field is in its range and agrees with the octets delivered. -/
def countFits (o : Octets) : Prop :=
  fieldAt o 3 2 ≤ 1024 ∧ o.length = (if fieldAt o 3 2 = 0 then 6 else 6 + fieldAt o 3 2 + 2)

/-- R164, check 4: the footer is that of the payload, or there is none. -/
def footerFits (o : Octets) : Prop :=
  fieldAt o 3 2 = 0 ∨ (crc16 (slice o 6 (fieldAt o 3 2))).toNat = fieldAt o (6 + fieldAt o 3 2) 2

section Judged
variable {port : Port} {o : Octets}

theorem judgeFrame_short (short : o.length < 6) : judgeFrame port o = .error .length := if_pos short

variable (long : 6 ≤ o.length)
include long

theorem judgeFrame_header (wrong : crc8 (o.take 5) ≠ BitVec.ofNat 8 (fieldAt o 5 1)) :
    judgeFrame port o = .error .headerCheck := by
  rw [judgeFrame, if_neg (Nat.not_lt_of_le long), if_pos wrong]

variable (header : crc8 (o.take 5) = BitVec.ofNat 8 (fieldAt o 5 1))
include header

theorem judgeFrame_count (wrong : ¬ countFits o) : judgeFrame port o = .error .length := by
  rw [judgeFrame, if_neg (Nat.not_lt_of_le long), if_neg (not_not_intro header), if_pos]
  unfold countFits at wrong
  omega

variable (count : countFits o)
include count

theorem judgeFrame_footer (wrong : ¬ footerFits o) : judgeFrame port o = .error .footerCheck := by
  obtain ⟨bound, length⟩ := count
  rw [judgeFrame, if_neg (Nat.not_lt_of_le long), if_neg (not_not_intro header), if_neg (by omega), if_pos]
  exact not_or.1 wrong

/-- R164, R165: once checks 1 to 4 pass, channel and kind decide. -/
theorem judgeFrame_checked (footer : footerFits o) : judgeFrame port o =
    if channelUsed port (fieldAt o 1 1) = false then .error .channel
    else match acceptedKind port (fieldAt o 1 1) (fieldAt o 0 1) with
      | none => .error .unknownKind
      | some k => .ok { kind := k, channel := fieldAt o 1 1, sequence := fieldAt o 2 1
                        payload := slice o 6 (fieldAt o 3 2), flagged := false } := by
  obtain ⟨bound, length⟩ := count
  rw [judgeFrame, if_neg (Nat.not_lt_of_le long), if_neg (not_not_intro header), if_neg (by omega),
    if_neg (by unfold footerFits at footer; tauto)]
  cases channelUsed port (fieldAt o 1 1) <;> rfl

end Judged

/-- Settles O6, check by check. -/
theorem frameFailingACheckIsDiscarded : Obligations.FrameFailingACheckIsDiscarded := by
  unfold Obligations.FrameFailingACheckIsDiscarded
  intro port o s outcome len headerGood countGood footerGood
  have failed {c : ErrClass} (judged : judgeFrame port o = .error c) : outcome c := execFrameReceived_failed judged s
  refine ⟨fun short => failed (judgeFrame_short short), fun long wrong => failed (judgeFrame_header long wrong),
    fun long header wrong => failed (judgeFrame_count long header wrong),
    fun long header count wrong => failed (judgeFrame_footer long header count wrong),
    fun long header count footer unused => failed ?_, fun long header count footer used unaccepted => failed ?_⟩
  · rw [judgeFrame_checked long header count footer, if_pos unused]
  · rw [judgeFrame_checked long header count footer, if_neg (ne_false_of_eq_true used), unaccepted]

/-! ## Grid frames out of format (R170) -/

theorem resultOutcome_unlisted {n : Nat} (unlisted : n = 0 ∨ 4 < n) : ResultOutcome.ofCode n = none := by
  rcases unlisted with rfl | above
  · rfl
  · obtain ⟨m, rfl⟩ : ∃ m, n = m + 5 := ⟨n - 5, by omega⟩
    rfl

/-- R170: what a Grid command does with a frame out of its kind's format. -/
def Discards (command : Instr) (s : State) (f : Frame) : Prop :=
  exec command s = .next ((s.dropHead .grid).reportClass .grid .payload f.flagged)

section OutOfFormat
variable {s : State} {f : Frame}

theorem clockMark_discards (head : s.gridHead .clockMark = some f) (wrong : f.payload.length ≠ 6) :
    Discards .clockMark s f := by
  change execClockMark s = _
  rw [execClockMark, head]
  exact if_pos wrong

theorem activationOrder_discards (head : s.gridHead .activationOrder = some f) (wrong : f.payload.length ≠ 16) :
    Discards .activationOrder s f := by
  change execActivationOrder s = _
  rw [execActivationOrder, head]
  exact if_pos wrong

theorem activationEnd_discards (head : s.gridHead .activationEnd = some f) (wrong : f.payload.length ≠ 6) :
    Discards .activationEnd s f := by
  change execActivationEnd s = _
  rw [execActivationEnd, head]
  exact if_pos wrong

theorem offerResult_discards (head : s.gridHead .offerResult = some f)
    (wrong : f.payload.length ≠ 9 ∨ fieldAt f.payload 2 1 = 0 ∨ 4 < fieldAt f.payload 2 1) :
    Discards .offerResult s f := by
  change execOfferResult s = _
  rw [execOfferResult, head]
  dsimp only
  split
  · rfl
  · next length => rw [resultOutcome_unlisted (wrong.resolve_left length)]

end OutOfFormat

/-- Settles O7, kind by kind. -/
theorem framesOutOfFormatAreReported : Obligations.FramesOutOfFormatAreReported := by
  unfold Obligations.FramesOutOfFormatAreReported
  intro s f rest command kind length listed buffer isKind wrong e
  have head : s.gridHead kind = some f := isKind ▸ gridHead_of_buffer buffer
  have discards : Discards command s f := by
    simp only [List.mem_cons, Prod.mk.injEq, List.not_mem_nil, or_false] at listed
    rcases listed with ⟨rfl, rfl, rfl⟩ | ⟨rfl, rfl, rfl⟩ | ⟨rfl, rfl, rfl⟩ | ⟨rfl, rfl, rfl⟩
    · exact clockMark_discards head (wrong.resolve_right nofun)
    · exact offerResult_discards head (wrong.imp_right And.right)
    · exact activationOrder_discards head (wrong.resolve_right nofun)
    · exact activationEnd_discards head (wrong.resolve_right nofun)
  rw [discards, dropHead_reportClass buffer]
  rfl

/-! ## REQUEST_ENQUEUE (R169, R183) -/

/-- R183: a REQUEST at the head of the Grid buffer leaves it, for the queue or for none. -/
theorem requestEnqueue_head {s : State} {f : Frame} (head : s.gridHead .request = some f) :
    exec .requestEnqueue s = .next (if s.management.queue.length < 8
      then (s.dropHead .grid).setManagement { (s.dropHead .grid).management with
        queue := (s.dropHead .grid).management.queue ++
          [{ sequence := f.sequence, payload := f.payload, flagged := f.flagged }] }
      else (s.dropHead .grid).reportClass .grid .requestOverflow f.flagged) := by
  change execRequestEnqueue s = _
  rw [execRequestEnqueue, head]
  exact (apply_ite _ _ _ _).symm

/-- Settles O44, on both sides of eight waiting requests. -/
theorem requestJoinsTheQueueOrOverflows : Obligations.RequestJoinsTheQueueOrOverflows := by
  unfold Obligations.RequestJoinsTheQueueOrOverflows
  intro s f rest buffer isKind e
  have head : s.gridHead .request = some f := isKind ▸ gridHead_of_buffer buffer
  rw [requestEnqueue_head head]
  constructor
  · intro room
    rw [if_pos room, dropHead_grid buffer]
    rfl
  · intro full
    rw [if_neg (Nat.not_lt_of_le full), dropHead_reportClass buffer]
    rfl

/-! ## Fields of octets -/

@[simp] theorem octetsOf_length (w n : Nat) : (octetsOf w n).length = w := by
  induction w with
  | zero => rfl
  | succ w ih => simp [octetsOf, ih]

theorem unsignedOf_append (a b : Octets) : unsignedOf (a ++ b) = unsignedOf a * 256 ^ b.length + unsignedOf b := by
  induction b using List.reverseRecOn with
  | nil => simp [unsignedOf]
  | append_singleton b x ih =>
    have last (l : Octets) : unsignedOf (l ++ [x]) = unsignedOf l * 256 + x.toNat := by simp [unsignedOf]
    rw [← List.append_assoc, last, last, ih, List.length_append, List.length_singleton, pow_succ]
    ring

/-- The octets of a number, read back, give it modulo the field's width. -/
theorem unsignedOf_octetsOf (w n : Nat) : unsignedOf (octetsOf w n) = n % 256 ^ w := by
  induction w with
  | zero => simp [octetsOf, unsignedOf, Nat.mod_one]
  | succ w ih =>
    have first : unsignedOf [BitVec.ofNat 8 (n / 256 ^ w)] = n / 256 ^ w % 256 := by simp [unsignedOf]
    rw [octetsOf, ← List.singleton_append, unsignedOf_append, first, ih, octetsOf_length, Nat.pow_succ, Nat.mod_mul]
    ring

theorem octetsOf_one_toNat (b : BitVec 8) : octetsOf 1 b.toNat = [b] := by simp [octetsOf]

@[simp] theorem slice_append_right {a b : Octets} {at0 : Nat} (past : a.length ≤ at0) (w : Nat) :
    slice (a ++ b) at0 w = slice b (at0 - a.length) w := by
  rw [slice, List.drop_append, List.drop_eq_nil_of_le past, List.nil_append, slice]

@[simp] theorem slice_append_left {a : Octets} {w : Nat} (width : a.length = w) (b : Octets) : slice (a ++ b) 0 w = a :=
  List.take_left' width

/-! ## The envelope (section 11.1) -/

section Envelope
variable (k : FrameKind) (channel sequence : Nat) (payload : Octets)

/-- The first five octets of an envelope, which the header check is made of. -/
def envelopeHeader : Octets :=
  octetsOf 1 k.code ++ (octetsOf 1 channel ++ (octetsOf 1 sequence ++ octetsOf 2 payload.length))

/-- What stands after the header check: nothing, or the payload with its footer. -/
def envelopeTrailer : Octets :=
  if payload.isEmpty then [] else payload ++ octetsOf 2 (crc16 payload).toNat

/-- R167: the fields of an envelope, in their order. -/
theorem envelope_eq : envelope k channel sequence payload =
    octetsOf 1 k.code ++ (octetsOf 1 channel ++ (octetsOf 1 sequence ++ (octetsOf 2 payload.length ++
      (octetsOf 1 (crc8 (envelopeHeader k channel sequence payload)).toNat ++ envelopeTrailer payload)))) := by
  rw [octetsOf_one_toNat]
  simp [envelope, envelopeHeader, envelopeTrailer]

/-- What `fieldAt` reads of the five fields of the header. -/
theorem envelope_fields (code : k.code < 256) (channels : channel < 256) (sequences : sequence < 256)
    (fits : payload.length ≤ 1024) :
    let o := envelope k channel sequence payload
    fieldAt o 0 1 = k.code ∧ fieldAt o 1 1 = channel ∧ fieldAt o 2 1 = sequence ∧ fieldAt o 3 2 = payload.length ∧
    fieldAt o 5 1 = (crc8 (envelopeHeader k channel sequence payload)).toNat := by
  have check := (crc8 (envelopeHeader k channel sequence payload)).isLt
  simp only [envelope_eq, fieldAt, octetsOf_length, slice_append_right, slice_append_left, unsignedOf_octetsOf,
    Nat.reduceLeDiff, Nat.reduceSub]
  omega

theorem envelope_take : (envelope k channel sequence payload).take 5 = envelopeHeader k channel sequence payload := by
  have split : envelope k channel sequence payload = envelopeHeader k channel sequence payload ++
      ([crc8 (envelopeHeader k channel sequence payload)] ++ envelopeTrailer payload) := by
    rw [envelope_eq, octetsOf_one_toNat]
    simp only [envelopeHeader, List.append_assoc]
  rw [split]
  exact List.take_left' (by simp [envelopeHeader])

/-- What stands from octet 6 on is the payload with its footer. -/
theorem envelope_trailing (at0 w : Nat) :
    slice (envelope k channel sequence payload) (6 + at0) w = slice (envelopeTrailer payload) at0 w := by
  rw [envelope_eq]
  iterate 5 rw [slice_append_right (by simp only [octetsOf_length]; omega), octetsOf_length]
  congr 1
  omega

theorem envelope_payload : slice (envelope k channel sequence payload) 6 payload.length = payload := by
  rw [envelope_trailing k channel sequence payload 0, envelopeTrailer]
  cases payload with
  | nil => rfl
  | cons b p => exact slice_append_left rfl _

variable {k channel sequence payload}

theorem envelope_countFits (fits : payload.length ≤ 1024)
    (length : fieldAt (envelope k channel sequence payload) 3 2 = payload.length) :
    countFits (envelope k channel sequence payload) := by
  rw [countFits, length, envelope_eq, envelopeTrailer]
  refine ⟨fits, ?_⟩
  cases payload with
  | nil => simp
  | cons b p => simp; omega

theorem envelope_footerFits (length : fieldAt (envelope k channel sequence payload) 3 2 = payload.length) :
    footerFits (envelope k channel sequence payload) := by
  rw [footerFits, length, envelope_payload]
  cases payload with
  | nil => exact .inl rfl
  | cons b p =>
    right
    have footer : slice (b :: p ++ octetsOf 2 (crc16 (b :: p)).toNat) (b :: p).length 2 =
        octetsOf 2 (crc16 (b :: p)).toNat := by
      rw [slice, List.drop_left]
      rfl
    rw [fieldAt, envelope_trailing, envelopeTrailer, if_neg nofun, footer, unsignedOf_octetsOf]
    exact (Nat.mod_eq_of_lt (crc16 (b :: p)).isLt).symm

end Envelope

theorem FrameKind.code_lt (k : FrameKind) : k.code < 256 := by cases k <;> decide

/-- R165: a kind is accepted only on a channel its port uses, 0 or 2. -/
theorem channel_of_accepted {port : Port} {channel code : Nat} {k : FrameKind}
    (accepted : acceptedKind port channel code = some k) : channelUsed port channel = true ∧ channel < 256 := by
  cases port with
  | fleet | meter =>
    simp only [acceptedKind, Option.ite_none_right_eq_some] at accepted
    obtain ⟨⟨rfl, -⟩, -⟩ := accepted
    exact ⟨rfl, by decide⟩
  | grid =>
    unfold acceptedKind at accepted
    dsimp only at accepted
    split at accepted
    · next request => exact request ▸ ⟨rfl, by decide⟩
    · split at accepted
      · next market => exact market ▸ ⟨rfl, by decide⟩
      · cases accepted

/-- Settles O8: the envelope passes checks 1 to 4, and the fields read are those written. -/
theorem envelopeRoundTrip : Obligations.EnvelopeRoundTrip := by
  unfold Obligations.EnvelopeRoundTrip
  intro port k channel sequence payload accepted sequences fits
  obtain ⟨used, channels⟩ := channel_of_accepted accepted
  obtain ⟨code, channel', sequence', length, check⟩ :=
    envelope_fields k channel sequence payload k.code_lt channels sequences fits
  have count := envelope_countFits fits length
  have long : 6 ≤ (envelope k channel sequence payload).length := by
    obtain ⟨-, octets⟩ := count
    split at octets <;> omega
  have header : crc8 ((envelope k channel sequence payload).take 5) =
      BitVec.ofNat 8 (fieldAt (envelope k channel sequence payload) 5 1) := by
    rw [check, envelope_take, BitVec.ofNat_toNat, BitVec.setWidth_eq]
  rw [judgeFrame_checked long header count (envelope_footerFits length), code, channel', sequence', length,
    envelope_payload, if_neg (ne_false_of_eq_true used), accepted]

end Sys2Proof.Machine

namespace Sys2Proof.Machine

/-! ## An evaluation that queues no frame, and notices that wait (R156, R158, R178) -/

/-- While the arbiter makes no choice, only the Monitor and the Management Unit change. -/
def Waits (s t : State) : Prop :=
  s.gridHolds = true → t = { s with monitor := t.monitor, management := t.management }

theorem Waits.refl (s : State) : Waits s s := fun _ => rfl

theorem Waits.trans {s t u : State} (h : Waits s t) (k : Waits t u) : Waits s u := fun holds => by
  have first := h holds
  have holds' : t.gridHolds = true := by
    rw [first]
    exact holds
  rw [k holds', first]

theorem Waits.foldl {α : Type} {f : State → α → State} (h : ∀ s a, Waits s (f s a)) (l : List α) (s : State) :
    Waits s (l.foldl f s) := by
  induction l generalizing s with
  | nil => exact .refl s
  | cons a l ih => exact (h s a).trans (ih _)

theorem post_waits (s : State) (n : Notice) : Waits s (s.post n) := fun holds => by
  obtain ⟨m, posted, -⟩ := post_of_gridHolds holds n
  rw [posted]

theorem declared_waits (s : State) : Waits s s.declared := by
  have noted (t : State) (p : Product) :=
    postConditionChange_rel .refl .trans post_waits t p (s.mon p).conditions (s.conditionsOf p)
  have recomputed : Waits s s.recomputed := fun _ => rfl
  exact recomputed.trans ((Waits.foldl noted _ _).trans fun _ => rfl)

theorem declared_heartbeatExpiry (s : State) : s.declared.monitor.heartbeatExpiry = s.monitor.heartbeatExpiry := by
  have kept := congrArg Monitor.heartbeatExpiry (changesNoted_egress s).monitor
  exact kept

/-- R156, R159: an evaluation queues a frame only when a declaration changed. -/
theorem evaluate_false (s : State) : s.evaluate false =
    if allProducts.any (fun p => decide ((s.declared.mon p).declaration ≠ (s.mon p).declaration)) = true
      then s.declared.queueAvailability else s.declared := rfl

theorem evaluate_declaration (s : State) (p : Product) :
    ((s.evaluate false).mon p).declaration = (s.declared.mon p).declaration := by
  rw [evaluate_false]
  split
  · rw [queueAvailability_mon]
  · rfl

theorem evaluate_undeclared {s : State}
    (same : ∀ p, ((s.evaluate false).mon p).declaration = (s.mon p).declaration) : s.evaluate false = s.declared := by
  simp only [evaluate_declaration] at same
  rw [evaluate_false, if_neg (by simp [same])]

/-- R159: while the arbiter makes no choice, a frame queued waits in its source, and nothing else of the egress but the
notices changes. -/
theorem evaluate_waits {s : State} (holds : s.gridHolds = true) : ∃ a, s.evaluate false =
    { s with
      monitor := (s.evaluate false).monitor
      management := (s.evaluate false).management
      arbiter := { s.arbiter with availability := a } } := by
  have declared := declared_waits s holds
  rw [evaluate_false]
  split
  · refine ⟨some s.declared.availabilityEntries, ?_⟩
    have holds' : s.declared.gridHolds = true := by
      rw [declared]
      exact holds
    rw [State.queueAvailability, State.placeAvailability, afterPlacing_of_gridHolds (by exact holds'), declared]
  · exact ⟨s.arbiter.availability, declared⟩

/-- R193: a notice whose kind the mask holds is the last one queued, unless it is discarded. -/
theorem post_last {s : State} {n : Notice} (holds : s.gridHolds = true)
    (held : maskHolds s.params.noticeMask n = true) (kept : (s.post n).management.noticeDiscarded = false) :
    (s.post n).management.notices.getLast? = some n := by
  by_cases room : s.management.notices.length < Config.noticeQueueSize
  · obtain ⟨m, posted, queued⟩ := post_of_gridHolds holds n
    rw [posted, queued held room]
    exact List.getLast?_concat
  · rw [post_discarded held (Nat.le_of_not_lt room)] at kept
    cases kept

/-! ## A port that goes DOWN (R136, R172) -/

/-- R136: every dispatch record's timer stops when the Fleet Port goes DOWN. -/
theorem stopTimers_expiry (t : Table DispatchRecord) (slot : Nat) :
    (Table.readOr (mapRecords t DispatchRecord.stopTimer) DispatchRecord.reset slot).expiry = none := by
  cases found : Table.find (mapRecords t DispatchRecord.stopTimer) slot with
  | none =>
    rw [Table.readOr, found]
    rfl
  | some d =>
    obtain ⟨e, -, stopped⟩ := List.mem_filterMap.1 (Table.mem_of_find found)
    obtain ⟨-, entry⟩ := Option.ite_none_left_eq_some.1 stopped
    cases entry
    rw [Table.readOr, found]
    rfl

/-- A port with Frame Engine `e` gone DOWN, before the Monitor evaluates and the notice is posted: its transmitter is
empty, at the Fleet Port the release ends and the dispatch records are `records`, and the Monitor is told. -/
def State.wentDown (s : State) (port : Port) (e : Engine) (records : Table DispatchRecord) : State :=
  let v := s.setEngine port e
  { v with
    links := { v.links with
      fleetTx := if port = .fleet then none else s.links.fleetTx
      gridTx := if port = .grid then none else s.links.gridTx }
    allocation := if port = .fleet
      then { s.allocation with emission := none, catchUp := true, records := records }
      else s.allocation
    monitor := { s.monitor with
      fleetUp := s.monitor.fleetUp && decide (port ≠ .fleet)
      meterUp := s.monitor.meterUp && decide (port ≠ .meter) } }

section WentDown
variable (s : State) (port : Port) (e : Engine) (records : Table DispatchRecord)

@[simp] theorem State.wentDown_book : (s.wentDown port e records).book = s.book := by cases port <;> rfl
@[simp] theorem State.wentDown_arbiter : (s.wentDown port e records).arbiter = s.arbiter := by cases port <;> rfl
@[simp] theorem State.wentDown_params : (s.wentDown port e records).params = s.params := by cases port <;> rfl
@[simp] theorem State.wentDown_bank (p : Product) : (s.wentDown port e records).bank p = s.bank p := by
  cases port <;> rfl

theorem State.wentDown_gridHolds (aside : port ≠ .grid) : (s.wentDown port e records).gridHolds = s.gridHolds := by
  cases port with
  | grid => exact absurd rfl aside
  | fleet | meter => rfl

end WentDown

/-- R136: the dispatch records with every timer stopped. -/
def State.stoppedRecords (s : State) : Table DispatchRecord := mapRecords s.allocation.records DispatchRecord.stopTimer

/-- R172: the Grid Port that goes DOWN is told of in a notice. -/
theorem goDown_grid (s : State) (x : Engine) (c : LinkCause) : (s.setEngine .grid x).goDown .grid c =
    (s.wentDown .grid x.down s.stoppedRecords).post (.linkChange .grid false c) := by
  have told : s.wentDown .grid x.down s.stoppedRecords = (s.setEngine .grid x.down).emptyTransmitter .grid := by
    simp [State.wentDown, State.emptyTransmitter, State.setEngine]
  rw [told]
  rfl

/-- R136, R172: another port that goes DOWN is told of in an evaluation, then in a notice. -/
theorem goDown_aside {port : Port} (aside : port ≠ .grid) (s : State) (x : Engine) (c : LinkCause) :
    (s.setEngine port x).goDown port c =
      ((s.wentDown port x.down s.stoppedRecords).evaluate false).post (.linkChange port false c) := by
  cases port with
  | grid => exact absurd rfl aside
  | fleet =>
    have told : s.wentDown .fleet x.down s.stoppedRecords =
        { (s.setEngine .fleet x.down).emptyTransmitter .fleet |>.fleetWentDown with
          monitor := { s.monitor with fleetUp := false } } := by
      simp [State.wentDown, State.stoppedRecords, State.fleetWentDown, State.emptyTransmitter, State.setEngine]
    rw [told]
    rfl
  | meter =>
    have told : s.wentDown .meter x.down s.stoppedRecords =
        { s.setEngine .meter x.down with monitor := { s.monitor with meterUp := false } } := by
      simp [State.wentDown, State.setEngine]
    rw [told]
    rfl

/-- R136, R156, R172: the evaluation and the notice that follow a link change, the Grid Port's aside. -/
theorem evaluate_post_effect (w : State) (n : Notice) :
    let t := (w.evaluate false).post n
    let undeclared : Prop := ∀ p : Product, (t.mon p).declaration = (w.mon p).declaration
    EvaluationOnly w t ∧ (∀ p : Product, (t.mon p).conditions = w.conditionsOf p) ∧
    (undeclared → t.monitor.heartbeatExpiry = w.monitor.heartbeatExpiry) ∧
    (w.gridHolds = true → t.links = w.links ∧ t.book = w.book ∧
      t.arbiter = { w.arbiter with availability := t.arbiter.availability } ∧ (undeclared → t.arbiter = w.arbiter) ∧
      (maskHolds w.params.noticeMask n = true → t.management.noticeDiscarded = false →
        t.management.notices.getLast? = some n)) := by
  intro t undeclared
  have evaluated := evaluate_evaluation w false
  have posted := post_egress (w.evaluate false) n
  have mon (p : Product) : t.mon p = (w.evaluate false).mon p := by rw [State.mon, posted.monitor, State.mon]
  have still : undeclared → w.evaluate false = w.declared := fun same =>
    evaluate_undeclared fun p => (congrArg _ (mon p)).symm.trans (same p)
  refine ⟨evaluated.trans posted.evaluation, fun p => by rw [mon p, evaluate_conditions], fun same => ?_,
    fun holds => ?_⟩
  · rw [posted.monitor, still same, declared_heartbeatExpiry]
  · obtain ⟨a, shape⟩ := evaluate_waits holds
    have holds' : (w.evaluate false).gridHolds = true := by
      rw [shape]
      exact holds
    have shape' : t = { w.evaluate false with monitor := t.monitor, management := t.management } :=
      post_waits _ n holds'
    refine ⟨by rw [shape', shape], by rw [shape', shape], by rw [shape', shape], fun same => ?_, fun held kept => ?_⟩
    · rw [shape', still same, declared_waits w holds]
    · rw [← evaluated.egress.params] at held
      exact post_last holds' held kept

/-- R172: what follows a port's going DOWN: an evaluation, the Grid Port's aside, and the notice. -/
theorem goDown_evaluation (s : State) (port : Port) (x : Engine) (c : LinkCause) :
    EvaluationOnly (s.wentDown port x.down s.stoppedRecords) ((s.setEngine port x).goDown port c) := by
  by_cases grid : port = .grid
  · subst grid
    rw [goDown_grid]
    exact (post_egress _ _).evaluation
  · rw [goDown_aside grid]
    exact (evaluate_post_effect _ _).1

/-- R172: the Frame Engine is the one gone DOWN; at the Grid Port no response takes its summary. -/
theorem goDown_engine (s : State) (port : Port) (x : Engine) (c : LinkCause) :
    ((s.setEngine port x).goDown port c).engine port = x.down := by
  have frame := (goDown_evaluation s port x c).egress
  cases port with
  | fleet => exact frame.fleetEngine
  | meter => exact frame.meterEngine
  | grid =>
    have waits := post_waits (s.wentDown .grid x.down s.stoppedRecords) (.linkChange .grid false c) rfl
    rw [goDown_grid, waits]
    rfl

/-- R136: at the Fleet Port every dispatch record's timer stops, and it keeps the rest. -/
theorem goDown_dispatch (s : State) (x : Engine) (c : LinkCause) (slot : Nat) :
    let t := (s.setEngine .fleet x).goDown .fleet c
    (t.dispatch slot).expiry = none ∧
    (s.tablesHeld → t.dispatch slot = { s.dispatch slot with expiry := none }) := by
  intro t
  have read : t.dispatch slot =
      Table.readOr s.stoppedRecords DispatchRecord.reset slot := by
    rw [State.dispatch, (goDown_evaluation s .fleet x c).egress.allocation]
    rfl
  rw [read]
  refine ⟨stopTimers_expiry _ _, fun ⟨form, _⟩ => ?_⟩
  exact readOr_mapRecords (Table.wf_of_wfOr form) rfl slot

theorem exec_signalLoss_up {s : State} {port : Port} (up : (s.engine port).up = true) : exec (.signalLoss port) s =
    .next ((s.setEngine port { s.engine port with signal := false }).goDown port .signalLoss) :=
  congrArg Host.Outcome.next (if_pos up)

theorem exec_linkTimeout_due {s : State} {port : Port} {expiry : Nat} (up : (s.engine port).up = true)
    (set : (s.engine port).expiry = some expiry) (due : expiry ≤ s.localTime) :
    exec (.linkTimeout port) s = .next ((s.setEngine port (s.engine port)).goDown port .timeout) := by
  have reached : s.linkOver port = true := by simp [State.linkOver, up, set, due]
  rw [setEngine_self]
  exact congrArg Host.Outcome.next (if_pos reached)

theorem wentDown_records (s : State) (port : Port) (x : Engine) (c : LinkCause) :
    s.wentDown port x.down ((s.setEngine port x).goDown port c).allocation.records =
      s.wentDown port x.down s.stoppedRecords := by
  have records := congrArg Allocation.records (goDown_evaluation s port x c).egress.allocation
  dsimp only at records
  rw [records]
  cases port <;> rfl

/-- Settles O5: what the port's going DOWN makes of the state, then the evaluation and the notice that follow. -/
theorem upPortGoesDownAndSignalsAreNoted : Obligations.UpPortGoesDownAndSignalsAreNoted := by
  unfold Obligations.UpPortGoesDownAndSignalsAreNoted
  refine ⟨fun port s => ⟨rfl, fun down => congrArg _ (if_neg (ne_true_of_eq_false down))⟩, ?_⟩
  intro port s up wentDown
  have falls (x : Engine) (cause : LinkCause) (kept : x = { s.engine port with signal := x.signal }) :
      wentDown x.signal cause ((s.setEngine port x).goDown port cause) := by
    unfold wentDown
    intro e v u
    have engine : e = x.down := by
      rw [kept]
      rfl
    have same : u = s.wentDown port x.down s.stoppedRecords := by
      rw [← wentDown_records s port x cause, ← engine]
      rfl
    rw [same, engine]
    refine ⟨goDown_engine s port x cause, fun slot fleet => fleet ▸ goDown_dispatch s x cause slot,
      fun grid => grid ▸ goDown_grid s x cause, fun aside => ?_⟩
    obtain ⟨evaluated, conditions, heartbeat, waits⟩ :=
      evaluate_post_effect (s.wentDown port x.down s.stoppedRecords) (.linkChange port false cause)
    rw [← goDown_aside aside] at evaluated conditions heartbeat waits
    obtain ⟨fleetUp, meterUp⟩ := evaluated.portStates
    rw [s.wentDown_gridHolds port _ _ aside, State.wentDown_book, State.wentDown_arbiter,
      State.wentDown_params] at waits
    refine ⟨evaluated, fun p => ?_, heartbeat, waits⟩
    rw [conditions p, conditionsOf_meterLinkDown, State.wentDown_bank, fleetUp, meterUp]
    exact ⟨rfl, .rfl⟩
  exact ⟨⟨_, exec_signalLoss_up up, falls { s.engine port with signal := false } .signalLoss rfl⟩,
    fun expiry set due => ⟨_, exec_linkTimeout_due up set due, falls (s.engine port) .timeout rfl⟩⟩

end Sys2Proof.Machine

/-! # Proofs about in-band management: the request queue, windows, writes and reads record by record

First when a request command acts at all (R183 to R185), then the window and the return limit (R187, R189), the records
of a write and of a read (R188, R189), and last what a stop between two records leaves (R184). -/

namespace Sys2Proof.Machine

/-! ## Whose turn it is (R183, R184) -/

theorem fieldAt_head (b : BitVec 8) (o : Octets) : fieldAt (b :: o) 0 1 = b.toNat := by
  simp [fieldAt, slice, unsignedOf]

/-- R183: the request code is the payload's first octet. -/
theorem requestCode_of_ne_nil {o : Octets} (h : o ≠ []) : requestCode o = some (fieldAt o 0 1) := by
  cases o with
  | nil => exact absurd rfl h
  | cons b o => rw [fieldAt_head]; rfl

theorem ne_nil_of_nextOf {s : State} {r : PendingRequest} {code : Nat} (next : s.nextOf code = some r) :
    r.payload ≠ [] := fun empty => by
  have named := requestCode_of_nextOf next
  rw [empty] at named
  cases named

/-- R184: while a request is in execution or a response waits, and while none is queued, no request may begin. -/
theorem nextRequest_none {s : State} (h : s.management.inExecution.isSome = true ∨ s.arbiter.response.isSome = true ∨
    s.management.queue = []) : s.nextRequest = none := by
  unfold State.nextRequest
  rcases h with busy | waits | empty
  · rw [Option.isNone_eq_false_iff.2 busy]; rfl
  · rw [Option.isNone_eq_false_iff.2 waits, Bool.and_false]; rfl
  · rw [empty]; exact ite_self none

theorem nextRequest_head {s : State} {r : PendingRequest} {rest : List PendingRequest}
    (idle : s.management.inExecution = none) (free : s.arbiter.response = none)
    (queue : s.management.queue = r :: rest) : s.nextRequest = some r := by
  rw [State.nextRequest, idle, free, queue]
  rfl

theorem nextOf_none {s : State} (h : s.nextRequest = none) (code : Nat) : s.nextOf code = none := by
  rw [State.nextOf, h]
  rfl

theorem nextOf_of_nextRequest {s : State} {r : PendingRequest} {code : Nat} (next : s.nextRequest = some r)
    (named : requestCode r.payload = some code) : s.nextOf code = some r := by
  simp [State.nextOf, next, named]

/-- R184: a request begins only while none is in execution. -/
theorem idle_of_nextOf {s : State} {r : PendingRequest} {code : Nat} (next : s.nextOf code = some r) :
    s.management.inExecution = none := by
  cases busy : s.management.inExecution with
  | none => rfl
  | some x =>
    rw [nextOf_none (nextRequest_none (.inl (by rw [busy]; rfl)))] at next
    cases next

theorem inProgress_of_idle {s : State} (idle : s.management.inExecution = none) (code : Nat) :
    s.inProgress code = none := by
  rw [State.inProgress, idle]
  rfl

theorem inProgress_same {s : State} {x : InExecution} {code : Nat} (busy : s.management.inExecution = some x)
    (named : requestCode x.request.payload = some code) : s.inProgress code = some x := by
  simp [State.inProgress, busy, named]

theorem inProgress_other {s : State} {x : InExecution} {code : Nat} (busy : s.management.inExecution = some x)
    (other : requestCode x.request.payload ≠ some code) : s.inProgress code = none := by
  simp [State.inProgress, busy, other]

/-- R183: a payload that begins with another octet does not name the code. -/
theorem requestCode_ne {o : Octets} {code : Nat} (h : o.head? ≠ some (BitVec.ofNat 8 code)) :
    requestCode o ≠ some code := fun named => by
  obtain ⟨b, first, rfl⟩ := Option.map_eq_some_iff.1 named
  exact h (by rw [first, BitVec.ofNat_toNat, BitVec.setWidth_eq])

theorem request_idle {s : State} {code : Nat} (next : s.nextOf code = none) (length : Nat)
    (run : State → PendingRequest → State) : s.request code length run = s := by
  rw [State.request, next]

theorem request_outOfFormat {s : State} {r : PendingRequest} {code length : Nat} (next : s.nextOf code = some r)
    (wrong : r.payload.length ≠ length) (run : State → PendingRequest → State) :
    s.request code length run = s.takeRequest.outOfFormat r := by
  rw [State.request, next]
  exact if_neg wrong

/-! ## The request commands (R183 to R185) -/

/-- Without a request of its code at hand, the command changes nothing (log entry 3). -/
def ActsOnlyOn (code : Nat) (command : Instr) : Prop :=
  ∀ s : State, s.inProgress code = none → s.nextOf code = none → exec command s = .next s

theorem writeRecords_actsOnly (take : Option Nat) : ActsOnlyOn 2 (.writeRecords take) := fun s progress next => by
  change execWriteRecords take s = _
  rw [execWriteRecords, progress, next]

theorem writeContinue_actsOnly (take : Option Nat) : ActsOnlyOn 3 (.writeContinue take) := fun s progress next => by
  change execWriteContinue take s = _
  rw [execWriteContinue, progress, next]

/-- A read that is not in execution yet is a request of fixed length. -/
theorem execReadRecords_begins {s : State} (progress : s.inProgress 4 = none) (take : Option Nat) :
    exec (.readRecords take) s = .next (s.request 4 2 (fun t r =>
      t.judgedRead r take (t.namedWindow (fieldAt r.payload 1 1)))) := by
  change execReadRecords take s = _
  rw [execReadRecords, progress]

theorem execReadContinue_begins {s : State} (progress : s.inProgress 5 = none) (take : Option Nat) :
    exec (.readContinue take) s = .next (s.request 5 1 (fun t r => t.judgedRead r take t.presentWindow)) := by
  change execReadContinue take s = _
  rw [execReadContinue, progress]

theorem readRecords_actsOnly (take : Option Nat) : ActsOnlyOn 4 (.readRecords take) := fun _ progress next => by
  rw [execReadRecords_begins progress, request_idle next]

theorem readContinue_actsOnly (take : Option Nat) : ActsOnlyOn 5 (.readContinue take) := fun _ progress next => by
  rw [execReadContinue_begins progress, request_idle next]

theorem requestOutOfFormat_idle {s : State} (next : s.nextRequest = none) : exec .requestOutOfFormat s = .next s := by
  change execRequestOutOfFormat s = _
  rw [execRequestOutOfFormat, next]

/-- R183, R184: REQUEST_OUT_OF_FORMAT answers a payload that names no request. -/
theorem requestOutOfFormat_unlisted {s : State} {r : PendingRequest} (next : s.nextRequest = some r)
    (unlisted : ∀ c, requestCode r.payload = some c → c = 0 ∨ 25 < c) :
    exec .requestOutOfFormat s = .next (s.takeRequest.outOfFormat r) := by
  change execRequestOutOfFormat s = _
  rw [execRequestOutOfFormat, next]
  dsimp only
  cases named : requestCode r.payload with
  | none => rfl
  | some c =>
    have notListed : ¬ codeListed c = true := by
      have := unlisted c named
      simp only [codeListed, Bool.and_eq_true, decide_eq_true_eq]
      omega
    exact congrArg _ (if_neg notListed)

/-- R183: a WRITE_RECORDS without a table code is out of format. -/
theorem writeRecords_short {s : State} {r : PendingRequest} (next : s.nextOf 2 = some r) (short : r.payload.length < 2)
    (take : Option Nat) : exec (.writeRecords take) s = .next (s.takeRequest.outOfFormat r) := by
  change execWriteRecords take s = _
  rw [execWriteRecords, inProgress_of_idle (idle_of_nextOf next), next]
  exact congrArg _ (if_neg (Nat.not_le_of_lt short))

/-- R183: the requests of one length each: command, code, octets of the payload. -/
def fixedRequests : List (Instr × Nat × Nat) :=
  [(.setWindow, 1, 6), (.readRecords none, 4, 2), (.readContinue none, 5, 1), (.setReturnLimit, 6, 3),
   (.barSite, 7, 5), (.clearSite, 8, 5), (.removeSite, 9, 5), (.writeProduct, 10, 35), (.stageProduct, 11, 2),
   (.cancelStage, 12, 2), (.applyNow, 13, 2), (.createOffer, 14, 17), (.updateOffer, 15, 12), (.submitOffer, 16, 3),
   (.withdrawOffer, 17, 3), (.retireOffers, 18, 14), (.readOfferReserved, 19, 3), (.updateOfferConditional, 20, 13),
   (.requestCensus, 21, 3), (.readStatus, 22, 1), (.readLinkErrors, 23, 1), (.setParameters, 24, 39),
   (.restart, 25, 1)]

/-- The command judges code and length of the request before it runs it, unless one of its code is in execution. -/
def Judges (x : Instr × Nat × Nat) : Prop :=
  ∀ s : State, s.inProgress x.2.1 = none → ∃ run, exec x.1 s = .next (s.request x.2.1 x.2.2 run)

theorem fixedRequests_judge : ∀ x ∈ fixedRequests, Judges x := by
  simp only [fixedRequests, List.forall_mem_cons]
  refine ⟨fun _ _ => ⟨_, rfl⟩, fun _ progress => ⟨_, execReadRecords_begins progress none⟩,
    fun _ progress => ⟨_, execReadContinue_begins progress none⟩, ?_⟩
  and_intros
  iterate 20 exact fun _ _ => ⟨_, rfl⟩
  exact List.forall_mem_nil _

theorem Judges.actsOnly {x : Instr × Nat × Nat} (h : Judges x) : ActsOnlyOn x.2.1 x.1 := fun s progress next => by
  obtain ⟨run, judged⟩ := h s progress
  rw [judged, request_idle next]

theorem Judges.outOfFormat {x : Instr × Nat × Nat} (h : Judges x) {s : State} {r : PendingRequest}
    (next : s.nextOf x.2.1 = some r) (wrong : r.payload.length ≠ x.2.2) :
    exec x.1 s = .next (s.takeRequest.outOfFormat r) := by
  obtain ⟨run, judged⟩ := h s (inProgress_of_idle (idle_of_nextOf next) _)
  rw [judged, request_outOfFormat next wrong]

/-- R184: while the arbiter makes no choice, responding places the response and ends the execution, nothing else. -/
theorem respond_of_gridHolds {s : State} (holds : s.gridHolds = true) (r : PendingRequest) (e : Option Reason)
    (b : Octets) :
    let x : Response := { sequence := r.sequence, code := (requestCode r.payload).getD 0, refusal := e, body := b }
    s.respond r e b = { s with
      management := { s.management with inExecution := none }
      arbiter := { s.arbiter with response := some x } } := by
  intro x
  rw [State.respond, State.placeResponse]
  exact afterPlacing_of_gridHolds (by exact holds) _

/-- Settles O45: a command without its request at hand acts on nothing, and the head of the queue is judged by its code and
length. -/
theorem requestsWaitTheirTurnAndFormatsAreJudged : Obligations.RequestsWaitTheirTurnAndFormatsAreJudged := by
  unfold Obligations.RequestsWaitTheirTurnAndFormatsAreJudged
  intro fixed refused
  have judge : ∀ x ∈ fixed, Judges x := fixedRequests_judge
  refine ⟨fun s idle waits => ?_, fun s x busy => ?_, fun s r rest idle free queue => ?_, fun s r e b holds filled => ?_⟩
  · have unready : s.nextRequest = none := nextRequest_none (.inr waits.symm)
    have quiet {code : Nat} {command : Instr} (h : ActsOnlyOn code command) : exec command s = .next s :=
      h s (inProgress_of_idle idle _) (nextOf_none unready _)
    exact ⟨fun x listed => quiet (judge x listed).actsOnly, quiet (writeRecords_actsOnly _),
      quiet (writeContinue_actsOnly _), requestOutOfFormat_idle unready⟩
  · have unready : s.nextRequest = none := nextRequest_none (.inl (by rw [busy]; rfl))
    have quiet {code : Nat} {command : Instr} (h : ActsOnlyOn code command)
        (other : x.request.payload.head? ≠ some (BitVec.ofNat 8 code)) : exec command s = .next s :=
      h s (inProgress_other busy (requestCode_ne other)) (nextOf_none unready _)
    exact ⟨fun y listed => quiet (judge y listed).actsOnly, fun _ => quiet (writeRecords_actsOnly _),
      fun _ => quiet (writeContinue_actsOnly _), fun _ => quiet (readRecords_actsOnly _),
      fun _ => quiet (readContinue_actsOnly _), requestOutOfFormat_idle unready⟩
  · have head := nextRequest_head idle free queue
    have next {code : Nat} (filled : r.payload ≠ []) (named : fieldAt r.payload 0 1 = code) : s.nextOf code = some r :=
      nextOf_of_nextRequest head (named ▸ requestCode_of_ne_nil filled)
    refine ⟨?_, fun x listed filled named => (judge x listed).outOfFormat (next filled named),
      fun filled named short => writeRecords_short (next filled named) short _, fun unlisted => ?_⟩
    · rw [State.takeRequest, queue]
      rfl
    · refine requestOutOfFormat_unlisted head fun c named => ?_
      have filled : r.payload ≠ [] := fun empty => by
        rw [empty] at named
        cases named
      rw [requestCode_of_ne_nil filled, Option.some_inj] at named
      exact named ▸ unlisted.resolve_left filled
  · intro x
    rw [respond_of_gridHolds holds, requestCode_of_ne_nil filled]
    rfl

/-! ## SET_WINDOW and SET_RETURN_LIMIT (R187, R189) -/

theorem TableName.ofCode_code (t : TableName) : TableName.ofCode t.code = some t := by
  cases t <;> rfl

theorem TableName.ofCode_unlisted {n : Nat} (h : n = 0 ∨ 7 < n) : TableName.ofCode n = none := by
  unfold TableName.ofCode
  split
  case h_8 => rfl
  all_goals omega

/-- R187: a listed code is the code of a table. -/
theorem TableName.exists_code {n : Nat} (low : 1 ≤ n) (high : n ≤ 7) : ∃ t : TableName, t.code = n := by
  interval_cases n
  exacts [⟨.sites, rfl⟩, ⟨.feeders, rfl⟩, ⟨.products, rfl⟩, ⟨.offers, rfl⟩, ⟨.roster, rfl⟩, ⟨.snapshot, rfl⟩,
    ⟨.performance, rfl⟩]

theorem windowNamed_unlisted {o : Octets} (h : fieldAt o 1 1 = 0 ∨ 7 < fieldAt o 1 1) : windowNamed o = none := by
  rw [windowNamed, TableName.ofCode_unlisted h]

/-- R187: the window of a listed table, when its indices are in order and within the table. -/
theorem windowNamed_listed {o : Octets} {t : TableName} (named : t.code = fieldAt o 1 1) : windowNamed o =
    if fieldAt o 2 2 ≤ fieldAt o 4 2 ∧ fieldAt o 4 2 ≤ t.lastIndex then
      some { table := t, first := fieldAt o 2 2, last := fieldAt o 4 2, readCursor := fieldAt o 2 2,
             writeCursor := fieldAt o 2 2 }
    else none := by
  rw [windowNamed, ← named, TableName.ofCode_code]

theorem setWindow_refused {s : State} {r : PendingRequest} (h : windowNamed r.payload = none) :
    s.setWindow r = s.respond r (some .badField) [] := by
  rw [State.setWindow, h]
  rfl

theorem setWindow_taken {s : State} {r : PendingRequest} {w : TableWindow} (h : windowNamed r.payload = some w) :
    s.setWindow r = (s.setWindowTo w).respond r none [] := by
  rw [State.setWindow, h]
  rfl

/-- Settles O46, by the checks of the two requests. -/
theorem windowAndReturnLimitAreSet : Obligations.WindowAndReturnLimitAreSet := by
  unfold Obligations.WindowAndReturnLimitAreSet
  refine ⟨fun s r next length => ?_, fun s r next length => ?_⟩
  · intro u code first last highest
    have run : exec .setWindow s = .next (u.setWindow r) := congrArg _ (request_run next length)
    refine ⟨fun unlisted => ?_, fun t named => ⟨fun outside => ?_, fun inOrder within => ?_⟩⟩
    · rw [run, setWindow_refused (windowNamed_unlisted unlisted)]
    all_goals
      have bound : highest t = t.lastIndex := by cases t <;> rfl
      have window := windowNamed_listed named
    · rw [bound] at outside
      rw [run, setWindow_refused (window.trans (if_neg (by omega)))]
    · rw [bound] at within
      rw [run, setWindow_taken (window.trans (if_pos ⟨inOrder, within⟩))]
      rfl
  · intro u limit
    have run : exec .setReturnLimit s = .next (u.setReturnLimit r) := congrArg _ (request_run next length)
    rw [run, State.setReturnLimit]
    refine ⟨fun outside => ?_, fun low high => ?_⟩
    · rw [if_neg (by omega)]
      rfl
    · rw [if_pos ⟨low, high⟩]
      rfl

end Sys2Proof.Machine

namespace Sys2Proof.Machine

/-! ## The window a write or a read is judged against (R188, R189) -/

/-- R188, R189: `x` is the judgement of the window; the request names the table of code `named` where `names` holds. -/
structure WindowJudged (s : State) (names : Prop) (named : Nat) (x : Except Reason TableWindow) : Prop where
  unset : s.management.window = none → x = .error .wrongState
  unlisted : ∀ w, s.management.window = some w → names → named = 0 ∨ 7 < named → x = .error .badField
  other : ∀ w, s.management.window = some w → names → 1 ≤ named → named ≤ 7 → named ≠ w.table.code →
    x = .error .wrongState
  chosen : ∀ w, s.management.window = some w → (names → named = w.table.code) → x = .ok w

theorem namedWindow_judged (s : State) {names : Prop} (h : names) (named : Nat) :
    WindowJudged s names named (s.namedWindow named) where
  unset unset := by rw [State.namedWindow, unset]
  unlisted w set _ unlisted := by
    simp only [State.namedWindow, set, TableName.ofCode_unlisted unlisted]
  other w set _ low high other := by
    obtain ⟨t, rfl⟩ := TableName.exists_code low high
    have differs : t ≠ w.table := fun same => other (same ▸ rfl)
    simp only [State.namedWindow, set, TableName.ofCode_code, if_neg differs]
  chosen w set same := by
    simp only [State.namedWindow, set, same h, TableName.ofCode_code, if_true]

theorem presentWindow_judged (s : State) {names : Prop} (h : ¬ names) (named : Nat) :
    WindowJudged s names named s.presentWindow where
  unset unset := by rw [State.presentWindow, unset]
  unlisted _ _ yes := absurd yes h
  other _ _ yes := absurd yes h
  chosen w set _ := by rw [State.presentWindow, set]

/-! ## Records cut from a payload (R188) -/

/-- Runs of `size` octets cut from a whole number of records are those records; the first `n` left out. -/
theorem chunks_eq_slices {size : Nat} (positive : 0 < size) (o : Octets) (n k fuel : Nat)
    (whole : o.length = (n + k) * size) (enough : k ≤ fuel) :
    chunks fuel size (o.drop (n * size)) = (List.range' n k).map (fun i => slice o (i * size) size) := by
  have length : (o.drop (n * size)).length = k * size := by
    rw [List.length_drop, whole, Nat.add_mul, Nat.add_sub_cancel_left]
  induction k generalizing n fuel with
  | zero =>
    rw [Nat.zero_mul] at length
    rw [List.length_eq_zero_iff.1 length]
    cases fuel <;> rfl
  | succ k ih =>
    obtain ⟨fuel, rfl⟩ : ∃ f, fuel = f + 1 := ⟨fuel - 1, by omega⟩
    have filled : ¬ (o.drop (n * size)).isEmpty = true := fun empty => by
      rw [List.isEmpty_iff.1 empty, List.length_nil, Nat.succ_mul] at length
      omega
    have next : (o.drop (n * size)).drop size = o.drop ((n + 1) * size) := by
      rw [List.drop_drop, Nat.succ_mul]
    rw [chunks, if_neg filled, next, List.range'_succ, List.map_cons,
      ih (n + 1) fuel (by rw [whole]; ring) (Nat.le_of_succ_le_succ enough)
        (by rw [← next, List.length_drop, length, Nat.succ_mul, Nat.add_sub_cancel])]
    rfl

/-- The records after the first `n` are the octets after them. -/
theorem flatten_slices {size : Nat} (positive : 0 < size) (o : Octets) (n k : Nat)
    (whole : o.length = (n + k) * size) :
    ((List.range' n k).map (fun i => slice o (i * size) size)).flatten = o.drop (n * size) := by
  rw [← chunks_eq_slices positive o n k (k + o.length) whole (Nat.le_add_right _ _)]
  exact (chunks_spec positive _ _ (by rw [List.length_drop]; omega)).1

/-! ## A write, record by record (R188) -/

section WriteRun
variable {s t : State} {w : TableWindow} {r : PendingRequest} {take : Option Nat} {applied : Nat} {marks : BitVec 8}
  {o : Octets} {more : List Octets}

theorem writeRun_full (beyond : w.last < w.writeCursor) : State.writeRun (o :: more) take applied marks w r s =
    s.respond r (some .windowFull) (writeBody w applied marks) := by
  rw [State.writeRun, if_pos beyond]

theorem writeRun_stopped (within : w.writeCursor ≤ w.last) :
    State.writeRun (o :: more) (some 0) applied marks w r s = s.setManagement { s.management with
      inExecution := some { request := r, progress := .writing (o :: more) applied marks } } := by
  rw [State.writeRun, if_neg (Nat.not_lt_of_le within), if_pos rfl]

theorem writeRun_refused (within : w.writeCursor ≤ w.last) (goesOn : take ≠ some 0) {e : Reason}
    (refused : s.writeRecord w.table w.writeCursor o = .error e) :
    State.writeRun (o :: more) take applied marks w r s = s.respond r (some e) (writeBody w applied marks) := by
  rw [State.writeRun, if_neg (Nat.not_lt_of_le within), if_neg goesOn, refused]

theorem writeRun_applied (within : w.writeCursor ≤ w.last) (goesOn : take ≠ some 0) {p : Option Product}
    (written : s.writeRecord w.table w.writeCursor o = .ok (t, p)) :
    State.writeRun (o :: more) take applied marks w r s =
      State.writeRun more (budgetLess take) (applied + 1) (withMark marks p)
        { w with writeCursor := w.writeCursor + 1 } r (t.setWindowTo { w with writeCursor := w.writeCursor + 1 }) := by
  rw [State.writeRun, if_neg (Nat.not_lt_of_le within), if_neg goesOn, written]

end WriteRun

/-- R188: the window after `n` records were written. -/
def TableWindow.written (w : TableWindow) (n : Nat) : TableWindow := { w with writeCursor := w.writeCursor + n }

/-- R188, step 4: along `at_` the first `n` records are applied in turn, and `marks` collects the staged marks removed. -/
def AppliedInTurn (w : TableWindow) (record : Nat → Octets) (at_ : Nat → State) (marks : Nat → BitVec 8) (n : Nat) :
    Prop :=
  ∀ i, i < n → w.writeCursor + i ≤ w.last ∧ ∃ (v : State) (p : Option Product),
    (at_ i).writeRecord w.table (w.writeCursor + i) (record i) = .ok (v, p) ∧
    at_ (i + 1) = v.setWindowTo (w.written (i + 1)) ∧ marks (i + 1) = withMark (marks i) p

/-- What is left of a budget of record events after `n`. -/
def budgetAfter (take : Option Nat) (n : Nat) : Option Nat := take.map (fun k => k - n)

@[simp] theorem budgetAfter_zero (take : Option Nat) : budgetAfter take 0 = take := by
  cases take <;> rfl

theorem budgetLess_budgetAfter (take : Option Nat) (n : Nat) :
    budgetLess (budgetAfter take n) = budgetAfter take (n + 1) := by
  cases take <;> rfl

theorem budgetAfter_self (n : Nat) : budgetAfter (some n) n = some 0 := congrArg some (Nat.sub_self n)

/-- A step without a budget takes any number of record events. -/
theorem unbounded (n : Nat) : ∀ k, (none : Option Nat) = some k → n ≤ k := fun _ h => by cases h

theorem unbounded_goesOn : (none : Option Nat) ≠ some 0 := nofun

/-- A budget that holds `n` events and is not just used up by them goes on. -/
theorem budgetAfter_ne_zero {take : Option Nat} {n : Nat} (enough : ∀ k, take = some k → n ≤ k)
    (more : take ≠ some n) : budgetAfter take n ≠ some 0 := by
  cases take with
  | none => exact unbounded_goesOn
  | some k =>
    have := enough k rfl
    have : k ≠ n := fun same => more (congrArg some same)
    simp only [budgetAfter, Option.map_some, ne_eq, Option.some.injEq]
    omega

theorem budgetAfter_goesOn {take : Option Nat} {n : Nat} (enough : ∀ k, take = some k → n + 1 ≤ k) :
    budgetAfter take n ≠ some 0 :=
  budgetAfter_ne_zero (fun k h => Nat.le_of_succ_le (enough k h)) fun h => absurd (enough n h) (Nat.not_succ_le_self n)

/-- R188: a write whose first `n` records are applied in turn goes on after them. -/
theorem writeRun_inTurn {w : TableWindow} {record : Nat → Octets} {at_ : Nat → State} {marks : Nat → BitVec 8}
    {n : Nat} {take : Option Nat} (r : PendingRequest) (chain : AppliedInTurn w record at_ marks n)
    (enough : ∀ k, take = some k → n ≤ k) (left : Nat) :
    State.writeRun ((List.range' 0 (n + left)).map record) take 0 (marks 0) w r (at_ 0) =
      State.writeRun ((List.range' n left).map record) (budgetAfter take n) n (marks n) (w.written n) r (at_ n) := by
  induction n generalizing left with
  | zero => rw [Nat.zero_add, budgetAfter_zero]; rfl
  | succ n ih =>
    obtain ⟨within, v, p, written, next, marked⟩ := chain n (Nat.lt_succ_self n)
    have before := ih (fun i h => chain i (Nat.lt_succ_of_lt h)) (fun k h => Nat.le_of_succ_le (enough k h)) (left + 1)
    rw [Nat.add_right_comm, Nat.add_assoc, before, List.range'_succ, List.map_cons,
      writeRun_applied (w := w.written n) within (budgetAfter_goesOn enough) written, budgetLess_budgetAfter, next, marked]
    rfl

/-- The two writes: command, code, octets ahead of the records. -/
def IsWrite (command : Option Nat → Instr) (code fixed : Nat) : Prop :=
  (command = Instr.writeRecords ∧ code = 2 ∧ fixed = 2) ∨ (command = Instr.writeContinue ∧ code = 3 ∧ fixed = 1)

/-- R188: a write that may begin, with the window's judgement. -/
theorem write_begins {command : Option Nat → Instr} {code fixed : Nat} (h : IsWrite command code fixed)
    {s : State} {r : PendingRequest} (next : s.nextOf code = some r) (length : fixed ≤ r.payload.length) :
    ∃ x, WindowJudged s (code = 2) (fieldAt r.payload 1 1) x ∧
      ∀ take, exec (command take) s = .next (s.takeRequest.judgedWrite r fixed take x) := by
  have idle := inProgress_of_idle (idle_of_nextOf next)
  rcases h with ⟨rfl, rfl, rfl⟩ | ⟨rfl, rfl, rfl⟩
  · refine ⟨_, namedWindow_judged s rfl _, fun take => ?_⟩
    change execWriteRecords take s = _
    rw [execWriteRecords, idle, next]
    exact congrArg _ (if_pos length)
  · refine ⟨_, presentWindow_judged s (by decide) _, fun take => ?_⟩
    change execWriteContinue take s = _
    rw [execWriteContinue, idle, next]

theorem beginWrite_readOnly {s : State} {w : TableWindow} (h : w.table.writeSize = none) (r : PendingRequest)
    (fixed : Nat) (take : Option Nat) : s.beginWrite r fixed take w = s.respond r (some .readOnly) [] := by
  rw [State.beginWrite, h]

theorem beginWrite_partial {s : State} {w : TableWindow} {size : Nat} (h : w.table.writeSize = some size)
    {r : PendingRequest} {fixed : Nat} (part : (r.payload.length - fixed) % size ≠ 0) (take : Option Nat) :
    s.beginWrite r fixed take w = s.outOfFormat r := by
  rw [State.beginWrite, h]
  exact if_neg part

theorem writeSize_positive {t : TableName} {size : Nat} (h : t.writeSize = some size) : 0 < size := by
  cases t <;> cases h <;> decide

/-- R188: the records of a write that carries a whole number of them. -/
theorem beginWrite_whole {s : State} {w : TableWindow} {size : Nat} (h : w.table.writeSize = some size)
    {r : PendingRequest} {fixed : Nat} (whole : (r.payload.length - fixed) % size = 0) (take : Option Nat) :
    s.beginWrite r fixed take w = State.writeRun ((List.range' 0 ((r.payload.length - fixed) / size)).map
      (fun i => slice (r.payload.drop fixed) (i * size) size)) take 0 0 w r s := by
  have records := chunks_eq_slices (writeSize_positive h) (r.payload.drop fixed) 0 ((r.payload.length - fixed) / size)
    (r.payload.length - fixed) (by rw [List.length_drop, Nat.zero_add, Nat.div_mul_cancel (Nat.dvd_of_mod_eq_zero whole)])
    (Nat.div_le_self _ _)
  rw [Nat.zero_mul, List.drop_zero] at records
  rw [State.beginWrite, h, ← records]
  exact if_pos whole

/-- Settles O47: the window is judged, and from the state after `n` records each clause is one case of the record loop. -/
theorem writesTakeRecordsInOrder : Obligations.WritesTakeRecordsInOrder := by
  unfold Obligations.WritesTakeRecordsInOrder
  intro command code fixed which s r take next length u octets refused named
  obtain ⟨x, judged, run⟩ := write_begins which next length
  have refuse {e : Reason} (h : x = .error e) : refused e := by
    subst h
    exact run take
  refine ⟨fun unset => refuse (judged.unset unset), fun w set => ⟨fun names unlisted =>
    refuse (judged.unlisted w set names unlisted), fun names low high other =>
    refuse (judged.other w set names low high other), fun same => ?_⟩⟩
  have begun : exec (command take) s = .next (u.beginWrite r fixed take w) := by
    rw [run, judged.chosen w set same]
    rfl
  refine ⟨fun readOnly => ?_, fun size sized => ?_⟩
  · have unwritten : w.table.writeSize = none := by rcases readOnly with h | h | h | h <;> rw [h] <;> rfl
    exact begun.trans (congrArg _ (beginWrite_readOnly unwritten r fixed take))
  have size_eq : w.table.writeSize = some size := by
    rcases sized with ⟨h, rfl⟩ | ⟨h, rfl⟩ | ⟨h, rfl⟩ <;> rw [h] <;> rfl
  refine ⟨fun part => by rw [begun, beginWrite_partial size_eq part]; rfl, ?_⟩
  intro n at_ marks whole within enough record cursor body start clear chain
  obtain ⟨left, total⟩ := Nat.exists_eq_add_of_le within
  have records : (fun i => slice (r.payload.drop fixed) (i * size) size) = record := by
    funext i
    rw [slice, List.drop_drop]
    rfl
  have inTurn : AppliedInTurn w record at_ marks n := fun i h => by
    obtain ⟨within, v, p, written, next, marked⟩ := chain i h
    exact ⟨within, v, p, written, next, by rw [marked]; cases p <;> rfl⟩
  have gone : exec (command take) s = .next (State.writeRun ((List.range' n left).map record) (budgetAfter take n) n
      (marks n) (w.written n) r (at_ n)) := by
    rw [begun, beginWrite_whole size_eq whole, records, ← clear, ← start, total, writeRun_inTurn r inTurn enough]
  cases left with
  | zero =>
    have all : ¬ n < octets / size := by omega
    exact ⟨fun _ => gone, fun more => absurd more all, fun more => absurd more all, fun _ more => absurd more all⟩
  | succ left =>
    have rest : (List.range' n (left + 1)).map record = record n :: (List.range' (n + 1) left).map record := by
      rw [List.range'_succ, List.map_cons]
    refine ⟨fun all => by omega, fun _ beyond => ?_, fun _ inside stops => ?_, fun e _ inside goesOn refusal => ?_⟩
    · rw [gone, rest, writeRun_full (w := w.written n) beyond]
      rfl
    · subst stops
      rw [budgetAfter_self, rest, writeRun_stopped (w := w.written n) inside, ← rest, ← records] at gone
      refine ⟨_, gone, ?_⟩
      rw [flatten_slices (writeSize_positive size_eq) _ n (left + 1)
        (by rw [← total, List.length_drop, Nat.div_mul_cancel (Nat.dvd_of_mod_eq_zero whole)]), List.drop_drop]
    · rw [gone, rest, writeRun_refused (w := w.written n) inside (budgetAfter_ne_zero enough goesOn) refusal]
      rfl

end Sys2Proof.Machine

namespace Sys2Proof.Machine

/-! ## A read, record by record (R189) -/

theorem takeRequest_recordAt (s : State) : s.takeRequest.recordAt = s.recordAt := by
  funext t i
  cases t <;> rfl

/-- R189: `n` records of a table as they stand, from an index on. -/
def State.recordsFrom (s : State) (t : TableName) (first n : Nat) : Octets :=
  (List.range n).flatMap (fun i => s.recordAt t (first + i))

theorem recordsFrom_succ (s : State) (t : TableName) (first n : Nat) :
    s.recordsFrom t first (n + 1) = s.recordsFrom t first n ++ s.recordAt t (first + n) := by
  simp [State.recordsFrom, List.range_succ]

/-- R189: a read whose `n` next records are added goes on after them. -/
theorem readRun_inTurn (n left : Nat) {take : Option Nat} (first count : Nat) (records : Octets) (w : TableWindow)
    (r : PendingRequest) (s : State) (enough : ∀ k, take = some k → n ≤ k) :
    State.readRun (n + left) take first count records w r s =
      State.readRun left (budgetAfter take n) first (count + n) (records ++ s.recordsFrom w.table (first + count) n) w r
        s := by
  induction n generalizing left with
  | zero => rw [Nat.zero_add, budgetAfter_zero]; simp [State.recordsFrom]
  | succ n ih =>
    have before := ih (left + 1) (fun k h => Nat.le_of_succ_le (enough k h))
    rw [Nat.add_right_comm, Nat.add_assoc, before, State.readRun, if_neg (budgetAfter_goesOn enough),
      budgetLess_budgetAfter, List.append_assoc, ← Nat.add_assoc first, ← recordsFrom_succ]
    rfl

/-- R189: what a read leaves when it returns `n` records from `first`. -/
def State.readDone (s : State) (r : PendingRequest) (w : TableWindow) (first n : Nat) (records : Octets) : State :=
  (s.setWindowTo { w with readCursor := first + n }).respond r none (readBody w first n records)

/-- R189: a read whose records the step holds ends. -/
theorem readRun_whole (n : Nat) {take : Option Nat} (first count : Nat) (records : Octets) (w : TableWindow)
    (r : PendingRequest) (s : State) (enough : ∀ k, take = some k → n ≤ k) :
    State.readRun n take first count records w r s =
      s.readDone r w first (count + n) (records ++ s.recordsFrom w.table (first + count) n) :=
  readRun_inTurn n 0 first count records w r s enough

/-- A read that the step stops after `k` records is left in execution with the others still to add (log entry 5). -/
theorem readRun_stopped {n k : Nat} (fewer : k < n) (first : Nat) (w : TableWindow) (r : PendingRequest) (s : State) :
    State.readRun n (some k) first 0 [] w r s = s.setManagement { s.management with
      inExecution := some ⟨r, .reading (n - k) first k (s.recordsFrom w.table first k)⟩ } := by
  obtain ⟨left, rfl⟩ : ∃ left, n = k + (left + 1) := ⟨n - k - 1, by omega⟩
  rw [readRun_inTurn k (left + 1) first 0 [] w r s fun _ h => (Option.some.inj h).le, budgetAfter_self, State.readRun,
    if_pos rfl, Nat.add_sub_cancel_left, Nat.zero_add, List.nil_append]
  rfl

/-- The two reads: command and code. -/
def IsRead (command : Option Nat → Instr) (code : Nat) : Prop :=
  (command = Instr.readRecords ∧ code = 4) ∨ (command = Instr.readContinue ∧ code = 5)

/-- R189: a read that may begin, with the window's judgement. -/
theorem read_begins {command : Option Nat → Instr} {code : Nat} (h : IsRead command code)
    {s : State} {r : PendingRequest} (next : s.nextOf code = some r)
    (length : r.payload.length = if code = 4 then 2 else 1) :
    ∃ x, WindowJudged s (code = 4) (fieldAt r.payload 1 1) x ∧
      ∀ take, exec (command take) s = .next (s.takeRequest.judgedRead r take x) := by
  have idle := inProgress_of_idle (idle_of_nextOf next)
  rcases h with ⟨rfl, rfl⟩ | ⟨rfl, rfl⟩
  · refine ⟨_, namedWindow_judged s rfl _, fun take => ?_⟩
    rw [execReadRecords_begins (idle _)]
    exact congrArg _ (request_run next length)
  · refine ⟨_, presentWindow_judged s (by decide) _, fun take => ?_⟩
    rw [execReadContinue_begins (idle _)]
    exact congrArg _ (request_run next length)

theorem resumeRead_reading {s : State} {w : TableWindow} (set : s.management.window = some w) {x : InExecution}
    {remaining first count : Nat} {records : Octets} (progress : x.progress = .reading remaining first count records)
    (take : Option Nat) :
    s.resumeRead take x = State.readRun remaining take first count records w x.request s := by
  rw [State.resumeRead, progress, set]

/-- R189: a read in execution goes on in the window then set. -/
theorem read_resumes {command : Option Nat → Instr} {code : Nat} (h : IsRead command code)
    {s : State} {x : InExecution} (busy : s.management.inExecution = some x)
    (named : requestCode x.request.payload = some code) (take : Option Nat) :
    exec (command take) s = .next (s.resumeRead take x) := by
  have same := inProgress_same busy named
  rcases h with ⟨rfl, rfl⟩ | ⟨rfl, rfl⟩
  · change execReadRecords take s = _
    rw [execReadRecords, same]
  · change execReadContinue take s = _
    rw [execReadContinue, same]

/-! ## The sizes of the records (section 11.5) -/

@[simp] theorem zeros_length (w : Nat) : (zeros w).length = w := List.length_replicate

@[simp] theorem signedOctets_length (w : Nat) (v : Int) : (signedOctets w v).length = w := octetsOf_length w _

@[simp] theorem optOctets_length (w : Nat) (v : Option Nat) : (optOctets w v).length = w := octetsOf_length w _

@[simp] theorem flagOctet_length (b : Bool) : (flagOctet b).length = 1 := rfl

@[simp] theorem flagsOctet_length (l : List Bool) : (flagsOctet l).length = 1 := rfl

@[simp] theorem CondSet.octet_length (c : CondSet) : c.octet.length = 1 := rfl

@[simp] theorem PerProduct.toList_length {α : Type} (x : PerProduct α) : x.toList.length = 8 := rfl

@[simp] theorem DispatchRecord.octets_length (d : DispatchRecord) : d.octets.length = 57 := by
  simp [DispatchRecord.octets]

@[simp] theorem StaticFields.octets_length (f : StaticFields) (tag : Octets) :
    (f.octets tag).length = tag.length + 14 := by
  simp [StaticFields.octets]
  omega

@[simp] theorem reportOctets_length (r : Option ReportFields) (now : Nat) : (reportOctets r now).length = 33 := by
  cases r <;> simp [reportOctets]

@[simp] theorem Bank.octets_length (b : Bank) : b.octets.length = 33 := by
  simp [Bank.octets]

@[simp] theorem Offer.octets_length (o : Offer) (position : Nat) : (o.octets position).length = 32 := by
  simp [Offer.octets]

@[simp] theorem WindowRecord.octets_length (w : WindowRecord) : w.octets.length = 27 := by
  simp [WindowRecord.octets]

theorem siteRecord_length (s : State) (slot : Nat) : (s.siteRecord slot).length = 132 := by
  unfold State.siteRecord
  dsimp only
  split <;> simp

theorem feederRecord_length (s : State) (f : Nat) : (s.feederRecord f).length = 11 := by
  simp [State.feederRecord, feederStateOctet]

theorem offerRecord_length (s : State) (position : Nat) : (s.offerRecord position).length = 32 := by
  unfold State.offerRecord
  split <;> simp

theorem rosterRecord_length (s : State) (slot : Nat) : (s.rosterRecord slot).length = 44 := by
  unfold State.rosterRecord
  split <;> simp

theorem productRecord_length (s : State) (p : Product) : (s.productRecord p).length = 68 := by
  simp [State.productRecord]

theorem snapshotRecord_length (s : State) (p : Product) : (s.snapshotRecord p).length = 33 := by
  unfold State.snapshotRecord
  split <;> simp

/-- Section 11.5: the window history fills its four places. -/
theorem performanceRecord_length {s : State} {p : Product} (h : (s.mon p).history.length ≤ 4) :
    (s.performanceRecord p).length = 160 := by
  simp [State.performanceRecord, Config.historySize]
  omega

/-- A product number up to 7 names a product. -/
theorem productRecordAt_length {n size : Nat} (listed : n ≤ 7) {f : Product → Octets} (h : ∀ p, (f p).length = size) :
    (productRecordAt n f).length = size := by
  have named : productOf n = some ⟨n, Nat.lt_succ_of_le listed⟩ := dif_pos _
  rw [productRecordAt, named]
  exact h _

/-- Settles O50: the reads add their records in turn, and each record has its table's size. -/
theorem readsReturnRecordsInOrder : Obligations.ReadsReturnRecordsInOrder := by
  unfold Obligations.ReadsReturnRecordsInOrder
  refine ⟨fun command code which => ?_, fun s i => ⟨siteRecord_length s i, feederRecord_length s i,
    offerRecord_length s i, rosterRecord_length s i, fun listed =>
      ⟨productRecordAt_length listed (productRecord_length s), productRecordAt_length listed (snapshotRecord_length s),
      fun short => productRecordAt_length listed fun p => performanceRecord_length (short p)⟩⟩⟩
  intro whole
  have whole_eq (u : State) (r : PendingRequest) (w : TableWindow) (first n : Nat) (records : Octets) :
      u.readDone r w first n records = whole u r w first n records := by
    simp only [State.readDone, readBody, flagOctet, decide_eq_true_eq]
    rfl
  refine ⟨fun s r take next length => ?_, fun s r w rest first k done busy named set => ?_⟩
  · intro u refused named
    obtain ⟨x, judged, run⟩ := read_begins which next length
    have refuse {e : Reason} (h : x = .error e) : refused e := by
      subst h
      exact run take
    refine ⟨fun unset => refuse (judged.unset unset), fun w set => ?_⟩
    intro size fitting n first records
    have size_eq : size = w.table.readSize := by
      unfold size
      cases w.table <;> rfl
    have count : readCount w u.management.returnLimit = n := by
      change readCount w _ = if _ then _ else max 1 (min _ ((_ - 12) / size))
      rw [size_eq]
      rfl
    have begun (same : code = 4 → named = w.table.code) :
        exec (command take) s = .next (State.readRun n take first 0 [] w r u) := by
      rw [run, judged.chosen w set same, State.judgedRead, count]
    have found (k : Nat) : u.recordsFrom w.table first k = records k := by
      rw [State.recordsFrom, takeRequest_recordAt]
    refine ⟨fun names unlisted => refuse (judged.unlisted w set names unlisted), fun names low high other =>
      refuse (judged.other w set names low high other), fun same enough => ?_, fun k same stops fewer => ?_⟩
    · rw [begun same, readRun_whole n first 0 [] w r u enough, Nat.zero_add, Nat.add_zero, List.nil_append, found,
        whole_eq]
    · intro x
      rw [begun same, stops, readRun_stopped fewer, found]
      rfl
  · rw [read_resumes which busy named none, resumeRead_reading set rfl]
    refine congrArg _ ((readRun_whole rest first k done w r s (unbounded rest)).trans ?_)
    rw [whole_eq]
    rfl

end Sys2Proof.Machine

namespace Sys2Proof.Machine

/-! ## Records are judged and applied alike while their request is in execution (R184)

No record's judgement or effect reads which request is in execution, so a write goes on from a stop as it would have
without it. -/

/-- The state with `x` in execution. -/
def State.executing (s : State) (x : Option InExecution) : State :=
  s.setManagement { s.management with inExecution := x }

section Executing
variable (s : State) (x : Option InExecution)

theorem executing_trigger : (s.executing x).trigger = s.trigger.executing x := by
  cases pass : s.allocation.pass with
  | none =>
    rw [trigger_of_idle pass, trigger_of_idle (s := s.executing x) pass]
    rfl
  | some l =>
    rw [trigger_of_running pass, trigger_of_running (s := s.executing x) pass]
    rfl

theorem executing_signalExclusion (slot : Nat) (was : Bool) :
    (s.executing x).signalExclusion slot was = (s.signalExclusion slot was).executing x := by
  unfold State.signalExclusion
  rw [executing_trigger]
  exact (apply_ite (State.executing · x) _ _ _).symm

theorem executing_moveCount (f g : Nat) : (s.executing x).moveCount f g = (s.moveCount f g).executing x := by
  unfold State.moveCount
  split <;> rfl

/-- R12: a load, in each of its three cases. -/
theorem executing_loadSite (slot : Nat) (f : StaticFields) :
    (s.executing x).loadSite slot f = (s.loadSite slot f).executing x := by
  cases held : s.siteAt slot with
  | none =>
    rw [loadSite_vacant held, loadSite_vacant (s := s.executing x) held]
    rfl
  | some y =>
    by_cases same : y.static.siteNumber = f.siteNumber
    · rw [loadSite_same held same, loadSite_same (s := s.executing x) held same, ← executing_signalExclusion,
        ← executing_moveCount]
      rfl
    · rw [loadSite_other held same, loadSite_other (s := s.executing x) held same, ← executing_signalExclusion,
        ← executing_moveCount]
      rfl

theorem executing_writeFeeder (f up down : Nat) (enabled : Bool) :
    (s.executing x).writeFeeder f up down enabled = (s.writeFeeder f up down enabled).executing x := by
  unfold State.writeFeeder
  dsimp only
  rw [apply_ite (State.executing · x), ← executing_trigger]
  rfl

theorem executing_writeBank (p : Product) (o : Octets) :
    (s.executing x).writeBank p o = (s.writeBank p o).map (fun u => (u.1.executing x, u.2)) := by
  unfold State.writeBank
  cases parseBank o with
  | none => rfl
  | some b =>
    dsimp only
    split <;> rfl

/-- The judgement of a record is the same, and so is the state it leaves but for the request in execution. -/
theorem executing_writeRecord (t : TableName) (i : Nat) (o : Octets) : (s.executing x).writeRecord t i o =
    (s.writeRecord t i o).map (fun u => (u.1.executing x, u.2)) := by
  cases t with
  | sites =>
    have refusal : (s.executing x).loadRefusal i (parseStatic o) = s.loadRefusal i (parseStatic o) := rfl
    rw [writeRecord_sites, writeRecord_sites, refusal, executing_loadSite]
    cases s.loadRefusal i (parseStatic o) <;> rfl
  | feeders =>
    rw [writeRecord_feeders, writeRecord_feeders, executing_writeFeeder]
    split <;> rfl
  | products =>
    cases named : productOf i with
    | none => simp only [State.writeRecord, named, Except.map]
    | some p =>
      simp only [State.writeRecord, named, executing_writeBank]
      cases s.writeBank p o <;> rfl
  | offers | roster | snapshot | performance => rfl

end Executing

/-- R188: a write that runs to its end does not read the request in execution. -/
theorem executing_writeRun (rest : List Octets) (applied : Nat) (marks : BitVec 8) (w : TableWindow) (r : PendingRequest)
    (s : State) (x : Option InExecution) : State.writeRun rest none applied marks w r (s.executing x) =
      State.writeRun rest none applied marks w r s := by
  induction rest generalizing applied marks w s with
  | nil => rfl
  | cons o more ih =>
    by_cases beyond : w.last < w.writeCursor
    · rw [writeRun_full beyond, writeRun_full beyond]
      rfl
    · have within := Nat.le_of_not_lt beyond
      have alike := executing_writeRecord s x w.table w.writeCursor o
      cases written : s.writeRecord w.table w.writeCursor o with
      | error e =>
        rw [written] at alike
        rw [writeRun_refused within unbounded_goesOn written, writeRun_refused within unbounded_goesOn alike]
        rfl
      | ok u =>
        rw [written] at alike
        rw [writeRun_applied within unbounded_goesOn written, writeRun_applied within unbounded_goesOn alike]
        exact ih _ _ _ (u.1.setWindowTo { w with writeCursor := w.writeCursor + 1 })

theorem executing_recordAt (s : State) (x : Option InExecution) : (s.executing x).recordAt = s.recordAt := by
  funext t i
  cases t <;> rfl

/-- R189: a read that runs to its end does not read the request in execution. -/
theorem executing_readRun (n first count : Nat) (records : Octets) (w : TableWindow) (r : PendingRequest) (s : State)
    (x : Option InExecution) : State.readRun n none first count records w r (s.executing x) =
      State.readRun n none first count records w r s := by
  rw [readRun_whole n first count records w r _ (unbounded n), readRun_whole n first count records w r s (unbounded n),
    State.recordsFrom, executing_recordAt]
  rfl

/-! ## A request that stops between two records (R184) -/

/-- If `t` holds a request in execution, it is one of code `code`, and going on with it by `resume` gives `whole`. -/
def ResumesTo (code : Nat) (resume : State → InExecution → State) (t whole : State) : Prop :=
  ∀ x, t.management.inExecution = some x → requestCode x.request.payload = some code ∧ resume t x = whole

section Resuming
variable {code : Nat} {resume : State → InExecution → State}

theorem respond_inExecution (s : State) (r : PendingRequest) (e : Option Reason) (b : Octets) :
    (s.respond r e b).management.inExecution = none := (placeResponse_egress _ _).inExecution

theorem ResumesTo.of_idle {t : State} (idle : t.management.inExecution = none) (whole : State) :
    ResumesTo code resume t whole := fun x busy => by
  rw [idle] at busy
  cases busy

/-- A request that is answered is not in execution. -/
theorem respond_resumesTo (s : State) (r : PendingRequest) (e : Option Reason) (b : Octets) (whole : State) :
    ResumesTo code resume (s.respond r e b) whole := .of_idle (respond_inExecution s r e b) whole

theorem resumeWrite_writing {s : State} {w : TableWindow} (set : s.management.window = some w) {x : InExecution}
    {rest : List Octets} {applied : Nat} {marks : BitVec 8} (progress : x.progress = .writing rest applied marks)
    (take : Option Nat) : s.resumeWrite take x = State.writeRun rest take applied marks w x.request s := by
  rw [State.resumeWrite, progress, set]

/-- R188: stopped at any record, a write goes on to the end it would have come to. -/
theorem writeRun_resumesTo (rest : List Octets) (take : Option Nat) (applied : Nat) (marks : BitVec 8) (w : TableWindow)
    {r : PendingRequest} {s : State} (named : requestCode r.payload = some code) (window : s.management.window = some w) :
    ResumesTo code (fun t x => t.resumeWrite none x) (State.writeRun rest take applied marks w r s)
      (State.writeRun rest none applied marks w r s) := by
  induction rest generalizing take applied marks w s with
  | nil => exact respond_resumesTo s r _ _ _
  | cons o more ih =>
    by_cases beyond : w.last < w.writeCursor
    · rw [writeRun_full beyond]
      exact respond_resumesTo s r _ _ _
    have within := Nat.le_of_not_lt beyond
    by_cases stops : take = some 0
    · subst stops
      rw [writeRun_stopped within]
      intro x busy
      cases busy
      let x : InExecution := ⟨r, .writing (o :: more) applied marks⟩
      exact ⟨named, (resumeWrite_writing (s := s.executing (some x)) (x := x) window rfl none).trans
        (executing_writeRun (o :: more) applied marks w r s _)⟩
    · cases written : s.writeRecord w.table w.writeCursor o with
      | error e =>
        rw [writeRun_refused within stops written]
        exact respond_resumesTo s r _ _ _
      | ok u =>
        rw [writeRun_applied within stops written, writeRun_applied within unbounded_goesOn written]
        exact ih _ _ _ _ rfl

theorem judgedWrite_resumesTo {s : State} {r : PendingRequest} (named : requestCode r.payload = some code) (fixed : Nat)
    (take : Option Nat) {x : Except Reason TableWindow} (window : ∀ w, x = .ok w → s.management.window = some w) :
    ResumesTo code (fun t x => t.resumeWrite none x) (s.judgedWrite r fixed take x) (s.judgedWrite r fixed none x) := by
  cases x with
  | error e => exact respond_resumesTo s r _ _ _
  | ok w =>
    unfold State.judgedWrite State.beginWrite
    dsimp only
    split
    · exact respond_resumesTo s r _ _ _
    · split
      · exact writeRun_resumesTo _ _ _ _ _ named (window w rfl)
      · exact respond_resumesTo _ r _ _ _

/-- R189: stopped at any record, a read goes on to the end it would have come to. -/
theorem readRun_resumesTo (n : Nat) (take : Option Nat) (first count : Nat) (records : Octets) (w : TableWindow)
    {r : PendingRequest} {s : State} (named : requestCode r.payload = some code) (window : s.management.window = some w) :
    ResumesTo code (fun t x => t.resumeRead none x) (State.readRun n take first count records w r s)
      (State.readRun n none first count records w r s) := by
  induction n generalizing take count records with
  | zero => exact respond_resumesTo _ r _ _ _
  | succ n ih =>
    by_cases stops : take = some 0
    · rw [State.readRun, if_pos stops]
      intro x busy
      cases busy
      let x : InExecution := ⟨r, .reading (n + 1) first count records⟩
      exact ⟨named, (resumeRead_reading (s := s.executing (some x)) (x := x) window rfl none).trans
        (executing_readRun (n + 1) first count records w r s _)⟩
    · rw [State.readRun, if_neg stops, State.readRun, if_neg unbounded_goesOn]
      exact ih _ _ _

theorem judgedRead_resumesTo {s : State} {r : PendingRequest} (named : requestCode r.payload = some code)
    (take : Option Nat) {x : Except Reason TableWindow} (window : ∀ w, x = .ok w → s.management.window = some w) :
    ResumesTo code (fun t x => t.resumeRead none x) (s.judgedRead r take x) (s.judgedRead r none x) := by
  cases x with
  | error e => exact respond_resumesTo s r _ _ _
  | ok w => exact readRun_resumesTo _ _ _ _ _ _ named (window w rfl)

end Resuming

/-- R188, R189: a window that is judged in order is the window set. -/
theorem WindowJudged.window {s : State} {names : Prop} {named : Nat} {x : Except Reason TableWindow}
    (h : WindowJudged s names named x) {w : TableWindow} (ok : x = .ok w) : s.management.window = some w := by
  subst ok
  cases set : s.management.window with
  | none => cases h.unset set
  | some v =>
    have same (yes : names) : named = v.table.code := by
      by_contra other
      by_cases unlisted : named = 0 ∨ 7 < named
      · cases h.unlisted v set yes unlisted
      · cases h.other v set yes (by omega) (by omega) other
    cases h.chosen v set same
    rfl

section Commands
variable {command : Option Nat → Instr} {code fixed : Nat}

theorem write_actsOnly (h : IsWrite command code fixed) (take : Option Nat) : ActsOnlyOn code (command take) := by
  rcases h with ⟨rfl, rfl, -⟩ | ⟨rfl, rfl, -⟩
  · exact writeRecords_actsOnly take
  · exact writeContinue_actsOnly take

theorem read_actsOnly (h : IsRead command code) (take : Option Nat) : ActsOnlyOn code (command take) := by
  rcases h with ⟨rfl, rfl⟩ | ⟨rfl, rfl⟩
  · exact readRecords_actsOnly take
  · exact readContinue_actsOnly take

variable {s : State} {r : PendingRequest}

/-- R183: only a WRITE_RECORDS can be too short, a WRITE_CONTINUE holds its code. -/
theorem write_short (h : IsWrite command code fixed) (next : s.nextOf code = some r) (short : r.payload.length < fixed)
    (take : Option Nat) : exec (command take) s = .next (s.takeRequest.outOfFormat r) := by
  rcases h with ⟨rfl, rfl, rfl⟩ | ⟨-, -, rfl⟩
  · exact writeRecords_short next short take
  · exact absurd (List.length_eq_zero_iff.1 (Nat.lt_one_iff.1 short)) (ne_nil_of_nextOf next)

theorem read_outOfFormat (h : IsRead command code) (next : s.nextOf code = some r)
    (wrong : r.payload.length ≠ if code = 4 then 2 else 1) (take : Option Nat) :
    exec (command take) s = .next (s.takeRequest.outOfFormat r) := by
  have idle := inProgress_of_idle (idle_of_nextOf next)
  rcases h with ⟨rfl, rfl⟩ | ⟨rfl, rfl⟩
  · rw [execReadRecords_begins (idle _)]
    exact congrArg _ (request_outOfFormat next wrong _)
  · rw [execReadContinue_begins (idle _)]
    exact congrArg _ (request_outOfFormat next wrong _)

/-- R188: a write in execution goes on in the window then set. -/
theorem write_resumes (h : IsWrite command code fixed) {x : InExecution} (busy : s.management.inExecution = some x)
    (named : requestCode x.request.payload = some code) (take : Option Nat) :
    exec (command take) s = .next (s.resumeWrite take x) := by
  have same := inProgress_same busy named
  rcases h with ⟨rfl, rfl, -⟩ | ⟨rfl, rfl, -⟩
  · change execWriteRecords take s = _
    rw [execWriteRecords, same]
  · change execWriteContinue take s = _
    rw [execWriteContinue, same]

end Commands

/-- R184: the command's execution with `take` may stop, and `resume` then goes on to what its whole execution gives. -/
def MayStop (command : Option Nat → Instr) (code : Nat) (resume : State → InExecution → State) (s : State)
    (take : Option Nat) : Prop :=
  ∃ t whole, exec (command take) s = .next t ∧ exec (command none) s = .next whole ∧ ResumesTo code resume t whole

theorem write_mayStop {command : Option Nat → Instr} {code fixed : Nat} (h : IsWrite command code fixed) {s : State}
    (idle : s.management.inExecution = none) (take : Option Nat) :
    MayStop command code (fun t x => t.resumeWrite none x) s take := by
  cases next : s.nextOf code with
  | none =>
    have same (take : Option Nat) : exec (command take) s = .next s :=
      write_actsOnly h take s (inProgress_of_idle idle _) next
    exact ⟨s, s, same take, same none, .of_idle idle s⟩
  | some r =>
    by_cases length : fixed ≤ r.payload.length
    · obtain ⟨x, judged, run⟩ := write_begins h next length
      exact ⟨_, _, run take, run none, judgedWrite_resumesTo (s := s.takeRequest) (requestCode_of_nextOf next) fixed take
        fun _ => judged.window⟩
    · have short := write_short h next (Nat.lt_of_not_le length)
      exact ⟨_, _, short take, short none, respond_resumesTo _ r _ _ _⟩

theorem read_mayStop {command : Option Nat → Instr} {code : Nat} (h : IsRead command code) {s : State}
    (idle : s.management.inExecution = none) (take : Option Nat) :
    MayStop command code (fun t x => t.resumeRead none x) s take := by
  cases next : s.nextOf code with
  | none =>
    have same (take : Option Nat) : exec (command take) s = .next s :=
      read_actsOnly h take s (inProgress_of_idle idle _) next
    exact ⟨s, s, same take, same none, .of_idle idle s⟩
  | some r =>
    by_cases length : r.payload.length = if code = 4 then 2 else 1
    · obtain ⟨x, judged, run⟩ := read_begins h next length
      exact ⟨_, _, run take, run none, judgedRead_resumesTo (s := s.takeRequest) (requestCode_of_nextOf next) take
        fun _ => judged.window⟩
    · have wrong := read_outOfFormat h next length
      exact ⟨_, _, wrong take, wrong none, respond_resumesTo _ r _ _ _⟩

/-- R184: what a command leaves in execution, it ends at once as if it had not stopped. -/
theorem MayStop.ends {command : Option Nat → Instr} {code : Nat} {resume : State → InExecution → State} {s t : State}
    {take : Option Nat} (h : MayStop command code resume s take)
    (resumes : ∀ x, t.management.inExecution = some x → requestCode x.request.payload = some code →
      exec (command none) t = .next (resume t x))
    (stopped : exec (command take) s = .next t) (busy : t.management.inExecution.isSome = true) :
    exec (command none) t = exec (command none) s := by
  obtain ⟨u, whole, ran, ends, resumed⟩ := h
  rw [ran] at stopped
  cases stopped
  obtain ⟨x, busy⟩ := Option.isSome_iff_exists.1 busy
  obtain ⟨named, same⟩ := resumed x busy
  rw [resumes x busy named, same, ends]

/-- Settles O48: a write or read that may stop goes on from there to the end of the whole one. -/
theorem stoppingBetweenRecordsChangesNothing : Obligations.StoppingBetweenRecordsChangesNothing := by
  unfold Obligations.StoppingBetweenRecordsChangesNothing
  intro command listed s t k idle stopped busy
  have write {code fixed : Nat} (h : IsWrite command code fixed) : exec (command none) t = exec (command none) s :=
    (write_mayStop h idle (some k)).ends (fun _ busy named => write_resumes h busy named none) stopped busy
  have read {code : Nat} (h : IsRead command code) : exec (command none) t = exec (command none) s :=
    (read_mayStop h idle (some k)).ends (fun _ busy named => read_resumes h busy named none) stopped busy
  simp only [List.mem_cons, List.not_mem_nil, or_false] at listed
  rcases listed with records | next | records | next
  · exact write (.inl ⟨records, rfl, rfl⟩)
  · exact write (.inr ⟨next, rfl, rfl⟩)
  · exact read (.inl ⟨records, rfl⟩)
  · exact read (.inr ⟨next, rfl⟩)

end Sys2Proof.Machine

/-! # Proofs about the record layouts (sections 11.4 and 11.5)

First what one field reads after another was written before it (unsigned fields, flags octets, codes), then the round
trip of each record. -/

namespace Sys2Proof.Machine

/-! ## Fields of a record -/

/-- A field past the first octets of a record is a field of what follows them. -/
@[simp] theorem fieldAt_append_right {a b : Octets} {at0 : Nat} (past : a.length ≤ at0) (w : Nat) :
    fieldAt (a ++ b) at0 w = fieldAt b (at0 - a.length) w := by
  rw [fieldAt, slice_append_right past, fieldAt]

@[simp] theorem fieldAt_append_left {a : Octets} {w : Nat} (width : a.length = w) (b : Octets) :
    fieldAt (a ++ b) 0 w = unsignedOf a := by
  rw [fieldAt, slice_append_left width]

@[simp] theorem fieldAt_all {a : Octets} {w : Nat} (width : a.length = w) : fieldAt a 0 w = unsignedOf a := by
  rw [← List.append_nil a, fieldAt_append_left width, List.append_nil]

/-- A number that fits its field is read back. -/
theorem unsignedOf_octetsOf_of_lt {w n : Nat} (fits : n < 256 ^ w) : unsignedOf (octetsOf w n) = n := by
  rw [unsignedOf_octetsOf, Nat.mod_eq_of_lt fits]

/-! ## Flags and codes (sections 11.2 and 11.4) -/

/-- R198: a flag octet names its flag. -/
@[simp] theorem optionOctet_flagOctet (b : Bool) : optionOctet (unsignedOf (flagOctet b)) = some b := by
  cases b <;> rfl

theorem Direction.code_lt (d : Direction) : d.code < 256 := by cases d <;> decide

@[simp] theorem Direction.ofCode_code (d : Direction) : Direction.ofCode d.code = some d := by
  cases d <;> rfl

theorem Mode.code_lt (m : Mode) : m.code < 256 := by cases m <;> decide

@[simp] theorem Mode.ofCode_code (m : Mode) : Mode.ofCode m.code = some m := by
  cases m <;> rfl

@[simp] theorem unsignedOf_singleton (b : Byte) : unsignedOf [b] = b.toNat := by simp [unsignedOf]

/-- The number a flags octet is made of holds the item `i` as its bit `i`. -/
theorem testBit_flagSum (bits : List Bool) (i : Nat) :
    (bits.foldr (fun b n => (if b = true then 1 else 0) + 2 * n) 0).testBit i = bits.getD i false := by
  induction bits generalizing i with
  | nil => simp
  | cons b bits ih =>
    have low (n : Nat) : (if b = true then 1 else 0) + 2 * n = Nat.bit b n := by
      cases b <;> simp [Nat.bit, Nat.add_comm]
    rw [List.foldr_cons, low]
    cases i with
    | zero => exact Nat.testBit_bit_zero b _
    | succ i => rw [Nat.testBit_bit_succ, ih, List.getD_cons_succ]

/-- Section 11.4: bit `i` of a flags octet is its item `i`. -/
theorem testBit_flagsOctet {bits : List Bool} (short : bits.length ≤ 8) (i : Nat) :
    (unsignedOf (flagsOctet bits)).testBit i = bits.getD i false := by
  rw [flagsOctet, unsignedOf_singleton, BitVec.toNat_ofNat, Nat.testBit_mod_two_pow, testBit_flagSum]
  by_cases inside : i < 8
  · rw [decide_eq_true inside, Bool.true_and]
  · rw [decide_eq_false inside, Bool.false_and, List.getD_eq_default _ _ (by omega)]

/-- Section 11.2: the octet of a condition set names the set. -/
@[simp] theorem CondSet.ofNat_octet (c : CondSet) : CondSet.ofNat (unsignedOf c.octet) = c := by
  simp only [CondSet.ofNat, CondSet.octet, testBit_flagsOctet (bits := c.bits) (Nat.le_refl 8)]
  rfl

/-! ## The three records

Each field lies at the octets it was written to, since the widths before it add up to its offset, and the ranges say
that it fits its width. -/

/-- R191: the parameter record takes 38 octets. -/
@[simp] theorem Params.octets_length (p : Params) : p.octets.length = 38 := by
  unfold Params.octets
  simp

/-- R191: a parameter record in range is read back, the conditions of its mask among them. -/
theorem parseParams_octets {p : Params} (inRange : p.inRange = true) : parseParams p.octets = p := by
  have ranges := (paramsInRange_iff p).1 inRange
  have mask := p.conditionMask.octet_length
  unfold Params.octets
  simp only [parseParams, List.append_assoc, fieldAt_append_right, fieldAt_append_left, fieldAt_all,
    octetsOf_length, mask, CondSet.ofNat_octet, Nat.reduceLeDiff, Nat.reduceSub]
  simp (disch := omega) only [unsignedOf_octetsOf_of_lt, BitVec.ofNat_toNat, BitVec.setWidth_eq]

/-- R51: the ranges of a bank's fields. -/
theorem bankInRange_iff (b : Bank) : b.inRange = true ↔
    (1 ≤ b.code ∧ b.code ≤ 65535) ∧ b.priority ≤ 7 ∧ (30 ≤ b.endurance ∧ b.endurance ≤ 3600) ∧
      (b.minBid ≤ 10000000 ∧ b.minBid ≤ b.maxBid) ∧ (1 ≤ b.increment ∧ b.increment ≤ 1000000) ∧
      (b.maxBid ≤ 100000000 ∧ b.maxBid % b.increment = 0) ∧ b.margin ≤ 500 ∧ b.gateLead ≤ 240 ∧
      (b.deadband ≤ 1000 ∧ b.deadband < b.fullDeviation ∧ b.fullDeviation ≤ 2000) ∧ b.stepThreshold ≤ 10000 ∧
      b.tolerance ≤ 500 ∧ 1 ≤ b.deficientThreshold ∧ b.deficientThreshold ≤ 255 := by
  simp only [Bank.inRange, Bool.and_eq_true, decide_eq_true_eq, and_assoc]

/-- A bank in range is read back: the codes of its flag, direction and mode are listed ones (R198). -/
theorem parseBank_octets {b : Bank} (inRange : b.inRange = true) : parseBank b.octets = some b := by
  have ranges := (bankInRange_iff b).1 inRange
  have direction := b.direction.code_lt
  have mode := b.mode.code_lt
  have flag := flagOctet_length b.enabled
  have mask := b.mask.octet_length
  simp only [parseBank, Bank.octets, List.append_assoc, fieldAt_append_right, fieldAt_append_left, fieldAt_all,
    octetsOf_length, flag, mask, CondSet.ofNat_octet, optionOctet_flagOctet, Nat.reduceLeDiff, Nat.reduceSub]
  simp (disch := omega) only [unsignedOf_octetsOf_of_lt, Direction.ofCode_code, Mode.ofCode_code]

/-- The static fields of a written site record, the tag's 16 octets among them. -/
theorem parseStatic_octets {f : StaticFields} (inRange : f.inRange = true) :
    parseStatic (f.octets (octetsOf 16 f.tag.toNat)) = f := by
  have ranges := (staticInRange_iff f).1 inRange
  simp only [parseStatic, StaticFields.octets, List.append_assoc, fieldAt_append_right, fieldAt_append_left,
    fieldAt_all, octetsOf_length, Nat.reduceLeDiff, Nat.reduceSub]
  simp (disch := omega) only [unsignedOf_octetsOf_of_lt, BitVec.ofNat_toNat, BitVec.setWidth_eq]

/-- Settles O9: for each record, its length and what is read of its octets. -/
theorem recordsRoundTrip : Obligations.RecordsRoundTrip := by
  unfold Obligations.RecordsRoundTrip
  refine ⟨fun p inRange => ⟨p.octets_length, parseParams_octets inRange⟩,
    fun b inRange => ⟨b.octets_length, parseBank_octets inRange⟩,
    fun f inRange => ⟨?_, parseStatic_octets inRange⟩⟩
  rw [StaticFields.octets_length, octetsOf_length]

end Sys2Proof.Machine

/-! # Proofs about a step: the queue of commands and the passing of time (log entry 2)

First what one step is by the queue it finds, then what idling is by what is due; each obligation reads these off. -/

namespace Sys2Proof.Machine

/-! ## A step by its queue -/

/-- With a command at the front, the step is that command's meaning. -/
theorem step_of_pending_cons {s : State} {c : Instr} {rest : List Instr} (queue : s.pending = c :: rest) :
    step s = exec c { s with pending := rest } := by
  unfold step
  rw [queue]

/-- With no command waiting, the part idles. -/
theorem step_of_pending_nil {s : State} (empty : s.pending = []) : step s = .next s.idle := by
  unfold step
  rw [empty]

/-! ## Idling by what is due -/

/-- What is due is queued. -/
theorem idle_of_due {s : State} (due : s.dueEvents ≠ []) : s.idle = { s with pending := s.dueEvents } :=
  if_neg (mt List.isEmpty_iff.1 due)

/-- With nothing due, a millisecond passes. -/
theorem idle_of_no_due {s : State} (none : s.dueEvents = []) : s.idle = s.tick :=
  if_pos (List.isEmpty_iff.2 none)

/-- R40: below its largest value the local count advances by 1, and the clock with it. -/
theorem tick_of_localTime_lt {s : State} (room : s.time.localTime < Config.time48Max) :
    s.tick = { s with time := { s.time with
      localTime := s.time.localTime + 1, clock := s.time.clock.advance } } :=
  if_pos room

/-- Settles O1: the queue is not empty, so the step is its front command's. -/
theorem stepRunsFrontCommand : Obligations.StepRunsFrontCommand := by
  unfold Obligations.StepRunsFrontCommand
  intro c rest s queue
  exact step_of_pending_cons queue

/-- Settles O2: on an empty queue the step idles; what is due decides which way, and each state of the clock advances
as R41 and R46 say. -/
theorem emptyQueueLetsTimePass : Obligations.EmptyQueueLetsTimePass := by
  unfold Obligations.EmptyQueueLetsTimePass
  intro s empty
  rw [step_of_pending_nil empty]
  refine ⟨fun due => by rw [idle_of_due due], fun none room => ?_⟩
  rw [idle_of_no_due none, tick_of_localTime_lt room]
  cases s.time.clock <;> rfl

end Sys2Proof.Machine
